-- ==== Sys2Proof/Word.lean ====
section
/-! DEFINITION. The words of the control link. -/

namespace Sys2Proof

/-- One byte of a frame (R183). -/
abbrev Byte := BitVec 8

/-- The 96 slot bits of a slot map: slot s is bit s - 1 (chapter 11, the map layout). -/
abbrev SlotSet := BitVec 96

end Sys2Proof
end

