-- ==== Sys2Proof/Syntax.lean ====
section
/-! DEFINITION. The commands of the part, one constructor for each row of spec/opcode_table.json, in its order.
A request carries the header of its frame and the payload fields its owner's rule lists, each as wide as R186
codes it. An event carries what its sensor or line reports. -/

namespace Sys2Proof

/-- The header of a request frame whose kind the constructor gives: tag and length byte (R183). -/
structure Hdr where
  tag : Byte
  len : Byte
  deriving DecidableEq, Repr

/-- The levels of the input lines at the end of a power-on or RESET-line reset (R1, R90, R74, R158; logs 7, 8). -/
structure Pins where
  trayCode : Fin 4
  homeMark : Bool
  cassette : Bool
  leader   : Bool
  tcoOpen  : Bool
  service  : Bool
  limitIn  : Bool
  limitOut : Bool
  deriving DecidableEq, Repr

/-- One action of a WRITE ENTRY payload: its code and arguments A and B (chapter 11, cue table entry). -/
structure RawAction where
  code : Byte
  a    : BitVec 16
  b    : BitVec 16
  deriving DecidableEq, Repr

/-- The two remotes (R161). -/
inductive Remote where
  | ir
  | wired
  deriving DecidableEq, Repr

/-- The two directions of the focus lens (R171, R173). -/
inductive FocusDir where
  | inward
  | outward
  deriving DecidableEq, Repr

/-- The bands of the wired ladder (R164); `noKey` is the band of no key. -/
inductive Band where
  | adv
  | rev
  | focusIn
  | focusOut
  | hold
  | noKey
  deriving DecidableEq, Repr

/-- The commands, one constructor a row of the opcode table. -/
inductive Instr where
  | powerOn (pins : Pins)
  | resetLine (pins : Pins)
  | softReset (service : Bool)
  | linkByteTimeout
  | frameReject (kind tag : Byte) (checkOk : Bool)
  | frameOverrun
  | frameSent
  | identify (h : Hdr)
  | readStatus (h : Hdr)
  | getItem (h : Hdr) (item : Byte)
  | setItem (h : Hdr) (item : Byte) (value : BitVec 16)
  | reset (h : Hdr)
  | faultClear (h : Hdr) (code : Byte)
  | setNoticeMask (h : Hdr) (mask : BitVec 24)
  | powerMode (h : Hdr) (mode : Byte)
  | step (h : Hdr) (n : Byte)
  | goto (h : Hdr) (slot : Byte)
  | pauseMove (h : Hdr)
  | continueMove (h : Hdr)
  | abortMoves (h : Hdr)
  | markSlot (h : Hdr) (slot presence hold : Byte) (value : BitVec 16)
  | setMap (h : Hdr) (num : Byte) (slots : SlotSet)
  | getMap (h : Hdr) (num : Byte)
  | selectMap (h : Hdr) (num : Byte)
  | lampOn (h : Hdr)
  | lampOff (h : Hdr)
  | fade (h : Hdr) (level duration : BitVec 16)
  | selectLamp (h : Hdr) (pos : Byte)
  | markLamp (h : Hdr) (pos cond : Byte)
  | focusNudge (h : Hdr) (dir : Byte) (duration : BitVec 16)
  | play (h : Hdr)
  | stop (h : Hdr)
  | pause (h : Hdr)
  | rewind (h : Hdr)
  | wind (h : Hdr)
  | seekCount (h : Hdr) (count : BitVec 16)
  | seekCue (h : Hdr) (index : BitVec 16)
  | setVolume (h : Hdr) (volume : Byte)
  | setCueSource (h : Hdr) (source : Byte)
  | injectCue (h : Hdr) (kind : Byte)
  | reference (h : Hdr)
  | writeEntry (h : Hdr) (index : BitVec 16) (actions : List RawAction)
  | deleteEntry (h : Hdr) (index : BitVec 16)
  | readEntry (h : Hdr) (index : BitVec 16) (mode : Byte)
  | clearTable (h : Hdr)
  | readCueLog (h : Hdr) (start : BitVec 16)
  | clearCueLog (h : Hdr)
  | chase (h : Hdr) (index : BitVec 16)
  | timerStart (h : Hdr) (period : BitVec 16)
  | timerStop (h : Hdr)
  | hold (h : Hdr)
  | continueShow (h : Hdr)
  | setTraceMode (h : Hdr) (mode : Byte) (trigger : BitVec 16) (post : Byte)
  | readTrace (h : Hdr) (k : Byte)
  | protect (h : Hdr) (item : Byte)
  | unprotect (h : Hdr)
  | lock (h : Hdr) (state : Byte)
  | trayCodeChange (code : Fin 4)
  | indexPulse (mark : Bool)
  | cycleStart
  | shutterCloseDone
  | liftDone
  | liftTimeout
  | rotateStallTimeout
  | dropPathReport
  | dropTimeout
  | seatReport
  | seatTimeout
  | settleDone
  | preheatEnd
  | fadeStep (current : Bool)
  | swapTravelEnd
  | heatUpdate (reading : Option Int)
  | fanStallTimeout
  | fanTachPulse
  | tcoLineChange (opened : Bool)
  | cassetteChange (present : Bool)
  | brakeEnd
  | reelTachPulse
  | leaderChange (present : Bool)
  | tapeStallTimeout
  | endFadeStep
  | analysisFrame (l1 l2 l3 : Byte)
  | relayOutFrameSent
  | relayOutGapEnd
  | relayInFrame (bits : BitVec 14)
  | relayInTimingError
  | relayConflictTimeout
  | autoAdvanceExpiry
  | serviceLineChange (asserted : Bool)
  | irFrame (bits : BitVec 16)
  | irReleaseTimeout
  | ladderBandChange (band : Band)
  | keyRepeat (remote : Remote)
  | entryWindowExpiry
  | powerHoldTimeout
  | focusFast
  | focusLimit (dir : FocusDir) (asserted : Bool)
  | nudgeEnd
  | syncByte
  | lengthByteAbove60
  | replyReady (place : Nat)
  | irLeader
  | irTimingError (leaderMark : Bool)
  | relayInStartPulse
  | ladderSample (sample : BitVec 10)
  deriving DecidableEq, Repr

end Sys2Proof
end

