-- ==== Sys2Proof/Decode.lean ====
section
/-! DEFINITION. The commands a word spells by the opcode table's bits. No row of the table gives bits: a command is a write or
an event, told by its name and operands, and no word spells one. -/

namespace Sys2Proof

/-- The command whose bits are `w` in `nbits` bits: the table gives no row any bits, so no word spells a command. -/
def decodeTableWord (nbits w : Nat) : Option Instr :=
  match nbits, w with
  | _, _ => none

end Sys2Proof
end

