-- ==== Sys2Proof/Config.lean ====
section
/-! DEFINITION. What the specification leaves free. Each constant has no body, so no proof can see its value. -/

namespace Sys2Proof.Config

/-- The silicon revision byte of IDENTIFY (R188 names it and gives no value). DESIGN CHOICE: free, log 9. -/
opaque siliconRevision : Byte

/-- What byte `i` of the contents of a notice of kind byte `kind` holds when it belongs to a field that is
absent: R186 and R190 give no coding for an absent notice field. DESIGN CHOICE: free, log 10. -/
opaque absentByte (kind : Nat) (i : Nat) : Byte

/-- The level of the SERVICE line that the soft reset behind a RESET's DONE reply finds, the `n`-th such reading: R158 takes
the value present then, and no command carries it. DESIGN CHOICE: free, log 6. -/
opaque serviceLevel (n : Nat) : Bool

end Sys2Proof.Config
end

