-- ==== Sys2Proof/Machine/State.lean ====
section
/-! DEFINITION. The state of the part, block by block as spec/00_scope.md cuts it, the reasons a step could stop, and
the state right after reset. Plain data throughout. -/

namespace Sys2Proof.Machine

/-! ### Words and enumerations shared by the blocks -/

/-- The reason, cause and outcome words: first the fourteen reason codes of R186's table, then the words of
the owners' chapters in alphabetical order (R186; log 11). -/
inductive Reason where
  | check
  | unknownKind
  | badArg
  | busy
  | notActive
  | notPermitted
  | noTray
  | queueFull
  | faultActive
  | tooHot
  | noLamp
  | locked
  | tableFull
  | notFound
  | aborted
  | auto
  | cancelled
  | cassette
  | chaseFailed
  | complete
  | conflict
  | cue
  | entered
  | entryFull
  | failed
  | faultClear
  | full
  | host
  | jamDrop
  | jamLift
  | key
  | kind
  | leader
  | limit
  | margin
  | noEligible
  | noEntry
  | noTape
  | nulled
  | off
  | opened
  | overtemp
  | parity
  | power
  | range
  | reached
  | refused
  | request
  | rewindStopped
  | rotateStall
  | seek
  | select
  | showCause
  | sleepEntered
  | stall
  | strikeEnd
  | superseded
  | swapEnd
  | takenOver
  | tapeEnd
  | tapeStall
  | tco
  | timing
  | wake
  deriving DecidableEq, Repr

/-- The twelve fault kinds, in code order (R191). -/
inductive FaultKind where
  | jamLift
  | jamDrop
  | rotateStall
  | trayCode
  | lampOpen
  | overtemp
  | tcoOpen
  | fanStall
  | ambientSensor
  | tapeStall
  | stuckTone
  | relayConflict
  deriving DecidableEq, Repr

/-- The remote keys (R165). -/
inductive Key where
  | digit (d : Fin 10)
  | adv
  | rev
  | focusIn
  | focusOut
  | hold
  | play
  | stop
  | lamp
  | brightUp
  | brightDown
  | goto
  | clear
  | power
  | user1
  | user2
  deriving DecidableEq, Repr

/-- The cue kinds (R115). -/
inductive CueKind where
  | advance
  | reverse
  | mark
  | hold
  | ending
  deriving DecidableEq, Repr

/-- Where a cue taken by the Cue Program comes from (R145). -/
inductive Origin where
  | tape
  | synth
  | line
  | host
  deriving DecidableEq, Repr

/-- The cue origin the part acts on (R117). -/
inductive CueSource where
  | tape
  | line
  | host
  deriving DecidableEq, Repr

/-- Presence of a slot (R8). -/
inductive Presence where
  | unknown
  | present
  | absent
  deriving DecidableEq, Repr

/-- Who last wrote a presence (R8); `unset` is the manual's NONE. -/
inductive PresenceSource where
  | learned
  | declared
  | unset
  deriving DecidableEq, Repr

/-- Who offered a move (R21). -/
inductive MoveSource where
  | host
  | remote
  | cue
  | timer
  | chase
  deriving DecidableEq, Repr

/-- A move (R21). -/
inductive Move where
  | step (n : Int)
  | goto (s : Nat)
  deriving DecidableEq, Repr

/-- The Changer's states (R20). -/
inductive Stage where
  | idle
  | target
  | dark
  | lift
  | rotate
  | drop
  | settle
  | light
  | paused
  deriving DecidableEq, Repr

/-- The pause state (R20). -/
inductive Pause where
  | clear
  | pending
  | paused
  deriving DecidableEq, Repr

/-- The gate (R36). -/
inductive Gate where
  | unknown
  | empty
  | loaded
  deriving DecidableEq, Repr

/-- The dark claim (R36). -/
inductive Claim where
  | clear
  | requested
  | held
  deriving DecidableEq, Repr

/-- CHANGE_MODE (chapter 02, The cycle). -/
inductive ChangeMode where
  | shutter
  | dissolve
  deriving DecidableEq, Repr

/-- The two directions of the tray motor (R5). -/
inductive Turn where
  | forward
  | backward
  deriving DecidableEq, Repr

/-- The lamp states (R46). -/
inductive LampState where
  | off
  | preheat
  | lit
  | swapping
  | failed
  deriving DecidableEq, Repr

/-- The lamp positions (R47). -/
inductive LampPos where
  | a
  | b
  deriving DecidableEq, Repr

/-- The condition of a lamp position record (R47). -/
inductive LampCond where
  | unknown
  | good
  | failed
  deriving DecidableEq, Repr

/-- The fades of R51. -/
inductive FadeKind where
  | strike
  | show_
  | dark
  | light
  | endFade
  | powerDown
  deriving DecidableEq, Repr

/-- The fan floor (R69); `low` stands for the manual's NONE, which counts as LOW (R70). -/
inductive FanFloor where
  | low
  | medium
  | high
  deriving DecidableEq, Repr

/-- The commanded fan level (R70). -/
inductive FanLevel where
  | off
  | low
  | medium
  | high
  deriving DecidableEq, Repr

/-- The heat zone (R72). -/
inductive Zone where
  | full
  | derate
  | trip
  deriving DecidableEq, Repr

/-- The power state (R80). -/
inductive PowerState where
  | active
  | standby
  | sleep
  deriving DecidableEq, Repr

/-- The wake sources, in the order of R85. -/
inductive WakeSource where
  | frame
  | infrared
  | ladder
  | cutOut
  deriving DecidableEq, Repr

/-- The transport states (R89). -/
inductive TapeState where
  | noTape
  | stopped
  | playing
  | paused
  | rewinding
  | winding
  | stopping
  deriving DecidableEq, Repr

/-- The count direction (R89); `still` is the manual's NONE. -/
inductive CountDir where
  | forward
  | backward
  | still
  deriving DecidableEq, Repr

/-- What the reel drive does (R89). -/
inductive ReelDrive where
  | off
  | takeUpTension
  | supplyFast
  | takeUpFast
  | brakes
  deriving DecidableEq, Repr

/-- The actuators of the deck (R89): the capstan runs at play speed, the pinch roller is engaged, the reel drive. -/
structure Actuators where
  capstan : Bool
  pinch   : Bool
  reels   : ReelDrive
  deriving DecidableEq, Repr

/-- The trace modes (R177). -/
inductive TraceMode where
  | off
  | fill
  | ring
  | ringFreeze
  | waitRing
  deriving DecidableEq, Repr

/-- The trace phases (R177); `unused` is the manual's none. -/
inductive TracePhase where
  | unused
  | ringing
  | posting
  | frozen
  | waiting
  deriving DecidableEq, Repr

/-- The timer states (R153). -/
inductive TimerState where
  | stopped
  | running
  | paused
  deriving DecidableEq, Repr

/-- The lock states (R158). -/
inductive LockState where
  | opened
  | exhibit
  deriving DecidableEq, Repr

/-- Who drives the focus motor (R172). -/
inductive FocusOwner where
  | ir
  | wired
  | host
  deriving DecidableEq, Repr

/-- The motion requests (chapter 05, Motion requests). -/
inductive MotionReq where
  | play
  | stop
  | pause
  | rewind
  | wind
  | seekCount
  deriving DecidableEq, Repr

/-- The sources of motion (chapter 05). `restart` is the SHOW PLAY of a loop restart, which R136 tells apart from other
plays; `leader` and `tapeEnd` are the brakes R96 and R97 start. -/
inductive MotionSource where
  | host
  | remote
  | show_
  | restart
  | seek
  | power
  | leader
  | tapeEnd
  deriving DecidableEq, Repr

/-! ### Notices and trace records -/

/-- The contents of a TAPE notice and of its trace record (R107). -/
structure TapeReport where
  state     : TapeState
  reel      : Nat
  zeroKnown : Bool
  cause     : Reason
  tag       : Option Byte
  outcome   : Option Reason
  reason    : Option Reason
  target    : Option Nat
  deriving DecidableEq, Repr

/-- The notices, in kind order (R190), each with the contents its owner's rule lists. -/
inductive Notice where
  | moveDone (source : MoveSource) (move : Move) (slot : Option Nat) (tag : Option Byte) (merged : Bool) (outcome : Reason)
  | moveFailed (source : MoveSource) (move : Move) (tag : Option Byte) (merged : Bool) (reason : Reason) (slot : Option Nat)
  | cue (kind : CueKind) (index : Nat) (origin : Origin) (reel : Option Nat)
  | cueSlip (expected index : Nat) (origin : Origin) (reel : Option Nat)
  | cueLost (index : Nat) (reason : Reason)
  | endOfTray (n : Int) (counted target : Nat)
  | trayIn (capacity : Nat)
  | trayOut
  | trayResync (counted : Nat)
  | lamp (state : LampState) (active : LampPos) (level : Nat) (cause : Reason)
  | lampSwapped (active : LampPos) (cause : Reason) (tag : Option Byte)
  | thermal (heat ambient : Nat) (fan : FanLevel) (ceiling : Nat) (zone : Zone) (allowed : Bool)
  | cooldownDone (heat ambient elapsed : Nat) (ended : Reason)
  | power (state : PowerState) (sleepPending : Bool) (cause : Reason) (source : Option WakeSource) (tag : Option Byte) (outcome : Option Reason)
  | tape (report : TapeReport)
  | tapeEnd (reel : Nat)
  | loopEnded (reason : Reason) (detail : Option Reason) (loops reel : Nat)
  | notify (tag index : Nat) (kind : CueKind)
  | key (key : Key) (channel : Nat)
  | entryRefused (value : Nat) (reason : Reason)
  | focusEnd (dir : FocusDir) (owner : FocusOwner) (outcome : Reason) (tag : Option Byte)
  | watermark (count : Nat)
  | frozen (count : Nat)
  | fault (kind : FaultKind) (raised : Bool) (pos : Option LampPos)
  deriving DecidableEq, Repr

/-- What a LAMP trace record carries as its last detail: the cause of a change, or the reason of a refused strike (R175). -/
inductive TraceBody where
  | cue (index : Nat) (reel : Option Nat) (kind : CueKind) (origin : Origin)
  | synth (index : Option Nat) (reel : Nat) (kind : CueKind) (entryReel : Nat)
  | missed (index : Option Nat) (reel : Nat) (kind : CueKind)
  | invalid (reel : Nat) (tones : BitVec 3)
  | cueSlip (index : Nat) (reel : Option Nat) (expected : Nat) (origin : Origin)
  | cueLost (index : Nat) (reason : Reason)
  | moveDone (slot : Option Nat) (source : MoveSource) (move : Move) (outcome : Reason)
  | moveFailed (slot : Option Nat) (source : MoveSource) (reason : Reason) (dropped : Nat)
  | trayResync (counted : Nat)
  | endOfTray (target : Nat) (n : Int) (counted : Nat)
  | lamp (level : Nat) (state : LampState) (active : LampPos) (cause : Reason)
  | thermal (heat ceiling ambient : Nat) (fan : FanLevel) (zone : Zone) (allowed : Bool)
  | faultRaised (kind : FaultKind) (pos : Option LampPos)
  | faultCleared (kind : FaultKind) (pos : Option LampPos)
  | tape (report : TapeReport)
  | tapeRefused (reel : Nat) (request : MotionReq) (reason : Reason)
  | timerLost (reason : Reason)
  | relayLost (index : Nat) (kind : CueKind) (reason : Reason)
  | relayDrop (reason : Reason)
  | keyIgnored (key : Key) (remote : Remote) (reason : Reason)
  | entryRefused (value : Nat) (reason : Reason)
  | lampSwapped (active : LampPos) (cause : Reason)
  deriving DecidableEq, Repr

/-- A trace record: the show-clock stamp and the event (R175). -/
structure TraceRec where
  stamp : BitVec 32
  body  : TraceBody
  deriving DecidableEq, Repr

/-! ### Link Interface -/

/-- A place in the reply order (R185): the reply's kind byte, its tag, its payload once served, and whether it is ready. -/
structure ReplyEntry where
  kind    : Byte
  tag     : Byte
  payload : List Byte
  ready   : Bool
  deriving DecidableEq, Repr

/-- The frame the transmitter is sending, as its bytes (R183, R185). -/
structure TxFrame where
  bytes   : List Byte
  isReply : Bool
  deriving DecidableEq, Repr

/-- The Link Interface (R183 to R193). -/
structure Link where
  receiving   : Bool
  rxBuffer    : List Byte
  replies     : List ReplyEntry
  sending     : Option TxFrame
  notices     : List Notice
  flags       : BitVec 24
  mask        : BitVec 24
  noticesLost : Bool
  overrun     : Bool
  faults      : BitVec 16
  clock       : BitVec 32
  deriving DecidableEq, Repr

/-- The configuration items 1 to 34, in number order (R189). -/
structure Items where
  skipEmpties    : Bool
  trayWrap       : Bool
  changeMode     : ChangeMode
  strikeRamp     : Nat
  fadeOut        : Nat
  fadeIn         : Nat
  darkThreshold  : Nat
  keepWarm       : Nat
  autoStrike     : Bool
  lampAutoChange : Bool
  heatKin        : Nat
  coolMargin     : Nat
  cooldownMin    : Nat
  cooldownLimit  : Nat
  volume         : Nat
  endFade        : Nat
  seekPlay       : Bool
  threshold1     : Nat
  threshold2     : Nat
  threshold3     : Nat
  cueQualify     : Nat
  cueGap         : Nat
  cueMaxBurst    : Nat
  cueSource      : CueSource
  relayOut       : Bool
  matchWindow    : Nat
  cueFillIn      : Bool
  seekPreroll    : Nat
  showLoop       : Bool
  loopCount      : Nat
  showStartSlot  : Nat
  irChannel      : Nat
  autoGo         : Bool
  traceWatermark : Nat
  deriving DecidableEq, Repr

/-! ### Trace Buffer -/

/-- The Trace Buffer (R175 to R182). TRACE_WATERMARK stands among the items. -/
structure Trace where
  records     : List TraceRec
  mode        : TraceMode
  phase       : TracePhase
  trigger     : BitVec 16
  post        : Nat
  postLeft    : Nat
  full        : Bool
  overwritten : Bool
  frozen      : Bool
  watermark   : Bool
  deriving DecidableEq, Repr

/-! ### Tray Unit -/

/-- A tray-map record (R8). -/
structure SlotRec where
  presence : Presence
  source   : PresenceSource
  shown    : Nat
  hold     : Option Nat
  deriving DecidableEq, Repr

/-- The Tray Unit (R1 to R19). Slot s has record s - 1 of `slots`; `position` is absent while the position-known flag is
clear; `search` is the pulse count of a home search (R7). -/
structure Tray where
  code     : Fin 4
  position : Option Nat
  search   : Option Nat
  slots    : List SlotRec
  map1     : SlotSet
  map2     : SlotSet
  map3     : SlotSet
  deriving DecidableEq, Repr

/-! ### Changer -/

/-- Which Cue Log sequence waits on a chase's GOTO (R138, R141). The model's own, log 23. -/
inductive ChaseOwner where
  | seekCue
  | loop
  deriving DecidableEq, Repr

/-- An entry of the move queue (R21). -/
structure MoveEntry where
  source : MoveSource
  move   : Move
  tags   : List Byte
  owner  : Option ChaseOwner
  deriving DecidableEq, Repr

/-- The cycle in progress: the entry it took, the latched CHANGE_MODE, the target (absent while left open, R27), the
aborted mark, and the two redirections of R43: drop without rotating, and stop at the next pulse. -/
structure Cycle where
  entry       : MoveEntry
  mode        : ChangeMode
  target      : Option Nat
  aborted     : Bool
  skipRotate  : Bool
  stopAtPulse : Bool
  deriving DecidableEq, Repr

/-- The Changer (R20 to R45). `motor` is absent while the motor is not commanded; `window` is the running stage window in
elapsed milliseconds. -/
structure Changer where
  stage      : Stage
  cycle      : Option Cycle
  extension  : Nat
  queue      : List MoveEntry
  pause      : Pause
  gate       : Gate
  shutterOpen : Bool
  claim      : Claim
  motor      : Option Turn
  liftArm    : Bool
  seatWindow : Bool
  window     : Option Nat
  deriving DecidableEq, Repr

/-! ### Lamp Drive -/

/-- A level to be reached: a number, or the keep-warm level as it stands when the fade starts (R49, R53). -/
inductive Level where
  | value (n : Nat)
  | keepWarm
  deriving DecidableEq, Repr

/-- The item the fade at the end of PREHEAT runs over (R49). -/
inductive Ramp where
  | strikeRamp
  | fadeOut
  | fadeIn
  deriving DecidableEq, Repr

/-- A running fade from `a` to `b` in `n` steps of which `k` are taken (R50). -/
structure Fade where
  kind : FadeKind
  a    : Nat
  b    : Nat
  n    : Nat
  k    : Nat
  deriving DecidableEq, Repr

/-- A swap in progress (R60, R61): the other position, the request's tag for SELECT LAMP, whether it is automatic, whether
a re-strike is due, and the resume level. -/
structure Swap where
  newPos   : LampPos
  auto     : Bool
  tag      : Option Byte
  restrike : Bool
  resume   : Level
  deriving DecidableEq, Repr

/-- The Lamp Drive (R46 to R64). -/
structure Lamp where
  state       : LampState
  recA        : LampCond
  recB        : LampCond
  active      : LampPos
  ramp        : Nat
  show_       : Nat
  preset      : Nat
  drive       : Nat
  fade        : Option Fade
  dest        : Level
  destRamp    : Ramp
  swap        : Option Swap
  restriking  : Bool
  darkWaiting : Bool
  openCount   : Nat
  window      : Option Nat
  deriving DecidableEq, Repr

/-! ### Heat Monitor -/

/-- Sleep pending (R82): clear, or set with an optional tag. -/
inductive SleepPending where
  | clear
  | set (tag : Option Byte)
  deriving DecidableEq, Repr

/-- The Heat Monitor (R65 to R88). Timers are in elapsed milliseconds, absent while stopped; `elapsed` is in 0.25 s. -/
structure Heat where
  estimate     : Nat
  ambient      : Nat
  floor        : FanFloor
  fan          : FanLevel
  stallTimer   : Option Nat
  ceiling      : Nat
  zone         : Zone
  allowed      : Bool
  latch        : Bool
  cooling      : Bool
  elapsed      : Nat
  wakeDue      : Bool
  updateTimer  : Option Nat
  power        : PowerState
  sleepPending : SleepPending
  deriving DecidableEq, Repr

/-! ### Transport -/

/-- The pending destinations of R93. -/
inductive Dest where
  | stopped
  | playing
  | rewinding
  | winding
  | seek
  deriving DecidableEq, Repr

/-- The pending destination with its source and tag (R92). -/
structure PendingDest where
  dest   : Dest
  source : MotionSource
  tag    : Option Byte
  deriving DecidableEq, Repr

/-- The seek record (R101, R102): `byCue` is origin SEEK CUE, `moved` the direction its motion has taken. -/
structure Seek where
  target    : Nat
  byCue     : Bool
  tag       : Option Byte
  playAfter : Bool
  moved     : CountDir
  deriving DecidableEq, Repr

/-- The end-fade state (R105). -/
inductive EndFade where
  | idle
  | running (g0 n k : Nat)
  | held
  deriving DecidableEq, Repr

/-- The Transport (R89 to R108). Timers are in elapsed milliseconds, absent while stopped. -/
structure Transport where
  state      : TapeState
  dest       : Option PendingDest
  dir        : CountDir
  reel       : Nat
  zeroKnown  : Bool
  cassette   : Bool
  brakeTimer : Option Nat
  stallTimer : Option Nat
  seek       : Option Seek
  backMark   : Bool
  gain       : Nat
  endFade    : EndFade
  deriving DecidableEq, Repr

/-! ### Cue Decoder -/

/-- The recogniser state (R113, R114). -/
inductive Recogniser where
  | quiet
  | candidate (tones : BitVec 3) (count : Nat)
  | burst
  | gap
  deriving DecidableEq, Repr

/-- A relay frame's kind and index (R119). -/
structure RelayFrame where
  kind  : CueKind
  index : Nat
  deriving DecidableEq, Repr

/-- A bit-serial receiver: IDLE, or RECEIVING with the bits so far (R122, R162). -/
inductive BitReceiver where
  | idle
  | receiving (bits : List Bool)
  deriving DecidableEq, Repr

/-- The Cue Decoder with the relay (R109 to R125). -/
structure Decoder where
  level1        : Nat
  level2        : Nat
  level3        : Nat
  floor1        : Nat
  floor2        : Nat
  floor3        : Nat
  quietFrames   : Nat
  snap          : Bool
  recogniser    : Recogniser
  burstLen      : Nat
  gapCount      : Nat
  rejects       : Nat
  relayQueue    : List RelayFrame
  relaySending  : Option RelayFrame
  releaseTimer  : Option Nat
  relayIn       : BitReceiver
  conflictTimer : Option Nat
  deriving DecidableEq, Repr

/-! ### Cue Log -/

/-- A cue log entry (R126). -/
structure LogEntry where
  reel  : Nat
  kind  : CueKind
  index : Option Nat
  seen  : Nat
  met   : Bool
  deriving DecidableEq, Repr

/-- The seek-cue record (R137, R138): `chasing` tells phase CHASING from SEEKING. -/
structure SeekCue where
  chasing   : Bool
  target    : Nat
  playAfter : Bool
  deriving DecidableEq, Repr

/-- The loop phases (R139 to R142). -/
inductive LoopPhase where
  | idle
  | ending
  | rewinding
  | chasing
  deriving DecidableEq, Repr

/-- The Cue Log (R126 to R143). -/
structure CueLog where
  entries  : List LogEntry
  full     : Bool
  startMap : Option Nat
  seekCue  : Option SeekCue
  phase    : LoopPhase
  armed    : Bool
  restart  : Bool
  deriving DecidableEq, Repr

/-! ### Cue Program -/

/-- An action of the cue table (R148). -/
inductive Action where
  | step (n : Int)
  | goto (s : Nat)
  | fade (level duration : Nat)
  | selectMap (m : Nat)
  | timerStart (period : Nat)
  | timerStop
  | hold
  | notify (tag : Nat)
  deriving DecidableEq, Repr

/-- A cue table entry (R148). -/
structure TableEntry where
  index   : Nat
  actions : List Action
  deriving DecidableEq, Repr

/-- The marks of a show hold that is on (R151). -/
structure HoldMarks where
  tapeHeld  : Bool
  timerHeld : Bool
  deriving DecidableEq, Repr

/-- The Cue Program (R144 to R160). `remaining` is in milliseconds. -/
structure Program where
  cueIndex     : Nat
  activeMap    : Nat
  hold         : Option HoldMarks
  loops        : Nat
  table        : List TableEntry
  timer        : TimerState
  period       : Option Nat
  remaining    : Nat
  lock         : LockState
  protectTable : Bool
  protect1     : Bool
  protect2     : Bool
  protect3     : Bool
  service      : Bool
  deriving DecidableEq, Repr

/-! ### Remote Receiver -/

/-- A held key (R161, R163): times are elapsed milliseconds since the press and since the last frame; `usedUp` and
`ignored` are the marks of R161; `holdTaken` says that the 2000 ms POWER hold was taken (R86). -/
structure Held where
  key       : Key
  toggle    : Bool
  pressMs   : Nat
  releaseMs : Nat
  usedUp    : Bool
  ignored   : Bool
  holdTaken : Bool
  deriving DecidableEq, Repr

/-- The numeric-entry record (R169): `windowMs` is the elapsed part of its 1500 ms window. -/
structure NumericEntry where
  value    : Nat
  digits   : Nat
  windowMs : Nat
  deriving DecidableEq, Repr

/-- The focus drive (R171, R173). -/
inductive FocusDrive where
  | idle
  | key (owner : Remote) (dir : FocusDir) (fast : Bool)
  | nudge (dir : FocusDir) (tag : Byte) (leftMs : Nat)
  deriving DecidableEq, Repr

/-- The Remote Receiver (R161 to R174). `candidate` is the ladder's candidate band with its run count. -/
structure RemoteRx where
  irDecoder  : BitReceiver
  irKey      : Option Held
  stableBand : Band
  candidate  : Option (Band × Nat)
  wiredKey   : Option Held
  entry      : Option NumericEntry
  focus      : FocusDrive
  deriving DecidableEq, Repr

/-! ### Input lines -/

/-- The levels of the input lines that commands read after the event that reported them (log 8). -/
structure Lines where
  homeMark : Bool
  leader   : Bool
  tcoOpen  : Bool
  limitIn  : Bool
  limitOut : Bool
  deriving DecidableEq, Repr

/-! ### The whole part -/

/-- The state of the part, the commands that wait, and how many free readings of the SERVICE line have been taken (log 6). -/
structure State where
  link      : Link
  items     : Items
  trace     : Trace
  tray      : Tray
  changer   : Changer
  lamp      : Lamp
  heat      : Heat
  transport : Transport
  decoder   : Decoder
  cueLog    : CueLog
  program   : Program
  remote    : RemoteRx
  lines     : Lines
  pending   : List Instr
  lineReads : Nat
  deriving DecidableEq, Repr

/-- The reasons a command could stop the machine. There is none: every rule gives every command an effect, and the
spec's own faults are the active fault set (R191), which is state. Safe. -/
inductive Fault where
  deriving DecidableEq, Repr

/-- The reasons a command could be refused a meaning. -/
inductive Refusal where
  /-- Raised by an arm of `exec` for a row that has no meaning yet; no arm does so. Safe: nothing is claimed of the row. -/
  | notModelled (mnemonic : String)
  deriving DecidableEq, Repr

/-! ### The state after reset -/

/-- R193: receiver HUNTING, buffers and queues empty, all 24 notice kinds enabled, fault set empty, show clock 0. -/
def Link.reset : Link where
  receiving := false
  rxBuffer := []
  replies := []
  sending := none
  notices := []
  flags := 0
  mask := 0xFFFFFF
  noticesLost := false
  overrun := false
  faults := 0
  clock := 0

/-- The defaults of R189. -/
def Items.reset : Items where
  skipEmpties := true
  trayWrap := true
  changeMode := .shutter
  strikeRamp := 50
  fadeOut := 30
  fadeIn := 30
  darkThreshold := 80
  keepWarm := 40
  autoStrike := false
  lampAutoChange := true
  heatKin := 21
  coolMargin := 2048
  cooldownMin := 30
  cooldownLimit := 900
  volume := 40
  endFade := 200
  seekPlay := false
  threshold1 := 64
  threshold2 := 64
  threshold3 := 64
  cueQualify := 4
  cueGap := 6
  cueMaxBurst := 200
  cueSource := .tape
  relayOut := false
  matchWindow := 8
  cueFillIn := false
  seekPreroll := 30
  showLoop := false
  loopCount := 0
  showStartSlot := 1
  irChannel := 0
  autoGo := false
  traceWatermark := 48

/-- R182: no records, mode OFF, no phase, empty trigger set, post count 0, all flags clear. -/
def Trace.reset : Trace where
  records := []
  mode := .off
  phase := .unused
  trigger := 0
  post := 0
  postLeft := 0
  full := false
  overwritten := false
  frozen := false
  watermark := false

/-- R19 with code 0: no records, position unknown, maps 1 to 3 empty. -/
def Tray.reset : Tray where
  code := 0
  position := none
  search := none
  slots := []
  map1 := 0
  map2 := 0
  map3 := 0

/-- R45, R36. -/
def Changer.reset : Changer where
  stage := .idle
  cycle := none
  extension := 0
  queue := []
  pause := .clear
  gate := .unknown
  shutterOpen := false
  claim := .clear
  motor := none
  liftArm := false
  seatWindow := false
  window := none

/-- R64. The destination fields have no meaning outside PREHEAT (log 28). -/
def Lamp.reset : Lamp where
  state := .off
  recA := .unknown
  recB := .unknown
  active := .a
  ramp := 0
  show_ := 1000
  preset := 1000
  drive := 0
  fade := none
  dest := .keepWarm
  destRamp := .strikeRamp
  swap := none
  restriking := false
  darkWaiting := false
  openCount := 0
  window := none

/-- R88, with the cut-out line closed. -/
def Heat.reset : Heat where
  estimate := 17920
  ambient := 10240
  floor := .high
  fan := .high
  stallTimer := some 0
  ceiling := 1000
  zone := .full
  allowed := true
  latch := false
  cooling := true
  elapsed := 0
  wakeDue := false
  updateTimer := some 0
  power := .standby
  sleepPending := .clear

/-- R108, R90, without a cassette. -/
def Transport.reset : Transport where
  state := .noTape
  dest := none
  dir := .still
  reel := 0
  zeroKnown := false
  cassette := false
  brakeTimer := none
  stallTimer := none
  seek := none
  backMark := false
  gain := 0
  endFade := .idle

/-- R125. The release time of the cue-out line, which its table leaves out, is stopped after every kind of reset (log 59). -/
def Decoder.reset : Decoder where
  level1 := 0
  level2 := 0
  level3 := 0
  floor1 := 0
  floor2 := 0
  floor3 := 0
  quietFrames := 0
  snap := false
  recogniser := .quiet
  burstLen := 0
  gapCount := 0
  rejects := 0
  relayQueue := []
  relaySending := none
  releaseTimer := none
  relayIn := .idle
  conflictTimer := none

/-- R143. -/
def CueLog.reset : CueLog where
  entries := []
  full := false
  startMap := none
  seekCue := none
  phase := .idle
  armed := false
  restart := false

/-- R160, with the SERVICE line released. -/
def Program.reset : Program where
  cueIndex := 0
  activeMap := 0
  hold := none
  loops := 0
  table := []
  timer := .stopped
  period := none
  remaining := 0
  lock := .opened
  protectTable := false
  protect1 := false
  protect2 := false
  protect3 := false
  service := false

/-- R174. -/
def RemoteRx.reset : RemoteRx where
  irDecoder := .idle
  irKey := none
  stableBand := .noKey
  candidate := none
  wiredKey := none
  entry := none
  focus := .idle

/-- Every line not asserted: DESIGN CHOICE, log 7. -/
def Lines.reset : Lines where
  homeMark := false
  leader := false
  tcoOpen := false
  limitIn := false
  limitOut := false

/-- The part right after a power-on with no tray, no cassette and no line asserted (log 7), and no command waiting. -/
def State.reset : State where
  link := Link.reset
  items := Items.reset
  trace := Trace.reset
  tray := Tray.reset
  changer := Changer.reset
  lamp := Lamp.reset
  heat := Heat.reset
  transport := Transport.reset
  decoder := Decoder.reset
  cueLog := CueLog.reset
  program := Program.reset
  remote := RemoteRx.reset
  lines := Lines.reset
  pending := []
  lineReads := 0

end Sys2Proof.Machine
end

