-- ==== Sys2Proof/Machine/Codes.lean ====
section
/-! DEFINITION. The codes of R186, R190 and R191 and the layouts of chapter 11: what a reply, a notice and a record look like
as bytes. -/

namespace Sys2Proof.Machine

/-! ### Byte groups (R186) -/

/-- A quantity sent in one byte. -/
def byte1 (n : Nat) : Byte := BitVec.ofNat 8 n

/-- A quantity sent in two bytes, most significant first. -/
def byte2 (n : Nat) : List Byte := [byte1 (n / 256), byte1 n]

/-- A quantity sent in three bytes, most significant first (the notice word). -/
def byte3 (n : Nat) : List Byte := [byte1 (n / 65536), byte1 (n / 256), byte1 n]

/-- A quantity sent in four bytes, most significant first (the show clock). -/
def byte4 (n : Nat) : List Byte := [byte1 (n / 16777216), byte1 (n / 65536), byte1 (n / 256), byte1 n]

/-- A signed quantity within one byte, in two's complement. -/
def byteInt (n : Int) : Byte := BitVec.ofInt 8 n

/-- The weight of a flag that stands at bit `i` of a packed byte. -/
def flagBit (b : Bool) (i : Nat) : Nat := if b then 2 ^ i else 0

/-! ### Enumerations, coded from 0 in the order their owner first lists them (R186; log 12) -/

/-- Reason, cause and outcome words: R186's table, then 32 upward in alphabetical order (log 11). -/
def reasonCode : Reason → Nat
  | .check => 1
  | .unknownKind => 2
  | .badArg => 3
  | .busy => 4
  | .notActive => 5
  | .notPermitted => 6
  | .noTray => 7
  | .queueFull => 8
  | .faultActive => 9
  | .tooHot => 10
  | .noLamp => 11
  | .locked => 12
  | .tableFull => 13
  | .notFound => 14
  | .aborted => 32
  | .auto => 33
  | .cancelled => 34
  | .cassette => 35
  | .chaseFailed => 36
  | .complete => 37
  | .conflict => 38
  | .cue => 39
  | .entered => 40
  | .entryFull => 41
  | .failed => 42
  | .faultClear => 43
  | .full => 44
  | .host => 45
  | .jamDrop => 46
  | .jamLift => 47
  | .key => 48
  | .kind => 49
  | .leader => 50
  | .limit => 51
  | .margin => 52
  | .noEligible => 53
  | .noEntry => 54
  | .noTape => 55
  | .nulled => 56
  | .off => 57
  | .opened => 58
  | .overtemp => 59
  | .parity => 60
  | .power => 61
  | .range => 62
  | .reached => 63
  | .refused => 64
  | .request => 65
  | .rewindStopped => 66
  | .rotateStall => 67
  | .seek => 68
  | .select => 69
  | .showCause => 70
  | .sleepEntered => 71
  | .stall => 72
  | .strikeEnd => 73
  | .superseded => 74
  | .swapEnd => 75
  | .takenOver => 76
  | .tapeEnd => 77
  | .tapeStall => 78
  | .tco => 79
  | .timing => 80
  | .wake => 81

/-- Fault codes (R191). -/
def faultCode : FaultKind → Nat
  | .jamLift => 1
  | .jamDrop => 2
  | .rotateStall => 3
  | .trayCode => 4
  | .lampOpen => 5
  | .overtemp => 6
  | .tcoOpen => 7
  | .fanStall => 8
  | .ambientSensor => 9
  | .tapeStall => 10
  | .stuckTone => 11
  | .relayConflict => 12

/-- The fault kinds in ascending code order (R192). -/
def allFaults : List FaultKind :=
  [.jamLift, .jamDrop, .rotateStall, .trayCode, .lampOpen, .overtemp, .tcoOpen, .fanStall, .ambientSensor, .tapeStall,
    .stuckTone, .relayConflict]

/-- A key in a notice or a record: coded from 0 in the order of the key map of R165, the only list of all keys (R186; log
12). -/
def keyCode : Key → Nat
  | .digit d => d.val
  | .adv => 10
  | .rev => 11
  | .focusIn => 12
  | .focusOut => 13
  | .hold => 14
  | .play => 15
  | .stop => 16
  | .lamp => 17
  | .brightUp => 18
  | .brightDown => 19
  | .goto => 20
  | .clear => 21
  | .power => 22
  | .user1 => 23
  | .user2 => 24

/-- The code of a key in the key field of an infrared frame (R165). -/
def irKeyCode : Key → Nat
  | .digit d => d.val
  | .adv => 16
  | .rev => 17
  | .focusIn => 18
  | .focusOut => 19
  | .hold => 20
  | .play => 24
  | .stop => 25
  | .lamp => 28
  | .brightUp => 29
  | .brightDown => 30
  | .goto => 32
  | .clear => 33
  | .power => 40
  | .user1 => 48
  | .user2 => 49

/-- The key of an infrared key code (R165); a code not in the map gives none. -/
def keyOfCode (c : Nat) : Option Key :=
  if h : c < 10 then some (.digit ⟨c, h⟩)
  else [Key.adv, .rev, .focusIn, .focusOut, .hold, .play, .stop, .lamp, .brightUp, .brightDown, .goto, .clear, .power,
    .user1, .user2].find? (fun k => irKeyCode k == c)

/-- Cue kinds carry the codes of the cue log entry layout and of R119 (log 13). -/
def cueKindCode : CueKind → Nat
  | .advance => 1
  | .reverse => 2
  | .mark => 3
  | .hold => 4
  | .ending => 5

/-- The cue kind of a code (R119). -/
def cueKindOfCode : Nat → Option CueKind
  | 1 => some .advance
  | 2 => some .reverse
  | 3 => some .mark
  | 4 => some .hold
  | 5 => some .ending
  | _ => none

/-- Origins in the order of R145. -/
def originCode : Origin → Nat
  | .tape => 0
  | .synth => 1
  | .line => 2
  | .host => 3

/-- CUE_SOURCE values (R117). -/
def cueSourceCode : CueSource → Nat
  | .tape => 0
  | .line => 1
  | .host => 2

/-- Presence values (R8). -/
def presenceCode : Presence → Nat
  | .unknown => 0
  | .present => 1
  | .absent => 2

/-- Presence sources (R8). -/
def presenceSourceCode : PresenceSource → Nat
  | .learned => 0
  | .declared => 1
  | .unset => 2

/-- Move sources (R21). -/
def moveSourceCode : MoveSource → Nat
  | .host => 0
  | .remote => 1
  | .cue => 2
  | .timer => 3
  | .chase => 4

/-- Move kinds (R21): STEP, GOTO. -/
def moveKindCode : Move → Nat
  | .step _ => 0
  | .goto _ => 1

/-- The count of a STEP, the slot of a GOTO, in one byte. -/
def moveArgByte : Move → Byte
  | .step n => byteInt n
  | .goto s => byte1 s

/-- Changer states (status record, byte 18). -/
def stageCode : Stage → Nat
  | .idle => 0
  | .target => 1
  | .dark => 2
  | .lift => 3
  | .rotate => 4
  | .drop => 5
  | .settle => 6
  | .light => 7
  | .paused => 8

/-- Pause states (R20). -/
def pauseCode : Pause → Nat
  | .clear => 0
  | .pending => 1
  | .paused => 2

/-- Gate states (R36). -/
def gateCode : Gate → Nat
  | .unknown => 0
  | .empty => 1
  | .loaded => 2

/-- Lamp states (R46). -/
def lampStateCode : LampState → Nat
  | .off => 0
  | .preheat => 1
  | .lit => 2
  | .swapping => 3
  | .failed => 4

/-- Lamp positions (R47). -/
def lampPosCode : LampPos → Nat
  | .a => 0
  | .b => 1

/-- Lamp record conditions (R47). -/
def lampCondCode : LampCond → Nat
  | .unknown => 0
  | .good => 1
  | .failed => 2

/-- Fan levels (R70). -/
def fanCode : FanLevel → Nat
  | .off => 0
  | .low => 1
  | .medium => 2
  | .high => 3

/-- Heat zones (R72). -/
def zoneCode : Zone → Nat
  | .full => 0
  | .derate => 1
  | .trip => 2

/-- The strike permission, listed as allowed, refused (chapter 04). -/
def permissionCode (allowed : Bool) : Nat := if allowed then 0 else 1

/-- Power states (R80). -/
def powerCode : PowerState → Nat
  | .active => 0
  | .standby => 1
  | .sleep => 2

/-- Wake sources (R85). -/
def wakeSourceCode : WakeSource → Nat
  | .frame => 0
  | .infrared => 1
  | .ladder => 2
  | .cutOut => 3

/-- Transport states (R89). -/
def tapeStateCode : TapeState → Nat
  | .noTape => 0
  | .stopped => 1
  | .playing => 2
  | .paused => 3
  | .rewinding => 4
  | .winding => 5
  | .stopping => 6

/-- Motion requests (chapter 05, Motion requests). -/
def motionCode : MotionReq → Nat
  | .play => 0
  | .stop => 1
  | .pause => 2
  | .rewind => 3
  | .wind => 4
  | .seekCount => 5

/-- Trace modes (R177). -/
def traceModeCode : TraceMode → Nat
  | .off => 0
  | .fill => 1
  | .ring => 2
  | .ringFreeze => 3
  | .waitRing => 4

/-- Timer states (R153). -/
def timerCode : TimerState → Nat
  | .stopped => 0
  | .running => 1
  | .paused => 2

/-- Focus directions (R173). -/
def focusDirCode : FocusDir → Nat
  | .inward => 0
  | .outward => 1

/-- Focus owners (R172). -/
def focusOwnerCode : FocusOwner → Nat
  | .ir => 0
  | .wired => 1
  | .host => 2

/-- Remotes, in the order of R172. -/
def remoteCode : Remote → Nat
  | .ir => 0
  | .wired => 1

/-- CHANGE_MODE values (chapter 02). -/
def changeModeCode : ChangeMode → Nat
  | .shutter => 0
  | .dissolve => 1

/-- OFF, ON. -/
def onOffCode (b : Bool) : Nat := if b then 1 else 0

/-! ### Frames (R183) -/

/-- The check byte of R183: it makes the bytes from the kind on sum to 0 mod 256. -/
def checkByte (body : List Byte) : Byte := 0 - body.foldl (· + ·) 0

/-- A whole frame: sync, kind, tag, length, payload, check (R183). -/
def frameBytes (kind tag : Byte) (payload : List Byte) : List Byte :=
  let body := kind :: tag :: byte1 payload.length :: payload
  (0xC3 : Byte) :: body ++ [checkByte body]

/-- The frame of a reply (R186). -/
def replyFrame (r : ReplyEntry) : TxFrame := { bytes := frameBytes r.kind r.tag r.payload, isReply := true }

/-! ### Notices (R190) -/

/-- The kind byte of a notice, less 0x40: its bit in the notice word. -/
def noticeBit : Notice → Nat
  | .moveDone .. => 0
  | .moveFailed .. => 1
  | .cue .. => 2
  | .cueSlip .. => 3
  | .cueLost .. => 4
  | .endOfTray .. => 5
  | .trayIn .. => 6
  | .trayOut => 7
  | .trayResync .. => 8
  | .lamp .. => 9
  | .lampSwapped .. => 10
  | .thermal .. => 11
  | .cooldownDone .. => 12
  | .power .. => 13
  | .tape .. => 14
  | .tapeEnd .. => 15
  | .loopEnded .. => 16
  | .notify .. => 17
  | .key .. => 18
  | .entryRefused .. => 19
  | .focusEnd .. => 20
  | .watermark .. => 21
  | .frozen .. => 22
  | .fault .. => 23

/-- The tag of the request a notice completes, if any (R190). -/
def noticeTag : Notice → Option Byte
  | .moveDone _ _ _ tag _ _ => tag
  | .moveFailed _ _ tag _ _ _ => tag
  | .lampSwapped _ _ tag => tag
  | .power _ _ _ _ tag _ => tag
  | .tape r => r.tag
  | .focusEnd _ _ _ tag => tag
  | _ => none

/-- A one-byte notice field that may be absent, at offset `i` of the contents of kind bit `k` (log 10). -/
def optByte (k i : Nat) : Option Nat → List Byte
  | some n => [byte1 n]
  | none => [Config.absentByte k i]

/-- A two-byte notice field that may be absent. -/
def optByte2 (k i : Nat) : Option Nat → List Byte
  | some n => byte2 n
  | none => [Config.absentByte k i, Config.absentByte k (i + 1)]

/-- The contents of a notice in the order its owner's rule lists them (R190, R186). The tag of a completed request
stands in the frame's tag byte and not among the contents. A flag is sent as 1 for set and 0 for clear (log 69). The merged mark of a source other than HOST is sent as 0 (log
56), a FAULT notice has a position byte only where the owner gives a position (R191; log 61), and a FOCUS END notice none for
the limit beside its direction and outcome (R172; log 65). -/
def noticeContents : Notice → List Byte
  | .moveDone source move slot _ merged outcome =>
    [byte1 (moveSourceCode source), byte1 (moveKindCode move), moveArgByte move] ++ optByte 0 3 slot
      ++ [byte1 (flagBit merged 0), byte1 (reasonCode outcome)]
  | .moveFailed source move _ merged reason slot =>
    [byte1 (moveSourceCode source), byte1 (moveKindCode move), byte1 (flagBit merged 0), byte1 (reasonCode reason)]
      ++ optByte 1 4 slot
  | .cue kind index origin reel =>
    byte1 (cueKindCode kind) :: byte2 index ++ byte1 (originCode origin) :: optByte2 2 4 reel
  | .cueSlip expected index origin reel =>
    byte2 expected ++ byte2 index ++ byte1 (originCode origin) :: optByte2 3 5 reel
  | .cueLost index reason => byte2 index ++ [byte1 (reasonCode reason)]
  | .endOfTray n counted target => [byteInt n, byte1 counted, byte1 target]
  | .trayIn capacity => [byte1 capacity]
  | .trayOut => []
  | .trayResync counted => [byte1 counted]
  | .lamp state active level cause =>
    [byte1 (lampStateCode state), byte1 (lampPosCode active)] ++ byte2 level ++ [byte1 (reasonCode cause)]
  | .lampSwapped active cause _ => [byte1 (lampPosCode active), byte1 (reasonCode cause)]
  | .thermal heat ambient fan ceiling zone allowed =>
    byte2 heat ++ byte2 ambient ++ byte1 (fanCode fan) :: byte2 ceiling
      ++ [byte1 (zoneCode zone), byte1 (permissionCode allowed)]
  | .cooldownDone heat ambient elapsed ended =>
    byte2 heat ++ byte2 ambient ++ byte2 elapsed ++ [byte1 (reasonCode ended)]
  | .power state sleepPending cause source _ outcome =>
    [byte1 (powerCode state), byte1 (flagBit sleepPending 0), byte1 (reasonCode cause)]
      ++ optByte 13 3 (source.map wakeSourceCode) ++ optByte 13 4 (outcome.map reasonCode)
  | .tape r =>
    byte1 (tapeStateCode r.state) :: byte2 r.reel ++ [byte1 (flagBit r.zeroKnown 0), byte1 (reasonCode r.cause)]
      ++ optByte 14 5 (r.outcome.map reasonCode) ++ optByte 14 6 (r.reason.map reasonCode) ++ optByte2 14 7 r.target
  | .tapeEnd reel => byte2 reel
  | .loopEnded reason detail loops reel =>
    byte1 (reasonCode reason) :: optByte 16 1 (detail.map reasonCode) ++ byte1 loops :: byte2 reel
  | .notify tag index kind => byte1 tag :: byte2 index ++ [byte1 (cueKindCode kind)]
  | .key key channel => [byte1 (keyCode key), byte1 channel]
  | .entryRefused value reason => byte2 value ++ [byte1 (reasonCode reason)]
  | .focusEnd dir owner outcome _ =>
    [byte1 (focusDirCode dir), byte1 (focusOwnerCode owner), byte1 (reasonCode outcome)]
  | .watermark count => [byte1 count]
  | .frozen count => [byte1 count]
  | .fault kind raised pos =>
    [byte1 (faultCode kind), byte1 (if raised then 0 else 1)]
      ++ match pos with
        | some p => [byte1 (lampPosCode p)]
        | none => []

/-- The frame of a notice: the tag and the mark of byte 0 as R190 gives them. -/
def noticeFrame (n : Notice) : TxFrame :=
  let kind := byte1 (0x40 + noticeBit n)
  match noticeTag n with
  | some tag => { bytes := frameBytes kind tag (1 :: noticeContents n), isReply := false }
  | none => { bytes := frameBytes kind 0 (0 :: noticeContents n), isReply := false }

/-! ### Trace records (R175, chapter 11) -/

/-- The record kind code of the trace record layout. -/
def traceKindCode : TraceBody → Nat
  | .cue .. => 0
  | .synth .. => 1
  | .missed .. => 2
  | .invalid .. => 3
  | .cueSlip .. => 4
  | .cueLost .. => 5
  | .moveDone .. => 6
  | .moveFailed .. => 7
  | .trayResync .. => 8
  | .endOfTray .. => 9
  | .lamp .. => 10
  | .thermal .. => 11
  | .faultRaised .. => 12
  | .faultCleared .. => 13
  | .tape .. => 14
  | .tapeRefused .. => 14
  | .timerLost .. => 15
  | .relayLost .. => 16
  | .relayDrop .. => 17
  | .keyIgnored .. => 18
  | .entryRefused .. => 19
  | .lampSwapped .. => 20

/-- The cue index field. -/
def traceCueIndex : TraceBody → Option Nat
  | .cue index .. => some index
  | .synth index .. => index
  | .missed index .. => index
  | .cueSlip index .. => some index
  | .cueLost index _ => some index
  | .relayLost index .. => some index
  | _ => none

/-- The slot field. -/
def traceSlot : TraceBody → Option Nat
  | .moveDone slot .. => slot
  | .moveFailed slot .. => slot
  | .trayResync counted => some counted
  | .endOfTray target .. => some target
  | _ => none

/-- The reel-count field. -/
def traceReel : TraceBody → Option Nat
  | .cue _ reel .. => reel
  | .synth _ reel .. => some reel
  | .missed _ reel _ => some reel
  | .invalid reel _ => some reel
  | .cueSlip _ reel .. => reel
  | .tape r => some r.reel
  | .tapeRefused reel .. => some reel
  | _ => none

/-- The fault-kind field. -/
def traceFault : TraceBody → Option FaultKind
  | .faultRaised kind _ => some kind
  | .faultCleared kind _ => some kind
  | _ => none

/-- The lamp-level field. -/
def traceLevel : TraceBody → Option Nat
  | .lamp level .. => some level
  | .thermal _ ceiling .. => some ceiling
  | _ => none

/-- The H field. -/
def traceHeat : TraceBody → Option Nat
  | .thermal heat .. => some heat
  | _ => none

/-- The detail items in the order of R175's table, absent items as 0. -/
def traceDetail : TraceBody → List Byte
  | .cue _ _ kind origin => [byte1 (cueKindCode kind), byte1 (originCode origin)]
  | .synth _ _ kind entryReel => byte1 (cueKindCode kind) :: byte2 entryReel
  | .missed _ _ kind => [byte1 (cueKindCode kind)]
  | .invalid _ tones => [byte1 tones.toNat]
  | .cueSlip _ _ expected origin => byte2 expected ++ [byte1 (originCode origin)]
  | .cueLost _ reason => [byte1 (reasonCode reason)]
  | .moveDone _ source move outcome =>
    [byte1 (moveSourceCode source), byte1 (moveKindCode move), moveArgByte move, byte1 (reasonCode outcome)]
  | .moveFailed _ source reason dropped =>
    [byte1 (moveSourceCode source), byte1 (reasonCode reason), byte1 dropped]
  | .trayResync _ => []
  | .endOfTray _ n counted => [byteInt n, byte1 counted]
  | .lamp _ state active cause =>
    [byte1 (lampStateCode state), byte1 (lampPosCode active), byte1 (reasonCode cause)]
  | .thermal _ _ ambient fan zone allowed =>
    byte2 ambient ++ [byte1 (fanCode fan), byte1 (zoneCode zone), byte1 (permissionCode allowed)]
  | .faultRaised _ pos => (pos.map (fun p => byte1 (lampPosCode p))).toList
  | .faultCleared _ pos => (pos.map (fun p => byte1 (lampPosCode p))).toList
  | .tape r =>
    [byte1 (tapeStateCode r.state), byte1 (reasonCode r.cause), r.tag.getD 0, byte1 ((r.outcome.map reasonCode).getD 0),
      byte1 ((r.reason.map reasonCode).getD 0)] ++ byte2 (r.target.getD 0)
  | .tapeRefused _ request reason => [byte1 (motionCode request), byte1 (reasonCode reason)]
  | .timerLost reason => [byte1 (reasonCode reason)]
  | .relayLost _ kind reason => [byte1 (cueKindCode kind), byte1 (reasonCode reason)]
  | .relayDrop reason => [byte1 (reasonCode reason)]
  | .keyIgnored key remote reason => [byte1 (keyCode key), byte1 (remoteCode remote), byte1 (reasonCode reason)]
  | .entryRefused value reason => byte2 value ++ [byte1 (reasonCode reason)]
  | .lampSwapped active cause => [byte1 (lampPosCode active), byte1 (reasonCode cause)]

/-- The 24 bytes of a trace record (chapter 11). -/
def traceBytes (r : TraceRec) : List Byte :=
  let b := r.body
  let presence := flagBit (traceCueIndex b).isSome 0 + flagBit (traceSlot b).isSome 1 + flagBit (traceReel b).isSome 2
    + flagBit (traceFault b).isSome 3 + flagBit (traceLevel b).isSome 4 + flagBit (traceHeat b).isSome 5
  let detail := traceDetail b
  byte4 r.stamp.toNat ++ [byte1 (traceKindCode b), byte1 presence] ++ byte2 ((traceCueIndex b).getD 0)
    ++ [byte1 ((traceSlot b).getD 0)] ++ byte2 ((traceReel b).getD 0)
    ++ [byte1 (((traceFault b).map faultCode).getD 0)] ++ byte2 ((traceLevel b).getD 0) ++ byte2 ((traceHeat b).getD 0)
    ++ detail ++ List.replicate (8 - detail.length) 0

/-! ### Cue log entry, cue table entry and map (chapter 11) -/

/-- The 6 bytes of a cue log entry. -/
def logEntryBytes (e : LogEntry) : List Byte :=
  byte2 e.reel ++ [byte1 (cueKindCode e.kind + flagBit e.met 3)] ++ byte2 (e.index.getD 0) ++ [byte1 e.seen]

/-- The 5 bytes of an action: code, argument A, argument B. -/
def actionBytes : Action → List Byte
  | .step n => byte1 1 :: byte2 (BitVec.ofInt 16 n).toNat ++ byte2 0
  | .goto s => byte1 2 :: byte2 s ++ byte2 0
  | .fade level duration => byte1 3 :: byte2 level ++ byte2 duration
  | .selectMap m => byte1 4 :: byte2 m ++ byte2 0
  | .timerStart period => byte1 5 :: byte2 period ++ byte2 0
  | .timerStop => byte1 6 :: byte2 0 ++ byte2 0
  | .hold => byte1 7 :: byte2 0 ++ byte2 0
  | .notify tag => byte1 8 :: byte2 tag ++ byte2 0

/-- A cue table entry: index, action count, actions. -/
def tableEntryBytes (e : TableEntry) : List Byte :=
  byte2 e.index ++ byte1 e.actions.length :: e.actions.flatMap actionBytes

/-- The 13 bytes of a map: the number, then slot s at bit (s - 1) mod 8 of byte 1 + (s - 1) div 8. -/
def mapBytes (num : Nat) (slots : SlotSet) : List Byte :=
  byte1 num :: (List.range 12).map (fun i => slots.extractLsb' (8 * i) 8)

/-- The slot record of MARK SLOT's reply: presence, source, shown count, hold override (R10), an absent override as 0
like the absent fields of the layouts of chapter 11 (log 10). -/
def slotRecBytes (r : SlotRec) : List Byte :=
  [byte1 (presenceCode r.presence), byte1 (presenceSourceCode r.source), byte1 r.shown] ++ byte2 (r.hold.getD 0)

end Sys2Proof.Machine
end

