-- ==== Sys2Proof/Machine/Flags.lean ====
section
/-! DEFINITION. The flag words of the link: the fault word (R191), the notice word (R190), the trigger condition
(R178), and the packed flags of the status record. -/

namespace Sys2Proof.Machine

/-- The bit of a fault kind in the fault word: bit (code - 1) (R191). -/
def faultMask (f : FaultKind) : BitVec 16 := BitVec.twoPow 16 (faultCode f - 1)

/-- The fault kind stands in the active fault set (R191). -/
def hasFault (f : FaultKind) (s : State) : Bool := s.link.faults.getLsbD (faultCode f - 1)

/-- A changer fault stands (R20, R37). -/
def changerFault (s : State) : Bool := hasFault .jamLift s || hasFault .jamDrop s || hasFault .rotateStall s

/-- The changer faults. -/
def isChangerFault : FaultKind → Bool
  | .jamLift | .jamDrop | .rotateStall => true
  | _ => false

/-- The sticky faults of R191; the others clear themselves. -/
def isSticky : FaultKind → Bool
  | .jamLift | .jamDrop | .rotateStall | .lampOpen | .tapeStall => true
  | _ => false

/-- The bit of a notice kind in the notice word (R190). -/
def noticeMask (n : Notice) : BitVec 24 := BitVec.twoPow 24 (noticeBit n)

/-- The trigger condition: the trigger set and the active fault set have a member in common (R178). -/
def triggerHolds (s : State) : Bool := s.trace.trigger &&& s.link.faults != 0

/-- How many requests await their replies: those in the reply order and the one whose reply is being sent (R185). -/
def awaiting (l : Link) : Nat :=
  l.replies.length + (match l.sending with | some f => if f.isReply then 1 else 0 | none => 0)

/-- The four trace flags FULL, OVERWRITTEN, FROZEN, WATERMARK, the first at bit 0 (status record, byte 26). -/
def traceFlagBits (t : Trace) : Nat :=
  flagBit t.full 0 + flagBit t.overwritten 1 + flagBit t.frozen 2 + flagBit t.watermark 3

/-- The four protect flags TABLE, MAP1, MAP2, MAP3, the first at bit 0 (status record, byte 0). -/
def protectBits (p : Program) : Nat :=
  flagBit p.protectTable 0 + flagBit p.protect1 1 + flagBit p.protect2 2 + flagBit p.protect3 3

end Sys2Proof.Machine
end

