-- ==== Sys2Proof/Machine/Operands.lean ====
section
/-! DEFINITION. The arguments of requests and the fields of frames: ranges, clamping, and the enumeration codes a request may
carry. A code outside its list gives none, which the request answers BAD_ARG (R187). -/

namespace Sys2Proof.Machine

/-- Clamping to a range (00, Conventions). -/
def clampTo (lo hi n : Nat) : Nat := if n < lo then lo else if hi < n then hi else n

/-- Clamping a signed quantity to -m..m (R23). -/
def clampSigned (m : Nat) (n : Int) : Int := if n < -(m : Int) then -(m : Int) else if (m : Int) < n then (m : Int) else n

/-- POWER MODE's argument (R82). -/
def powerArg : Nat → Option PowerState
  | 0 => some .active
  | 1 => some .standby
  | 2 => some .sleep
  | _ => none

/-- What MARK SLOT does with a presence: PRESENT, ABSENT, UNKNOWN, KEEP (R10). -/
inductive PresenceAction where
  | present
  | absent
  | unknown
  | keep
  deriving DecidableEq, Repr

/-- MARK SLOT's presence action (R10). -/
def presenceArg : Nat → Option PresenceAction
  | 0 => some .present
  | 1 => some .absent
  | 2 => some .unknown
  | 3 => some .keep
  | _ => none

/-- What MARK SLOT does with a hold override: SET, REMOVE, KEEP (R10). -/
inductive HoldAction where
  | set
  | remove
  | keep
  deriving DecidableEq, Repr

/-- MARK SLOT's hold-override action (R10). -/
def holdArg : Nat → Option HoldAction
  | 0 => some .set
  | 1 => some .remove
  | 2 => some .keep
  | _ => none

/-- A lamp position argument (R47, R61). -/
def lampPosArg : Nat → Option LampPos
  | 0 => some .a
  | 1 => some .b
  | _ => none

/-- MARK LAMP's condition argument, coded in the order UNKNOWN, GOOD, FAILED (R47). -/
def lampCondArg : Nat → Option LampCond
  | 0 => some .unknown
  | 1 => some .good
  | 2 => some .failed
  | _ => none

/-- A focus direction argument, coded in the order IN, OUT (R173; log 12). -/
def focusDirArg : Nat → Option FocusDir
  | 0 => some .inward
  | 1 => some .outward
  | _ => none

/-- A cue source argument (R117). -/
def cueSourceArg : Nat → Option CueSource
  | 0 => some .tape
  | 1 => some .line
  | 2 => some .host
  | _ => none

/-- A CHANGE_MODE value (R189). -/
def changeModeArg : Nat → Option ChangeMode
  | 0 => some .shutter
  | 1 => some .dissolve
  | _ => none

/-- An OFF, ON value (R189). -/
def onOffArg : Nat → Option Bool
  | 0 => some false
  | 1 => some true
  | _ => none

/-- A trace mode argument (R177). -/
def traceModeArg : Nat → Option TraceMode
  | 0 => some .off
  | 1 => some .fill
  | 2 => some .ring
  | 3 => some .ringFreeze
  | 4 => some .waitRing
  | _ => none

/-- A lock state argument (R158). -/
def lockArg : Nat → Option LockState
  | 0 => some .opened
  | 1 => some .exhibit
  | _ => none

/-- The guarded items of R159. -/
inductive Guarded where
  | table
  | map1
  | map2
  | map3
  deriving DecidableEq, Repr

/-- PROTECT's argument (R159). -/
def guardedArg : Nat → Option Guarded
  | 0 => some .table
  | 1 => some .map1
  | 2 => some .map2
  | 3 => some .map3
  | _ => none

/-- A fault code 1..12 (R192). -/
def faultArg (c : Nat) : Option FaultKind := allFaults.find? (fun f => faultCode f == c)

/-- One action of a WRITE ENTRY, its arguments checked against R148's ranges and not clamped; the bytes an action does not
use are ignored (R149, chapter 11). -/
def actionArg (r : RawAction) : Option Action :=
  match r.code.toNat with
  | 1 =>
    let n := r.a.toInt
    if n ≠ 0 ∧ -99 ≤ n ∧ n ≤ 99 then some (.step n) else none
  | 2 => if r.a.toNat ≤ 96 then some (.goto r.a.toNat) else none
  | 3 => if r.a.toNat ≤ 1000 ∧ r.b.toNat ≤ 6000 then some (.fade r.a.toNat r.b.toNat) else none
  | 4 => if r.a.toNat ≤ 3 then some (.selectMap r.a.toNat) else none
  | 5 => if 10 ≤ r.a.toNat ∧ r.a.toNat ≤ 6000 then some (.timerStart r.a.toNat) else none
  | 6 => some .timerStop
  | 7 => some .hold
  | 8 => if r.a.toNat ≤ 255 then some (.notify r.a.toNat) else none
  | _ => none

/-- The actions of a WRITE ENTRY: every one must be good (R149). -/
def actionsArg : List RawAction → Option (List Action)
  | [] => some []
  | r :: rs =>
    match actionArg r, actionsArg rs with
    | some a, some as => some (a :: as)
    | _, _ => none

/-- The kinds of R187's Requests table. -/
def isRequestKind (k : Byte) : Bool :=
  let n := k.toNat
  (1 ≤ n && n ≤ 8) || (0x10 ≤ n && n ≤ 0x18) || (0x20 ≤ n && n ≤ 0x25) || (0x28 ≤ n && n ≤ 0x3D) || (0x60 ≤ n && n ≤ 0x64)

/-! ### Fields of the infrared and relay frames -/

/-- The channel field of an infrared frame: bits 1 to 3, most significant first (R162). -/
def irChannelOf (w : BitVec 16) : Nat := (w.extractLsb' 13 3).toNat

/-- The key field of an infrared frame: bits 4 to 9 (R162). -/
def irKeyField (w : BitVec 16) : BitVec 6 := w.extractLsb' 7 6

/-- The toggle bit of an infrared frame: bit 10 (R162). -/
def irToggle (w : BitVec 16) : Bool := w.getLsbD 6

/-- The check field of an infrared frame: bits 11 to 16 (R162). -/
def irCheckField (w : BitVec 16) : BitVec 6 := w.extractLsb' 0 6

/-- The kind code of a relay frame: bits 1 to 3 as sent, most significant first (R119). -/
def relayKindOf (w : BitVec 14) : Nat := (w.extractLsb' 11 3).toNat

/-- The index of a relay frame: bits 4 to 13 (R119). -/
def relayIndexOf (w : BitVec 14) : Nat := (w.extractLsb' 1 10).toNat

/-- An even number of ones among the 14 bits (R119). -/
def relayParityGood (w : BitVec 14) : Bool :=
  ((List.range 14).filter (fun i => w.getLsbD i)).length % 2 == 0

/-- The 14 bits of a frame sent: kind, index, and the parity bit that makes the number of ones even (R119). -/
def relayWord (f : RelayFrame) : BitVec 14 :=
  let body := BitVec.ofNat 3 (cueKindCode f.kind) ++ BitVec.ofNat 10 f.index
  let odd := ((List.range 13).filter (fun i => body.getLsbD i)).length % 2 == 1
  body ++ BitVec.ofBool odd

/-- The bits of a frame in the order sent (R119). -/
def relayBits (f : RelayFrame) : List Bool := (List.range 14).map (fun i => (relayWord f).getLsbD (13 - i))

/-- The pulses of a frame on the cue-out line, each with its release, in ms: the start pulse, then a pulse a bit (R120). -/
def relayPulses (f : RelayFrame) : List (Nat × Nat) := (8, 1) :: (relayBits f).map (fun b => (if b then 2 else 1, 1))

/-- How long a frame lasts on the line, in ms (R120). -/
def relayFrameMs (f : RelayFrame) : Nat := ((relayPulses f).map (fun p => p.1 + p.2)).sum

/-- The ladder band of a sample; none between bands (R164). -/
def bandOf (v : Nat) : Option Band :=
  if v ≤ 80 then some .adv
  else if 180 ≤ v ∧ v ≤ 260 then some .rev
  else if 360 ≤ v ∧ v ≤ 440 then some .focusIn
  else if 540 ≤ v ∧ v ≤ 620 then some .focusOut
  else if 720 ≤ v ∧ v ≤ 800 then some .hold
  else if 901 ≤ v then some .noKey
  else none

/-- The wired key of a band (R164). -/
def bandKey : Band → Option Key
  | .adv => some .adv
  | .rev => some .rev
  | .focusIn => some .focusIn
  | .focusOut => some .focusOut
  | .hold => some .hold
  | .noKey => none

end Sys2Proof.Machine
end

