-- ==== Sys2Proof/Machine/Ops.lean ====
section
/-! DEFINITION. The operations every block shares: giving a notice (R190), offering a trace record (R176), raising and
clearing a fault (R191, R178), and the transmitter (R185). -/

namespace Sys2Proof.Machine

/-! ### The transmitter and notices -/

/-- A free transmitter starts a frame: the oldest reply once it is ready, or, with the reply order empty, the oldest
queued notice (R185). -/
def pump (l : Link) : Link :=
  match l.sending with
  | some _ => l
  | none =>
    match l.replies with
    | r :: rest => if r.ready then { l with sending := some (replyFrame r), replies := rest } else l
    | [] =>
      match l.notices with
      | n :: rest => { l with sending := some (noticeFrame n), notices := rest }
      | [] => l

/-- A notice joins the queue of at most 16, or is dropped with NOTICES_LOST (R190). -/
def queueNotice (n : Notice) (l : Link) : Link :=
  if l.notices.length < 16 then pump { l with notices := l.notices ++ [n] } else { l with noticesLost := true }

/-- Giving a notice: its pending flag is set whether or not its kind is enabled, and it is queued when the kind is enabled
(R190). -/
def giveLink (n : Notice) (l : Link) : Link :=
  let l' := { l with flags := l.flags ||| noticeMask n }
  if l.mask.getLsbD (noticeBit n) then queueNotice n l' else l'

/-- Giving a notice. -/
def give (n : Notice) (s : State) : State := { s with link := giveLink n s.link }

/-- Giving notices in order. -/
def giveAll : List Notice → State → State
  | [], s => s
  | n :: ns, s => giveAll ns (give n s)

/-! ### Trace records -/

/-- WATERMARK follows the count, with its notice when it goes from clear to set (R181). -/
def settleWatermark (s : State) : State :=
  let reached := decide (s.items.traceWatermark ≤ s.trace.records.length)
  let s' := { s with trace := { s.trace with watermark := reached } }
  if reached && !s.trace.watermark then give (.watermark s.trace.records.length) s' else s'

/-- The entry to FROZEN: the flag is set and the FROZEN notice given (R179). -/
def freezeTrace (s : State) : State :=
  give (.frozen s.trace.records.length)
    { s with trace := { s.trace with phase := .frozen, frozen := true, postLeft := 0 } }

/-- A record kept by a ring mode: the newest, with the oldest removed and OVERWRITTEN set when 64 are held (R176). -/
def ringPush (r : TraceRec) (t : Trace) : Trace :=
  if t.records.length < 64 then { t with records := t.records ++ [r] }
  else { t with records := t.records.drop 1 ++ [r], overwritten := true }

/-- A record kept by FILL: discarded with FULL set when 64 are held (R176). -/
def fillPush (r : TraceRec) (t : Trace) : Trace :=
  if t.records.length < 64 then { t with records := t.records ++ [r] } else { t with full := true }

/-- A record taken in POSTING lowers the post remaining; at 0 the buffer freezes (R179). -/
def countPost (s : State) : State :=
  let left := s.trace.postLeft - 1
  if left = 0 then freezeTrace s else { s with trace := { s.trace with postLeft := left } }

/-- A record offered by a block, handled by the mode and phase as they stand (R176, R179, R180). -/
def offer (body : TraceBody) (s : State) : State :=
  let r : TraceRec := { stamp := s.link.clock, body := body }
  match s.trace.mode, s.trace.phase with
  | .off, _ => s
  | .fill, _ => settleWatermark { s with trace := fillPush r s.trace }
  | .ringFreeze, .frozen => s
  | .ringFreeze, .posting => countPost (settleWatermark { s with trace := ringPush r s.trace })
  | .waitRing, .waiting => s
  | _, _ => settleWatermark { s with trace := ringPush r s.trace }

/-- A notice and its trace record of one event. -/
def report (n : Notice) (body : TraceBody) (s : State) : State := offer body (give n s)

/-! ### Faults -/

/-- The trigger condition's change acts on the phase (R179, R180). -/
def actOnTrigger (holds : Bool) (s : State) : State :=
  match s.trace.mode, s.trace.phase, holds with
  | .ringFreeze, .ringing, true =>
    if s.trace.post = 0 then freezeTrace s
    else { s with trace := { s.trace with phase := .posting, postLeft := s.trace.post } }
  | .ringFreeze, .posting, false => { s with trace := { s.trace with phase := .ringing, postLeft := 0 } }
  | .waitRing, .waiting, true => { s with trace := { s.trace with phase := .ringing } }
  | .waitRing, .ringing, false => { s with trace := { s.trace with phase := .waiting } }
  | _, _, _ => s

/-- The record of a fault and the change of the trigger condition it makes, taken together as R178 gives: the record
first, but for the raising that starts WAIT_RING, whose record is the first of the new RINGING. -/
def recordFault (body : TraceBody) (before : Bool) (s : State) : State :=
  let after := triggerHolds s
  if before = after then offer body s
  else if s.trace.mode = .waitRing ∧ s.trace.phase = .waiting then offer body (actOnTrigger after s)
  else actOnTrigger after (offer body s)

/-- Raising a fault: nothing when it stands already; else the set, the FAULT notice, the FAULT_RAISED record and the
trigger (R191, R178). -/
def raiseFault (f : FaultKind) (pos : Option LampPos) (s : State) : State :=
  if hasFault f s then s
  else
    let s1 := { s with link := { s.link with faults := s.link.faults ||| faultMask f } }
    recordFault (.faultRaised f pos) (triggerHolds s) (give (.fault f true pos) s1)

/-- Clearing a fault: nothing when it does not stand (R191, R178). Its notice and record carry no lamp position (log 62). -/
def clearFault (f : FaultKind) (s : State) : State :=
  if hasFault f s then
    let s1 := { s with link := { s.link with faults := s.link.faults &&& ~~~(faultMask f) } }
    recordFault (.faultCleared f none) (triggerHolds s) (give (.fault f false none) s1)
  else s

/-! ### Replies -/

/-- How a request is answered (R186). -/
inductive Answer where
  | done (data : List Byte)
  | accepted (data : List Byte)
  | refused (r : Reason)
  deriving DecidableEq, Repr

/-- A request refused with a reason, or done with no data. -/
def answerOf : Option Reason → Answer
  | some r => .refused r
  | none => .done []

/-- The payload of a reply: the status byte, then the reason code or the data (R186). -/
def answerPayload : Answer → List Byte
  | .done data => 0 :: data
  | .accepted data => 1 :: data
  | .refused r => [2, byte1 (reasonCode r)]

/-- A complete frame takes its place behind the requests that already await replies, and the receiver returns to HUNTING
(R184, R185). -/
def takePlace (kind tag : Byte) (s : State) : State :=
  { s with link := { s.link with
      receiving := false, rxBuffer := [],
      replies := s.link.replies ++ [{ kind := kind, tag := tag, payload := [], ready := false }] } }

/-- The reply of the request being served, the newest in the order, gets its payload. -/
def fillReply (payload : List Byte) (s : State) : State :=
  match s.link.replies.getLast? with
  | some r => { s with link := { s.link with replies := s.link.replies.dropLast ++ [{ r with payload := payload }] } }
  | none => s

/-- A complete frame that arrives while four requests await replies is discarded and OVERRUN is set (R185). -/
def overrunFrame (s : State) : State :=
  { s with link := { s.link with receiving := false, rxBuffer := [], overrun := true } }

end Sys2Proof.Machine
end

