-- ==== Sys2Proof/Machine/Thermal.lean ====
section
/-! DEFINITION. The fan, the ceiling, the strike permission and the cooldown record (R69 to R79), and the
THERMAL report (R76). -/

namespace Sys2Proof.Machine

/-- The fan floor from H and the floor as it stood (R69). -/
def floorOf (h : Nat) (old : FanFloor) : FanFloor :=
  if 15872 ≤ h ∨ (old = .high ∧ 14848 ≤ h) then .high
  else if 12800 ≤ h ∨ ((old = .medium ∨ old = .high) ∧ 11776 ≤ h) then .medium
  else .low

/-- The higher of LOW and the floor (R70). -/
def floorLevel : FanFloor → FanLevel
  | .low => .low
  | .medium => .medium
  | .high => .high

/-- The commanded fan level, the first row of R70 that holds. -/
def fanLevelOf (s : State) : FanLevel :=
  if s.heat.power = .sleep then .off
  else if s.heat.cooling || hasFault .overtemp s || hasFault .tcoOpen s then .high
  else if 0 < s.lamp.drive then floorLevel s.heat.floor
  else .off

/-- The stall timer under a new level: stopped at OFF, started when the level leaves OFF, else as it stands (R71). -/
def stallTimerAt (level old : FanLevel) (timer : Option Nat) : Option Nat :=
  if level = .off then none else if old = .off then some 0 else timer

/-- The fan level is evaluated afresh (R70, R71). -/
def evalFan (s : State) : State :=
  { s with heat.fan := fanLevelOf s, heat.stallTimer := stallTimerAt (fanLevelOf s) s.heat.fan s.heat.stallTimer }

/-- The heat zone of H (R72). -/
def zoneOf (h : Nat) : Zone := if h < 19200 then .full else if h < 21760 then .derate else .trip

/-- The ceiling of H and the two heat faults, before the stalled-fan limit (R72). -/
def heatCeiling (h : Nat) (blocked : Bool) : Nat :=
  if blocked || decide (21760 ≤ h) then 0
  else if 19200 ≤ h then 1000 - (h - 19200) * 600 / 2560
  else 1000

/-- The ceiling (R72). -/
def ceilingOf (s : State) : Nat :=
  let c := heatCeiling s.heat.estimate (hasFault .overtemp s || hasFault .tcoOpen s)
  if hasFault .fanStall s then min c 400 else c

/-- The strike permission (R75). -/
def strikeAllowed (s : State) : Bool := decide (s.heat.estimate ≤ 17920) && !hasFault .tcoOpen s

/-- The cooldown record is started, or started again from 0, and the fan follows (R77). -/
def startCooldown (s : State) : State := evalFan { s with heat.cooling := true, heat.elapsed := 0 }

/-- A strike ends the cooldown record without a notice, and the fan follows D (R79). -/
def endCooldown (s : State) : State := evalFan { s with heat.cooling := false }

/-- D as the lamp state, R and the ceiling give it (R46). -/
def driveOf (l : Lamp) (ceiling : Nat) : Nat :=
  match l.state with
  | .preheat | .lit => min l.ramp ceiling
  | .off | .swapping | .failed => 0

/-- D is recomputed (R46). A fall to 0 starts the cooldown record (R77), a rise from 0 raises the fan (R70), and a D below
120 clears the open-sample count (R58). -/
def recomputeD (s : State) : State :=
  let d := driveOf s.lamp s.heat.ceiling
  let s1 := { s with lamp.drive := d, lamp.openCount := if d < 120 then 0 else s.lamp.openCount }
  if 0 < s.lamp.drive ∧ d = 0 then startCooldown s1
  else if s.lamp.drive = 0 ∧ 0 < d then evalFan s1
  else s1

/-- The ceiling and the zone are computed and handed to the Lamp Drive, which recomputes D (R72, R46). -/
def evalCeiling (s : State) : State :=
  recomputeD { s with heat.ceiling := ceilingOf s, heat.zone := zoneOf s.heat.estimate }

/-- The strike permission is evaluated (R75). -/
def evalPermission (s : State) : State := { s with heat.allowed := strikeAllowed s }

/-- What R76 watches: fan level, zone, permission. -/
def thermalKey (s : State) : FanLevel × Zone × Bool := (s.heat.fan, s.heat.zone, s.heat.allowed)

/-- The THERMAL notice and record as things stand (R76). -/
def reportThermal (s : State) : State :=
  report (.thermal s.heat.estimate s.heat.ambient s.heat.fan s.heat.ceiling s.heat.zone s.heat.allowed)
    (.thermal s.heat.estimate s.heat.ceiling s.heat.ambient s.heat.fan s.heat.zone s.heat.allowed) s

/-- One THERMAL report when a watched value differs from what it was (R76). -/
def settleThermal (before : FanLevel × Zone × Bool) (s : State) : State :=
  if thermalKey s = before then s else reportThermal s

/-- A command's effect with its THERMAL report at the end (R76; log 17). -/
def withThermal (f : State → State) (s : State) : State := settleThermal (thermalKey s) (f s)

end Sys2Proof.Machine
end

