-- ==== Sys2Proof/Machine/Power.lean ====
section
/-! DEFINITION. Entry to SLEEP, the sleep test and the wake (R81 to R87), with what SLEEP takes from the relay and the
Remote Receiver (R121, R122, R174). -/

namespace Sys2Proof.Machine

/-- One RELAY_LOST record for each dropped frame, oldest first. -/
def relayLost (reason : Reason) : List RelayFrame → State → State
  | [], s => s
  | f :: fs, s => relayLost reason fs (offer (.relayLost f.index f.kind reason) s)

/-- The relay-out queue is emptied with its records; a frame in transmission goes on (R121, R124). -/
def loseRelayQueue (reason : Reason) (s : State) : State :=
  relayLost reason s.decoder.relayQueue { s with decoder.relayQueue := [] }

/-- The focus drive at an entry to SLEEP (R173, R174). -/
def sleepFocus (s : State) : State :=
  let s1 := { s with remote.focus := .idle }
  match s.remote.focus with
  | .nudge dir tag _ => give (.focusEnd dir .host .cancelled (some tag)) s1
  | _ => s1

/-- A held key kept over the entry to SLEEP has its used-up mark set (R174). -/
def useUp (h : Option Held) : Option Held := h.map (fun k => { k with usedUp := true })

/-- The Remote Receiver reduced to wake detection (R174). -/
def sleepRemote (s : State) : State :=
  sleepFocus { s with remote.entry := none, remote.irKey := useUp s.remote.irKey, remote.wiredKey := useUp s.remote.wiredKey }

/-- A POWER notice of a change or of the end of a sleep request (R87). -/
def powerNotice (cause : Reason) (source : Option WakeSource) (tag : Option Byte) (outcome : Option Reason)
    (s : State) : State :=
  give (.power s.heat.power (s.heat.sleepPending != .clear) cause source tag outcome) s

/-- Entry to SLEEP (R84), with the tag of the request it ends, if any (R83). -/
def enterSleep (tag : Option Byte) (s : State) : State :=
  let s1 := evalFan { s with
    heat.power := .sleep, heat.sleepPending := .clear, heat.updateTimer := none, decoder.relayIn := .idle }
  powerNotice .sleepEntered none tag (tag.map (fun _ => .entered)) (sleepRemote (loseRelayQueue .power s1))

/-- The sleep conditions (R81). -/
def sleepConditions (s : State) : Bool :=
  decide (s.heat.power = .standby) && !s.heat.cooling && decide (s.lamp.drive = 0)
    && decide (s.lamp.state = .off ∨ s.lamp.state = .failed)
    && decide (s.transport.state = .stopped ∨ s.transport.state = .noTape)
    && decide (s.changer.stage = .idle) && !hasFault .overtemp s && !hasFault .tcoOpen s

/-- The test of a pending sleep at an event that can make the conditions hold (R83). -/
def sleepTest (s : State) : State :=
  match s.heat.sleepPending with
  | .clear => s
  | .set tag => if sleepConditions s then enterSleep tag s else s

/-- A wake from SLEEP (R85, R68); in the other power states nothing. -/
def wake (source : WakeSource) (s : State) : State :=
  if s.heat.power = .sleep then
    powerNotice .wake (some source) none none
      (evalFan { s with heat.power := .standby, heat.wakeDue := true, heat.updateTimer := some 0 })
  else s

end Sys2Proof.Machine
end

