-- ==== Sys2Proof/Machine/Lamp.lean ====
section
/-! DEFINITION. The Lamp Drive's operations (R46 to R64), up to the answer dark reached, which
Machine/Changer.lean takes. -/

namespace Sys2Proof.Machine

/-! ### Readings -/

/-- The record of a lamp position (R47). -/
def lampRec (l : Lamp) : LampPos → LampCond
  | .a => l.recA
  | .b => l.recB

/-- Setting the record of a lamp position. -/
def setLampRec (p : LampPos) (c : LampCond) (l : Lamp) : Lamp :=
  match p with
  | .a => { l with recA := c }
  | .b => { l with recB := c }

/-- The other lamp position. -/
def otherPos : LampPos → LampPos
  | .a => .b
  | .b => .a

/-- The Changer's dark claim is REQUESTED or HELD (R36). -/
def claimStands (s : State) : Bool := s.changer.claim != .clear

/-- The preheat drive (R49). -/
def preheatDrive (s : State) : Nat := if claimStands s then min 120 s.items.darkThreshold else 120

/-- A level as a number now. -/
def levelNow (s : State) : Level → Nat
  | .value n => n
  | .keepWarm => s.items.keepWarm

/-- The steps of a ramp item now (R49, R51). -/
def rampNow (s : State) : Ramp → Nat
  | .strikeRamp => s.items.strikeRamp
  | .fadeOut => s.items.fadeOut
  | .fadeIn => s.items.fadeIn

/-- A power-down fade is running (R57). -/
def powerDownRuns (l : Lamp) : Bool :=
  match l.fade with
  | some f => f.kind == .powerDown
  | none => false

/-- R at step `k` of a fade: a + trunc((b - a) * k / n) (R50). -/
def fadeLevel (f : Fade) (k : Nat) : Nat := ((f.a : Int) + Int.tdiv (((f.b : Int) - f.a) * k) f.n).toNat

/-! ### Reports -/

/-- The LAMP notice and record of a change of lamp state (R63). -/
def reportLamp (cause : Reason) (s : State) : State :=
  report (.lamp s.lamp.state s.lamp.active s.lamp.drive cause)
    (.lamp s.lamp.drive s.lamp.state s.lamp.active cause) s

/-- The LAMP record of a refused strike or a re-strike not made, without a notice (R48, R60, R63). -/
def recordRefusedStrike (reason : Reason) (s : State) : State :=
  offer (.lamp s.lamp.drive s.lamp.state s.lamp.active reason) s

/-! ### The fade engine -/

/-- A fade to `b` in `n` steps starts from R, replacing any other; with no steps R is `b` at once (R50). A fade other than
the strike fade, or a strike fade with no steps, ends a swap's re-strike (R60). -/
def startFade (kind : FadeKind) (b n : Nat) (s : State) : State :=
  if n = 0 then recomputeD { s with lamp.ramp := b, lamp.fade := none, lamp.restriking := false }
  else
    { s with
      lamp.fade := some { kind := kind, a := s.lamp.ramp, b := b, n := n, k := 0 }
      lamp.restriking := s.lamp.restriking && kind == .strike }

/-! ### Changes of lamp state -/

/-- The lamp leaves the light for a dark state: fade cancelled, R = 0, D = 0 (R56, R57, R59). -/
def lampDark (st : LampState) (s : State) : State :=
  recomputeD { s with
    lamp.state := st, lamp.fade := none, lamp.ramp := 0, lamp.swap := none, lamp.restriking := false, lamp.window := none }

/-- The lamp goes OFF, reported with its cause, and a pending sleep is tested (R63, R83). -/
def lampGoesOff (cause : Reason) (s : State) : State := sleepTest (reportLamp cause (lampDark .off s))

/-- The lamp enters PREHEAT for a destination over STRIKE_RAMP, which ends a pending cooldown (R49, R79). -/
def enterPreheat (cause : Reason) (dest : Level) (restrike : Bool) (s : State) : State :=
  let s1 := recomputeD { s with
    lamp.state := .preheat, lamp.ramp := preheatDrive s, lamp.fade := none, lamp.swap := none,
    lamp.dest := if claimStands s then .keepWarm else dest, lamp.destRamp := .strikeRamp,
    lamp.restriking := restrike, lamp.window := some 0 }
  reportLamp cause (if s1.heat.cooling then endCooldown s1 else s1)

/-- A swap starts: SWAPPING for 2000 ms with D = 0 (R60, R61). -/
def startSwap (cause : Reason) (swap : Swap) (s : State) : State :=
  reportLamp cause (recomputeD { s with
    lamp.state := .swapping, lamp.fade := none, lamp.ramp := 0, lamp.restriking := false,
    lamp.swap := some swap, lamp.window := some 0 })

/-! ### Striking (R48) -/

/-- H and the cut-out forbid a strike (check 2 of R48, R60). -/
def tooHot (s : State) : Bool := decide (17920 < s.heat.estimate) || hasFault .tcoOpen s

/-- The checks of R48 in order; none when the strike is accepted or has no effect. -/
def strikeRefusal (s : State) : Option Reason :=
  if s.heat.power ≠ .active then some .notActive
  else if tooHot s then some .tooHot
  else if s.lamp.state = .swapping ∨ powerDownRuns s.lamp then some .busy
  else if s.lamp.state = .preheat ∨ s.lamp.state = .lit then none
  else if hasFault .lampOpen s then some .faultActive
  else if lampRec s.lamp s.lamp.active = .failed
      ∧ (lampRec s.lamp (otherPos s.lamp.active) = .failed ∨ ¬ s.items.lampAutoChange) then some .noLamp
  else none

/-- An accepted strike: S from the preset, then a swap or PREHEAT; in PREHEAT or LIT nothing (R48). -/
def makeStrike (cause : Reason) (s : State) : State :=
  if s.lamp.state = .preheat ∨ s.lamp.state = .lit then s
  else
    let s1 := { s with lamp.show_ := s.lamp.preset }
    if lampRec s.lamp s.lamp.active = .failed then
      startSwap cause
        { newPos := otherPos s.lamp.active, auto := true, tag := none, restrike := true, resume := .value s.lamp.preset } s1
    else enterPreheat cause (.value s.lamp.preset) false s1

/-- LAMP ON from any source: the refusal, if any, and the state after (R48). -/
def strike (cause : Reason) (s : State) : Option Reason × State :=
  match strikeRefusal s with
  | some r => (some r, s)
  | none => (none, makeStrike cause s)

/-- A strike by a key or a cue action: a refusal writes a LAMP record (R48). -/
def strikeUnanswered (cause : Reason) (s : State) : State :=
  match strike cause s with
  | (some r, s1) => recordRefusedStrike r s1
  | (none, s1) => s1

/-! ### FADE, dark and light (R52 to R55) -/

/-- A swap's resume level is set (R52, R55). -/
def setResume (lv : Level) (l : Lamp) : Lamp := { l with swap := l.swap.map (fun w => { w with resume := lv }) }

/-- A FADE to `level` over `n` steps, by lamp state and dark claim (R52). -/
def takeFade (level n : Nat) (s : State) : State :=
  match s.lamp.state with
  | .lit =>
    if powerDownRuns s.lamp then { s with lamp.show_ := level, lamp.preset := level }
    else if claimStands s then { s with lamp.show_ := level }
    else startFade .show_ level n { s with lamp.show_ := level }
  | .preheat =>
    if claimStands s then { s with lamp.show_ := level }
    else { s with lamp.show_ := level, lamp.dest := .value level, lamp.destRamp := .strikeRamp }
  | .off | .failed => { s with lamp.show_ := level, lamp.preset := level }
  | .swapping => { s with lamp := setResume (.value level) { s.lamp with show_ := level, preset := level } }

/-- A FADE of a cue action: in OFF with AUTO_STRIKE a strike follows, in FAILED a refused strike is recorded (R52). -/
def takeCueFade (level n : Nat) (s : State) : State :=
  let s1 := takeFade level n s
  if s.items.autoStrike then
    match s.lamp.state with
    | .off => strikeUnanswered .cue s1
    | .failed => recordRefusedStrike .faultActive s1
    | _ => s1
  else s1

/-- D is at or below the dark threshold. -/
def isDark (s : State) : Bool := decide (s.lamp.drive ≤ s.items.darkThreshold)

/-- A dark request: whether dark is reached at once, and the state after (R54). A request not answered at once waits. -/
def darkRequest (s : State) : Bool × State :=
  match s.lamp.state with
  | .off | .failed | .swapping => (true, s)
  | .preheat =>
    (true, recomputeD { s with
      lamp.ramp := min 120 s.items.darkThreshold, lamp.dest := .keepWarm, lamp.destRamp := .fadeOut })
  | .lit =>
    let s1 := if powerDownRuns s.lamp then s else startFade .dark s.items.keepWarm s.items.fadeOut s
    (isDark s1, { s1 with lamp.darkWaiting := !isDark s1 })

/-- A light request, which withdraws a waiting dark request (R55). -/
def lightRequest (s : State) : State :=
  let s1 := { s with lamp.darkWaiting := false }
  match s.lamp.state with
  | .off | .failed => s1
  | .preheat =>
    recomputeD { s1 with lamp.ramp := 120, lamp.dest := .value s.lamp.show_, lamp.destRamp := .fadeIn }
  | .lit => if powerDownRuns s.lamp then s1 else startFade .light s.lamp.show_ s.items.fadeIn s1
  | .swapping => { s1 with lamp := setResume (.value s.lamp.show_) s1.lamp }

/-- The light request of the Cue Program, without effect while the dark claim stands (R55). -/
def programLight (s : State) : State := if claimStands s then s else lightRequest s

/-- The lamp's part of the end sequence (R51). -/
def lampEndFade (s : State) : State :=
  match s.lamp.state with
  | .lit => if powerDownRuns s.lamp then s else startFade .endFade s.items.keepWarm s.items.fadeOut s
  | .preheat => { s with lamp.dest := .keepWarm, lamp.destRamp := .fadeOut }
  | .swapping => { s with lamp := setResume .keepWarm s.lamp }
  | .off | .failed => s

/-! ### Lamp off (R56, R57) -/

/-- The re-strike of a swap in progress is cancelled (R60). -/
def cancelRestrike (s : State) : State :=
  { s with lamp.swap := s.lamp.swap.map (fun w => { w with restrike := false }) }

/-- LAMP OFF, or a forced-off order with its cause (R56, R57). -/
def lampOffNow (cause : Reason) (s : State) : State :=
  match s.lamp.state with
  | .preheat | .lit => lampGoesOff cause s
  | .swapping => cancelRestrike s
  | .off | .failed => s

/-- The power-down order at entry to STANDBY (R57). -/
def powerDownLamp (s : State) : State :=
  match s.lamp.state with
  | .lit =>
    if powerDownRuns s.lamp then s
    else if s.items.fadeOut = 0 then lampGoesOff .power s
    else startFade .powerDown 0 s.items.fadeOut s
  | .preheat => lampGoesOff .power s
  | .swapping => cancelRestrike s
  | .off | .failed => s

/-! ### Events of the fade engine and the swap -/

/-- The fade's part of a step event (R50): R moves, D is recomputed, and the last step ends the fade; the power-down fade
then takes the lamp OFF (R57). -/
def fadeAdvance (s : State) : State :=
  match s.lamp.state, s.lamp.fade with
  | .lit, some f =>
    if f.k + 1 < f.n then
      recomputeD { s with lamp.ramp := fadeLevel f (f.k + 1), lamp.fade := some { f with k := f.k + 1 } }
    else if f.kind = .powerDown then lampGoesOff .power s
    else recomputeD { s with lamp.ramp := f.b, lamp.fade := none, lamp.restriking := false }
  | _, _ => s

/-- The end of PREHEAT: LIT, and the fade to the destination (R49). -/
def lampLights (s : State) : State :=
  if s.lamp.state = .preheat then
    reportLamp .strikeEnd
      (startFade .strike (levelNow s s.lamp.dest) (rampNow s s.lamp.destRamp)
        { s with lamp.state := .lit, lamp.window := none })
  else s

/-- The re-strike of an automatic swap, or the LAMP record of the reason it is not made for (R60). -/
def restrikeLamp (resume : Level) (s : State) : State :=
  if s.heat.power ≠ .active then recordRefusedStrike .notActive (lampGoesOff .swapEnd s)
  else if tooHot s then recordRefusedStrike .tooHot (lampGoesOff .swapEnd s)
  else enterPreheat .swapEnd resume true s

/-- The end of the carriage travel (R60, R61). -/
def swapEnds (s : State) : State :=
  match s.lamp.state, s.lamp.swap with
  | .swapping, some w =>
    let cause : Reason := if w.auto then .auto else .select
    let s1 := report (.lampSwapped w.newPos cause w.tag) (.lampSwapped w.newPos cause)
      { s with lamp.active := w.newPos, lamp.swap := none, lamp.window := none }
    if w.restrike then restrikeLamp w.resume s1
    else if !w.auto && hasFault .lampOpen s then sleepTest (reportLamp .swapEnd (lampDark .failed s1))
    else lampGoesOff .swapEnd s1
  | _, _ => s

/-- The lamp state FAILED ends with LAMP_OPEN (R62; log 40). -/
def leaveFailed (s : State) : State :=
  if s.lamp.state = .failed then sleepTest (reportLamp .faultClear (lampDark .off s)) else s

end Sys2Proof.Machine
end

