-- ==== Sys2Proof/Machine/Tray.lean ====
section
/-! DEFINITION. The Tray Unit's arithmetic: capacity, slot records, maps, eligibility, the STEP walk and the direction of
rotation (R1, R8 to R18). -/

namespace Sys2Proof.Machine

/-- The capacity N of a tray code (R1). -/
def capacity (code : Fin 4) : Nat := if code = 1 then 48 else if code = 2 then 96 else 0

/-- The seated tray's N, 0 without a tray (R1). -/
def traySize (s : State) : Nat := capacity s.tray.code

/-- A tray is seated (R1). -/
def traySeated (s : State) : Bool := decide (0 < traySize s)

/-- The record of a tray map as seating and the resets make it (R2, R19). -/
def freshSlot : SlotRec := { presence := .unknown, source := .unset, shown := 0, hold := none }

/-- The record of a slot 1..N (R8). -/
def slotRec (s : State) (slot : Nat) : Option SlotRec := if slot = 0 then none else s.tray.slots[slot - 1]?

/-- Writing the record of a slot. -/
def setSlot (slot : Nat) (r : SlotRec) (s : State) : State :=
  { s with tray.slots := s.tray.slots.set (slot - 1) r }

/-- The programmable slot map of a number; every other number gives the empty set (R11). -/
def mapBits (t : Tray) : Nat → SlotSet
  | 1 => t.map1
  | 2 => t.map2
  | 3 => t.map3
  | _ => 0

/-- A slot of the seated tray is a member of map `m` (R11). Map 0 holds every slot 1..N. -/
def inMap (s : State) (m slot : Nat) : Bool :=
  decide (1 ≤ slot) && decide (slot ≤ traySize s) && (m == 0 || (mapBits s.tray m).getLsbD (slot - 1))

/-- The presence of a slot is ABSENT. -/
def knownAbsent (s : State) (slot : Nat) : Bool :=
  match slotRec s slot with
  | some r => r.presence == .absent
  | none => false

/-- Eligibility of a slot under map `m` (R13). -/
def eligible (s : State) (m slot : Nat) : Bool := inMap s m slot && (!s.items.skipEmpties || !knownAbsent s slot)

/-- The slots `lo`, `lo + 1`, … `hi`. -/
def slotsUp (lo hi : Nat) : List Nat := List.range' lo (hi + 1 - lo)

/-- The slots a walk from `c` visits up to the end of the tray, in order (R14, R15). -/
def visitToEnd (n c : Nat) (forward : Bool) : List Nat :=
  if forward then slotsUp (c + 1) n else (slotsUp 1 ((if c = 0 then n + 1 else c) - 1)).reverse

/-- The slots of one whole turn from `c`, `c` itself last (R14, R16). -/
def visitTurn (n c : Nat) (forward : Bool) : List Nat :=
  if forward then slotsUp (c + 1) n ++ slotsUp 1 c
  else if c = 0 then (slotsUp 1 n).reverse
  else (slotsUp 1 (c - 1)).reverse ++ (slotsUp c n).reverse

/-- The end of a walk: its target, how many eligible slots it counted, and whether it was shortened (R14, R15). -/
structure WalkEnd where
  target  : Nat
  counted : Nat
  short   : Bool
  deriving DecidableEq, Repr

/-- The STEP walk of `n` from `c` over map `m`; none when no slot 1..N is eligible (R14 to R16). With TRAY_WRAP ON
the walk goes round the eligible slots of a turn as often as it takes; with it OFF it stops at the end of the tray. -/
def walk (s : State) (m c : Nat) (n : Int) : Option WalkEnd :=
  let forward := decide (0 < n)
  let turn := (visitTurn (traySize s) c forward).filter (eligible s m)
  if turn = [] then none
  else if s.items.trayWrap then
    some { target := turn.getD ((n.natAbs - 1) % turn.length) c, counted := n.natAbs, short := false }
  else
    let ahead := (visitToEnd (traySize s) c forward).filter (eligible s m)
    if n.natAbs ≤ ahead.length then
      some { target := ahead.getD (n.natAbs - 1) c, counted := n.natAbs, short := false }
    else some { target := ahead.getLastD c, counted := ahead.length, short := true }

/-- The END_OF_TRAY notice and record of a shortened walk (R15). -/
def reportShort (n : Int) (w : WalkEnd) (s : State) : State :=
  if w.short then report (.endOfTray n w.counted w.target) (.endOfTray w.target n w.counted) s else s

/-- The direction of a rotation from `p` to `t` on a tray of capacity `n` (R18). -/
def turnFor (n p t : Nat) : Turn :=
  let df := (t + (n + 1) - p) % (n + 1)
  if df ≤ n + 1 - df then .forward else .backward

/-- The position one index pulse on (R5). -/
def pulsed (n p : Nat) : Turn → Nat
  | .forward => (p + 1) % (n + 1)
  | .backward => (p + n) % (n + 1)

/-- What a drop taught about the slot (R9): presence learned, and the shown count raised for a confirmed drop. -/
def learn (pres : Presence) (shown : Bool) (s : State) : State :=
  match s.tray.position with
  | some p =>
    match slotRec s p with
    | some r =>
      setSlot p { r with
        presence := pres, source := .learned, shown := if shown then min 255 (r.shown + 1) else r.shown } s
    | none => s
  | none => s

end Sys2Proof.Machine
end

