-- ==== Sys2Proof/Machine/Show.lean ====
section
/-! DEFINITION. What the Changer's ends reach in the show: the auto-advance timer's reload (R153) and the
end of a loop or of a seek-cue record at a chase that did not complete (R138, R141, R142). -/

namespace Sys2Proof.Machine

/-- The hold override of the slot in the gate, when the gate is LOADED and the position is known (R153). -/
def gateOverride (s : State) : Option Nat :=
  if s.changer.gate = .loaded then
    match s.tray.position with
    | some p => (slotRec s p).bind (fun r => r.hold)
    | none => none
  else none

/-- The effective period in 0.1 s (R153). -/
def effectivePeriod (s : State) : Nat := (gateOverride s).getD (s.program.period.getD 0)

/-- A reload sets the remaining time to the effective period (R153). -/
def reloadTimer (s : State) : State := { s with program.remaining := effectivePeriod s * 100 }

/-- A MOVE DONE, COMPLETE or ABORTED, reloads a timer that is RUNNING or PAUSED (R153). -/
def timerMoveDone (s : State) : State := if s.program.timer = .stopped then s else reloadTimer s

/-- The timer-held mark is set or cleared, with the show hold on (R151). -/
def markTimerHeld (b : Bool) (s : State) : State :=
  { s with program.hold := s.program.hold.map (fun m => { m with timerHeld := b }) }

/-- TIMER STOP (R153); a timer that leaves PAUSED loses its timer-held mark (R151). -/
def stopTimer (s : State) : State :=
  if s.program.timer = .stopped then s else markTimerHeld false { s with program.timer := .stopped }

/-- A phase of REWINDING or CHASING becomes IDLE at the end of a loop (R142). -/
def phaseAfterEnd : LoopPhase → LoopPhase
  | .rewinding | .chasing => .idle
  | .idle => .idle
  | .ending => .ending

/-- A loop ends: nothing with the armed flag clear, else flags cleared, the phase settled and LOOP ENDED given (R142). -/
def endLoop (reason : Reason) (detail : Option Reason) (s : State) : State :=
  if s.cueLog.armed then
    give (.loopEnded reason detail s.program.loops s.transport.reel)
      { s with cueLog.armed := false, cueLog.restart := false, cueLog.phase := phaseAfterEnd s.cueLog.phase }
  else s

/-- The seek-cue record is cleared (R138). -/
def clearSeekCue (s : State) : State := { s with cueLog.seekCue := none }

/-- The seek-cue record stands in phase CHASING (R138). -/
def seekCueChasing (s : State) : Bool :=
  match s.cueLog.seekCue with
  | some r => r.chasing
  | none => false

/-- A chase's GOTO ended ABORTED or FAILED, or its chase was refused: what waits on it ends (R138, R141). -/
def chaseFailed (owner : Option ChaseOwner) (detail : Reason) (s : State) : State :=
  match owner with
  | some .seekCue => if seekCueChasing s then clearSeekCue s else s
  | some .loop => if s.cueLog.phase = .chasing then endLoop .chaseFailed (some detail) s else s
  | none => s

end Sys2Proof.Machine
end

