-- ==== Sys2Proof/Machine/Changer.lean ====
section
/-! DEFINITION. The Changer's operations (R20 to R45): the queue, the stages of the cycle, its ends, faults and abort, and the
answer dark reached (R54). -/

namespace Sys2Proof.Machine

/-! ### Completion notices (R24, R26) -/

/-- The tags an ended entry answers, oldest first, each with its merged mark; an entry without tags answers once (R24). -/
def tagMarks : List Byte → List (Option Byte × Bool)
  | [] => [(none, false)]
  | [t] => [(some t, false)]
  | t :: ts => (some t, true) :: tagMarks ts

/-- The MOVE DONE notices of an entry (R26). -/
def doneNotices (e : MoveEntry) (slot : Option Nat) (outcome : Reason) : List Notice :=
  (tagMarks e.tags).map (fun p => .moveDone e.source e.move slot p.1 p.2 outcome)

/-- The MOVE FAILED notices of an entry (R26). -/
def failedNotices (e : MoveEntry) (slot : Option Nat) (reason : Reason) : List Notice :=
  (tagMarks e.tags).map (fun p => .moveFailed e.source e.move p.1 p.2 reason slot)

/-- Every entry of a cleared queue is answered, oldest first (R26). -/
def failEntries (reason : Reason) : List MoveEntry → State → State
  | [], s => s
  | e :: es, s =>
    failEntries reason es (chaseFailed e.owner reason (giveAll (failedNotices e s.tray.position reason) s))

/-- A clearing of the move queue (R21, R26). -/
def clearQueue (reason : Reason) (s : State) : State :=
  failEntries reason s.changer.queue { s with changer.queue := [] }

/-! ### The end of a cycle -/

/-- The Changer returns to IDLE, motor and lift arm at rest, with no pause, also when the cycle failed (R35, R37, R39; log
55). -/
def toIdle (s : State) : State :=
  { s with
    changer.stage := .idle, changer.cycle := none, changer.pause := .clear, changer.motor := none,
    changer.liftArm := false, changer.seatWindow := false, changer.window := none, tray.search := none }

/-- The notices and the record of a failed cycle, with the number of queued entries dropped with it (R26). -/
def reportFailure (reason : Reason) (dropped : Nat) (s : State) : State :=
  match s.changer.cycle with
  | some c =>
    chaseFailed c.entry.owner reason
      (offer (.moveFailed s.tray.position c.entry.source reason dropped)
        (giveAll (failedNotices c.entry s.tray.position reason) s))
  | none => s

/-- A move fails without a fault: the queue is kept (R39). -/
def failMove (reason : Reason) (s : State) : State := sleepTest (toIdle (reportFailure reason 0 s))

/-- A changer fault: motor and arm stop, the gate is UNKNOWN, the fault is raised, the cycle ends FAILED and the queue is
cleared with the same reason (R37). -/
def changerFails (f : FaultKind) (reason : Reason) (s : State) : State :=
  let s1 := { s with
    changer.motor := none, changer.liftArm := false, changer.gate := .unknown,
    tray.position := if f = .rotateStall then none else s.tray.position }
  let s2 := raiseFault f none s1
  sleepTest (toIdle (clearQueue reason (reportFailure reason s.changer.queue.length s2)))

/-- LIGHT: a LOADED gate opens the shutter and gives light; another gate holds dark (R34). -/
def lightStage (s : State) : State :=
  if s.changer.gate = .loaded then
    let s1 := { s with changer.stage := .light, changer.shutterOpen := true, changer.claim := .clear }
    if s.changer.claim = .clear then s1 else lightRequest s1
  else { s with changer.stage := .light }

/-- The outcome of a cycle that reaches DONE (R35). -/
def cycleOutcome (c : Cycle) : Reason := if c.aborted then .aborted else .complete

/-- DONE: MOVE DONE, its record, and the timer's reload (R35). -/
def doneStage (s : State) : State :=
  match s.changer.cycle with
  | some c =>
    timerMoveDone
      (offer (.moveDone s.tray.position c.entry.source c.entry.move (cycleOutcome c))
        (giveAll (doneNotices c.entry s.tray.position (cycleOutcome c)) s))
  | none => s

/-- The owner of the chase that the cycle in progress runs for (log 23). -/
def cycleOwner (s : State) : Option ChaseOwner := s.changer.cycle.bind (fun c => c.entry.owner)

/-- LIGHT and DONE of an aborted cycle cut short before LIFT (R42). -/
def finishAborted (s : State) : State :=
  let s1 := doneStage (lightStage s)
  sleepTest (toIdle (chaseFailed (cycleOwner s) .aborted s1))

/-! ### DROP and SETTLE -/

/-- SETTLE starts (R34). -/
def toSettle (s : State) : State :=
  { s with changer.stage := .settle, changer.seatWindow := false, changer.window := some 0 }

/-- DROP starts with the motor stopped; at the gap it is skipped, the gate EMPTY (R31; log 41). -/
def toDrop (s : State) : State :=
  let s1 := { s with changer.motor := none, tray.search := none }
  if s.tray.position = some 0 then toSettle { s1 with changer.gate := .empty }
  else { s1 with changer.stage := .drop, changer.seatWindow := false, changer.window := some 0 }

/-! ### ROTATE -/

/-- The target of the cycle in progress is set. -/
def setTarget (t : Option Nat) (s : State) : State :=
  { s with changer.cycle := s.changer.cycle.map (fun c => { c with target := t }) }

/-- The tray stands PAUSED, motor stopped (R40). -/
def toPaused (s : State) : State :=
  { s with changer.stage := .paused, changer.pause := .paused, changer.motor := none, changer.window := none }

/-- The motor is driven in ROTATE, and the stall time starts (R30). -/
def driveMotor (dir : Turn) (s : State) : State :=
  { s with changer.stage := .rotate, changer.motor := some dir, changer.window := some 0 }

/-- The rotation from a known position toward a known target: arrival without motion, a pause, or the motor (R30, R40, R18). -/
def rotateTo (p t : Nat) (s : State) : State :=
  if t = p then toDrop s
  else if s.changer.pause = .pending then toPaused s
  else driveMotor (turnFor (traySize s) p t) s

/-- A home search has found the mark at position 0: an open STEP target is computed from the gap, and the rotation goes on
(R7, R16, R30). -/
def searchFound (s : State) : State :=
  let s1 := { s with tray.position := some 0, tray.search := none }
  match s.changer.cycle with
  | none => s1
  | some c =>
    match c.target, c.entry.move with
    | some t, _ => rotateTo 0 t s1
    | none, .goto t => rotateTo 0 t (setTarget (some t) s1)
    | none, .step n =>
      match walk s1 s1.program.activeMap 0 n with
      | none => failMove .noEligible s1
      | some w => rotateTo 0 w.target (setTarget (some w.target) (reportShort n w s1))

/-- A rotation start (R30): the skipped rotation of an abort in LIFT (R43), a known position, or a home search, which
reads the mark at rest before the motor is driven (R7). -/
def toRotate (s : State) : State :=
  match s.changer.cycle with
  | none => s
  | some c =>
    if c.skipRotate then toDrop s
    else
      match s.tray.position, c.target with
      | some p, some t => rotateTo p t s
      | some p, none => rotateTo p p s
      | none, _ =>
        if s.changer.pause = .pending then toPaused s
        else if s.lines.homeMark then searchFound s
        else driveMotor .forward { s with tray.search := some (s.tray.search.getD 0) }

/-! ### LIFT and DARK -/

/-- LIFT: skipped with the gate EMPTY, else the arm is driven (R29). -/
def toLift (s : State) : State :=
  if s.changer.gate = .empty then toRotate s
  else { s with changer.stage := .lift, changer.liftArm := true, changer.window := some 0 }

/-- DARK by the latched mode (R28). -/
def toDark (mode : ChangeMode) (s : State) : State :=
  match mode with
  | .shutter =>
    if s.changer.shutterOpen then
      { s with changer.stage := .dark, changer.shutterOpen := false, changer.window := some 0 }
    else toLift s
  | .dissolve =>
    match s.changer.claim with
    | .held => toLift s
    | .requested => { s with changer.stage := .dark, changer.window := none }
    | .clear =>
      let r := darkRequest { s with changer.stage := .dark, changer.claim := .requested, changer.window := none }
      if r.1 then toLift { r.2 with changer.claim := .held } else r.2

/-! ### TARGET and the cycle start -/

/-- TARGET: the failure reason, or the target, open for a STEP with the position unknown, with the state after END_OF_TRAY
(R27). -/
def targetOf (m : Move) (s : State) : Reason ⊕ (Option Nat × State) :=
  match m with
  | .goto t => if traySize s < t then .inl .badArg else .inr (some t, s)
  | .step n =>
    match walk s s.program.activeMap (s.tray.position.getD 0) n with
    | none => .inl .noEligible
    | some w =>
      match s.tray.position with
      | some _ => .inr (some w.target, reportShort n w s)
      | none => .inr (none, s)

/-- The cycle an entry starts (R27). -/
def freshCycle (e : MoveEntry) (mode : ChangeMode) : Cycle :=
  { entry := e, mode := mode, target := none, aborted := false, skipRotate := false, stopAtPulse := false }

/-- The cycle of an entry, through the stages that end at once (R27 to R30). -/
def runEntry (e : MoveEntry) (s : State) : State :=
  let s1 := { s with
    changer.stage := .target, changer.cycle := some (freshCycle e s.items.changeMode), changer.extension := 0 }
  match targetOf e.move s1 with
  | .inl r => failMove r s1
  | .inr (t, s2) => toDark s.items.changeMode (setTarget t s2)

/-- Cycles start from the head of the queue; one that fails without a fault leaves the next entry to start at once
(R20, R27, R39). -/
def startCycles : List MoveEntry → State → State
  | [], s => s
  | e :: rest, s =>
    let s1 := runEntry e { s with changer.queue := rest }
    if s1.changer.stage = .idle then startCycles rest s1 else s1

/-- The conditions of R20 for a cycle to start. -/
def mayStart (s : State) : Bool :=
  decide (s.changer.stage = .idle) && traySeated s && decide (s.heat.power = .active) && !changerFault s

/-- A cycle starts when the conditions hold (R20; log 30). -/
def startReady (s : State) : State := if mayStart s then startCycles s.changer.queue s else s

/-! ### Dark reached -/

/-- Dark reached makes a REQUESTED claim HELD, and ends a DISSOLVE cycle's DARK (R28, R36). -/
def darkReached (s : State) : State :=
  let s1 := { s with
    lamp.darkWaiting := false,
    changer.claim := if s.changer.claim = .requested then .held else s.changer.claim }
  match s.changer.stage, s.changer.cycle with
  | .dark, some c => if c.mode = .dissolve then startReady (toLift s1) else s1
  | _, _ => s1

/-- The dark test: a waiting dark request is answered when the lamp is not LIT or D is at or below the threshold (R54). -/
def darkTest (s : State) : State :=
  if s.lamp.darkWaiting ∧ (s.lamp.state ≠ .lit ∨ isDark s) then darkReached s else s

/-- An effect outside the steps of the fade engine, with the dark test where it moved D or the lamp state (R54). A D that
stands was tested as it was reached, and a DARK_THRESHOLD written since then counts from the next step (R53; log 27). -/
def withDarkTest (f : State → State) (s : State) : State :=
  if (f s).lamp.drive = s.lamp.drive ∧ (f s).lamp.state = s.lamp.state then f s else darkTest (f s)

/-! ### Offers (R22 to R25) -/

/-- The last queued STEP an offered STEP merges with, and the sum as clamped (R23, R24). -/
def mergeSum (e : MoveEntry) (s : State) : Option (MoveEntry × Int) :=
  match s.changer.queue.getLast? with
  | some last =>
    match last.move, e.move with
    | .step a, .step b =>
      if last.source = e.source ∧ (e.source = .host → last.tags.length < 8) then
        some (last, clampSigned (traySize s) (a + b))
      else none
    | _, _ => none
  | none => none

/-- A merge: the last entry carries the sum and the tags, or with the sum 0 leaves the queue NULLED (R23, R24; log 15). -/
def mergeEntry (last : MoveEntry) (sum : Int) (tags : List Byte) (s : State) : State :=
  let merged := { last with tags := last.tags ++ tags }
  if sum = 0 then
    giveAll (doneNotices merged s.tray.position .nulled) { s with changer.queue := s.changer.queue.dropLast }
  else { s with changer.queue := s.changer.queue.dropLast ++ [{ merged with move := .step sum }] }

/-- A move as it joins the queue: a STEP's count within the seated tray's N (R21; log 14). -/
def joined (e : MoveEntry) (s : State) : MoveEntry :=
  match e.move with
  | .step n => { e with move := .step (clampSigned (traySize s) n) }
  | .goto _ => e

/-- Checks 2 to 5 of R22. -/
def offerRefusal (e : MoveEntry) (s : State) : Option Reason :=
  if s.heat.power ≠ .active then some .notActive
  else if ¬ traySeated s then some .noTray
  else if changerFault s then some .faultActive
  else
    match e.source, e.move with
    | .host, .goto t => if traySize s < t then some .badArg else none
    | _, _ => none

/-- An offered move: the refusal or drop reason, if any, and the state after; a cycle starts when it can (R22, R20). -/
def offerMove (e : MoveEntry) (s : State) : Option Reason × State :=
  match offerRefusal e s with
  | some r => (some r, s)
  | none =>
    match mergeSum e s with
    | some (last, sum) => (none, startReady (mergeEntry last sum e.tags s))
    | none =>
      if s.changer.queue.length < 6 then
        (none, startReady { s with changer.queue := s.changer.queue ++ [joined e s] })
      else (some .queueFull, s)

/-- A move of a source other than HOST, without tags. -/
def plainMove (source : MoveSource) (m : Move) : MoveEntry := { source := source, move := m, tags := [], owner := none }

/-- A KEY_IGNORED record (R22, R91, R166). -/
def ignoreKey (key : Key) (remote : Remote) (reason : Reason) (s : State) : State :=
  offer (.keyIgnored key remote reason) s

/-- A move offered by a key; a drop writes KEY_IGNORED (R22, R25). -/
def offerKeyMove (key : Key) (remote : Remote) (m : Move) (s : State) : State :=
  match offerMove (plainMove .remote m) s with
  | (none, s1) => s1
  | (some r, s1) => ignoreKey key remote r s1

/-- A move offered by a cue; a drop gives CUE_LOST (R22, R25). -/
def offerCueMove (index : Nat) (m : Move) (s : State) : State :=
  match offerMove (plainMove .cue m) s with
  | (none, s1) => s1
  | (some r, s1) => report (.cueLost index r) (.cueLost index r) s1

/-- A move offered by the timer; a drop writes TIMER_LOST (R22, R25, R154). -/
def offerTimerMove (s : State) : State :=
  match offerMove (plainMove .timer (.step 1)) s with
  | (none, s1) => s1
  | (some r, s1) => offer (.timerLost r) s1

/-- A GOTO offered by a chase; a drop gives MOVE FAILED (R22, R157). -/
def offerChaseMove (owner : Option ChaseOwner) (t : Nat) (s : State) : State :=
  let e : MoveEntry := { source := .chase, move := .goto t, tags := [], owner := owner }
  match offerMove e s with
  | (none, s1) => s1
  | (some r, s1) =>
    chaseFailed owner r (report (.moveFailed .chase (.goto t) none false r s.tray.position)
      (.moveFailed s.tray.position .chase r 0) s1)

/-! ### Events of the cycle -/

/-- The end of the shutter's 40 ms (R28). -/
def shutterCloses (s : State) : State :=
  match s.changer.stage, s.changer.cycle with
  | .dark, some c => if c.mode = .shutter then startReady (toLift s) else s
  | _, _ => s

/-- A lift-done report, ignored outside LIFT (R29). -/
def liftReported (s : State) : State :=
  if s.changer.stage = .lift then
    startReady (toRotate { s with changer.gate := .empty, changer.liftArm := false, changer.window := none })
  else s

/-- The expiry of the lift window (R29). -/
def liftExpires (s : State) : State :=
  if s.changer.stage = .lift then changerFails .jamLift .jamLift s else s

/-- The expiry of the stall time (R30). -/
def stallExpires (s : State) : State :=
  if s.changer.stage = .rotate then changerFails .rotateStall .rotateStall s else s

/-- The counted position after a pulse, corrected by the mark with its report (R5, R6). -/
def countPulse (p : Nat) (dir : Turn) (mark : Bool) (s : State) : State :=
  let counted := pulsed (traySize s) p dir
  if mark ∧ counted ≠ 0 then
    report (.trayResync counted) (.trayResync counted) { s with tray.position := some 0 }
  else { s with tray.position := some counted }

/-- A pulse of a rotation with the position known: arrival before pause (R18, R40, R43). -/
def rotationPulse (s : State) : State :=
  match s.changer.cycle, s.tray.position with
  | some c, some p =>
    if c.stopAtPulse then toDrop (setTarget (some p) s)
    else if c.target = some p then toDrop s
    else if s.changer.pause = .pending then toPaused s
    else { s with changer.window := some 0 }
  | _, _ => s

/-- A pulse of a home search (R7, R40): the mark ends it (log 46), N + 1 pulses without the mark fail it also with a pause PENDING
(log 67), and else a pause stops the tray with the count kept. -/
def searchPulse (mark : Bool) (s : State) : State :=
  let k := s.tray.search.getD 0 + 1
  if mark then searchFound s
  else if traySize s + 1 ≤ k then changerFails .rotateStall .rotateStall s
  else if s.changer.pause = .pending then toPaused { s with tray.search := some k }
  else { s with tray.search := some k, changer.window := some 0 }

/-- An index pulse with the home mark's reading (R5 to R7). -/
def indexPulseEvent (mark : Bool) (s : State) : State :=
  let s1 := { s with lines.homeMark := mark }
  match s.changer.motor, s.tray.position with
  | none, _ => { s1 with tray.position := none }
  | some dir, some p => startReady (rotationPulse (countPulse p dir mark s1))
  | some _, none => startReady (searchPulse mark s1)

/-- A drop-path report: the drop window's, or a late drop (R31, R32; log 25). -/
def dropReported (s : State) : State :=
  if s.changer.stage = .drop then
    if s.changer.seatWindow then s
    else { s with changer.seatWindow := true, changer.window := some 0 }
  else { s with changer.gate := .unknown }

/-- A seat report in its window; ignored elsewhere (R31). -/
def seatReported (s : State) : State :=
  if s.changer.stage = .drop ∧ s.changer.seatWindow then
    toSettle (learn .present true { s with changer.gate := .loaded })
  else s

/-- The sign of a STEP as one step. -/
def signStep (n : Int) : Int := if 0 < n then 1 else -1

/-- The empty extension from the slot `p` just proved empty (R33). -/
def extend (n : Int) (p : Nat) (s : State) : State :=
  let s1 := { s with changer.extension := s.changer.extension + 1 }
  if traySize s < s1.changer.extension then failMove .noEligible s1
  else
    match walk s1 s1.program.activeMap p (signStep n) with
    | none => failMove .noEligible s1
    | some w =>
      if w.short then toSettle (reportShort (signStep n) w s1)
      else toLift (setTarget (some w.target) { s1 with changer.window := none })

/-- A drop that found the slot empty goes on to the extension or to SETTLE (R33). -/
def afterEmptyDrop (s : State) : State :=
  match s.changer.cycle, s.tray.position with
  | some c, some p =>
    match c.entry.move with
    | .step n => if s.items.skipEmpties ∧ ¬ c.aborted then extend n p s else toSettle s
    | .goto _ => toSettle s
  | _, _ => toSettle s

/-- The expiry of the drop window (R31): the gate EMPTY, or UNKNOWN where a late drop left it so, and ABSENT learned. -/
def dropExpires (s : State) : State :=
  if s.changer.stage = .drop ∧ ¬ s.changer.seatWindow then
    startReady (afterEmptyDrop (learn .absent false
      { s with changer.gate := if s.changer.gate = .unknown then .unknown else .empty }))
  else s

/-- The expiry of the seat window (R31). -/
def seatExpires (s : State) : State :=
  if s.changer.stage = .drop ∧ s.changer.seatWindow then
    changerFails .jamDrop .jamDrop (learn .present false s)
  else s

/-! ### Pause, continue, abort, removal -/

/-- PAUSE MOVE (R40). -/
def pauseCycle (s : State) : State :=
  match s.changer.stage, s.changer.cycle with
  | .idle, _ | .paused, _ | _, none => s
  | _, some c => if c.aborted then s else { s with changer.pause := .pending }

/-- CONTINUE MOVE (R41). -/
def continueCycle (s : State) : State :=
  match s.changer.pause with
  | .clear => s
  | .pending => { s with changer.pause := .clear }
  | .paused => startReady (toRotate { s with changer.pause := .clear })

/-- The cycle in progress is marked aborted and redirected (R43). -/
def redirect (f : Cycle → Cycle) (s : State) : State :=
  { s with changer.cycle := s.changer.cycle.map (fun c => f { c with aborted := true }) }

/-- A PAUSED cycle is aborted: the drop at the position, or the search to the gap with the position unknown (R43, R44). -/
def abortPaused (s : State) : State :=
  match s.tray.position with
  | some p => toDrop (redirect (fun c => { c with target := some p }) { s with changer.pause := .clear })
  | none => toRotate (redirect (fun c => { c with target := some 0 }) { s with changer.pause := .clear })

/-- The cycle's part of ABORT MOVES (R42, R43). -/
def abortCycle (s : State) : State :=
  match s.changer.stage, s.changer.cycle with
  | _, none => s
  | st, some c =>
    if c.aborted then s
    else
      match st with
      | .idle => s
      | .target | .dark => startReady (finishAborted (redirect id s))
      | .lift => redirect (fun d => { d with target := s.tray.position, skipRotate := true }) s
      | .rotate =>
        match s.tray.position with
        | some _ => redirect (fun d => { d with stopAtPulse := true }) s
        | none => redirect (fun d => { d with target := some 0 }) s
      | .paused => startReady (abortPaused s)
      | .drop | .settle | .light => redirect id s

/-- ABORT MOVES (R42, R43): the queue is answered first, then a cycle cut short ends (R26; log 66). -/
def abortAll (s : State) : State := abortCycle { clearQueue .aborted s with changer.pause := .clear }

/-- Entry to STANDBY clears the queue NOT_ACTIVE and aborts a PAUSED cycle; another cycle runs on (R44), and a pause
still PENDING stays (log 54). -/
def changerStandby (s : State) : State :=
  let s1 := clearQueue .notActive s
  if s1.changer.stage = .paused then abortPaused s1 else s1

/-- The removal handed by the Tray Unit: the cycle ends NO_TRAY, then the queue (R3, R39). -/
def removeFromChanger (s : State) : State :=
  let gate := if s.changer.stage = .lift ∨ s.changer.stage = .drop then .unknown else s.changer.gate
  if s.changer.stage = .idle then clearQueue .noTray s
  else
    let s1 := { s with changer.motor := none, changer.liftArm := false, changer.gate := gate }
    sleepTest (toIdle (clearQueue .noTray (reportFailure .noTray s.changer.queue.length s1)))

end Sys2Proof.Machine
end

