-- ==== Sys2Proof/Machine/Chase.lean ====
section
/-! DEFINITION. The cue table's pool and look-up (R148), the resync (R135), the chase (R155 to R157) and the relay-out offer
(R121). -/

namespace Sys2Proof.Machine

/-! ### Cue table and cue log readings -/

/-- The table entry of an index (R148). -/
def tableEntry (t : List TableEntry) (i : Nat) : Option TableEntry := t.find? (fun e => e.index == i)

/-- The pool actions in use (R148). -/
def poolUsed (t : List TableEntry) : Nat := (t.map (fun e => e.actions.length)).sum

/-- A counted kind (R115). -/
def isCounted : CueKind → Bool
  | .advance | .mark => true
  | .reverse | .hold | .ending => false

/-- The counted entries of the log. -/
def countedEntries (log : List LogEntry) : List LogEntry := log.filter (fun e => e.index.isSome)

/-- The resync index: the counted entries strictly below the reel count (R135). -/
def resyncIndex (s : State) : Nat :=
  ((countedEntries s.cueLog.entries).filter (fun e => decide (e.reel < s.transport.reel))).length

/-- A backward resync of the cue index (R135, R144). -/
def resync (s : State) : State := { s with program.cueIndex := resyncIndex s }

/-! ### Chase -/

/-- The simulated slot and map of a chase (R156). -/
structure Sim where
  slot : Nat
  map  : Nat
  deriving DecidableEq, Repr

/-- A simulated STEP; a walk with no eligible slot leaves the slot (R156). -/
def simStep (s : State) (n : Int) (m : Sim) : Sim :=
  match walk s m.map m.slot n with
  | some w => { m with slot := w.target }
  | none => m

/-- A simulated action: STEP, GOTO and SELECT MAP act, the others are passed over (R156). -/
def simAction (s : State) (a : Action) (m : Sim) : Sim :=
  match a with
  | .step n => simStep s n m
  | .goto t => if t ≤ traySize s then { m with slot := t } else m
  | .selectMap k => { m with map := k }
  | .fade .. | .timerStart _ | .timerStop | .hold | .notify _ => m

/-- Simulated actions in list order. -/
def simActions (s : State) : List Action → Sim → Sim
  | [], m => m
  | a :: as, m => simActions s as (simAction s a m)

/-- A simulated counted cue: its table entry, else the default of its kind (R156). -/
def simCounted (s : State) (kind : CueKind) (i : Nat) (m : Sim) : Sim :=
  match tableEntry s.program.table i with
  | some e => simActions s e.actions m
  | none => if kind = .advance then simStep s 1 m else m

/-- One walked log entry (R156). -/
def simEntry (s : State) (e : LogEntry) (m : Sim) : Sim :=
  match e.index with
  | some j => simCounted s e.kind j m
  | none => if e.kind = .reverse then simStep s (-1) m else m

/-- The walked log entries in order. -/
def simEntries (s : State) : List LogEntry → Sim → Sim
  | [], m => m
  | e :: es, m => simEntries s es (simEntry s e m)

/-- The indices above the log, simulated as ADVANCE (R156). -/
def simTail (s : State) : List Nat → Sim → Sim
  | [], m => m
  | i :: is, m => simTail s is (simCounted s .advance i m)

/-- The log entries a chase to `i` walks (R156). -/
def walkedEntries (log : List LogEntry) (i : Nat) : List LogEntry :=
  match log.find? (fun e => e.index == some (i + 1)) with
  | some e1 => log.filter (fun e => decide (e.reel < e1.reel))
  | none => log

/-- The log's highest counted index (R156). -/
def highestIndex (log : List LogEntry) : Nat := log.foldl (fun k e => max k (e.index.getD 0)) 0

/-- The start of the simulation (R156). -/
def simStart (s : State) : Sim where
  slot := if s.items.showStartSlot ≤ traySize s then s.items.showStartSlot else 0
  map := s.cueLog.startMap.getD s.program.activeMap

/-- The slot and map a show would hold just before counted cue i + 1 (R156). -/
def chaseResult (i : Nat) (s : State) : Sim :=
  let k := highestIndex s.cueLog.entries
  simTail s (List.range' (k + 1) (i - k)) (simEntries s (walkedEntries s.cueLog.entries i) (simStart s))

/-- The result applied: map, queue cleared, GOTO offered, cue index (R157). -/
def applyChase (owner : Option ChaseOwner) (i : Nat) (r : Sim) (s : State) : State :=
  let s1 := clearQueue .aborted { s with program.activeMap := r.map }
  let s2 := offerChaseMove owner r.slot s1
  { s2 with program.cueIndex := i }

/-- A chase (R156, R157). -/
def runChase (owner : Option ChaseOwner) (i : Nat) (s : State) : State := applyChase owner i (chaseResult i s) s

/-- An entry without its chase owner. -/
def disown (e : MoveEntry) : MoveEntry := { e with owner := none }

/-- No earlier chase's GOTO answers for the sequence that asks for a new one (log 23). -/
def disownAll (s : State) : State :=
  { s with
    changer.queue := s.changer.queue.map disown,
    changer.cycle := s.changer.cycle.map (fun c => { c with entry := disown c.entry }) }

/-- A chase asked for by the Cue Log, refused only without a tray (R155). -/
def logChase (owner : ChaseOwner) (i : Nat) (s : State) : State :=
  if traySeated s then runChase (some owner) i (disownAll s) else chaseFailed (some owner) .noTray s

/-! ### Relay out -/

/-- A cue acted on is offered to the relay-out queue (R121). -/
def offerRelay (f : RelayFrame) (s : State) : State :=
  if s.items.relayOut then
    if hasFault .relayConflict s then offer (.relayLost f.index f.kind .conflict) s
    else if s.decoder.relaySending = none ∧ s.decoder.relayQueue = [] ∧ s.decoder.releaseTimer = none then
      { s with decoder.relaySending := some f }
    else if s.decoder.relayQueue.length < 4 then { s with decoder.relayQueue := s.decoder.relayQueue ++ [f] }
    else offer (.relayLost f.index f.kind .full) s
  else s

/-- A transmission ends; the line is released for 10 ms (R120, R121). -/
def relayFrameEnds (s : State) : State :=
  match s.decoder.relaySending with
  | some _ => { s with decoder.relaySending := none, decoder.releaseTimer := some 0 }
  | none => s

/-- The 10 ms are over: the oldest queued frame starts (R121). -/
def relayGapEnds (s : State) : State :=
  match s.decoder.releaseTimer, s.decoder.relayQueue with
  | some _, f :: fs => { s with decoder.releaseTimer := none, decoder.relaySending := some f, decoder.relayQueue := fs }
  | some _, [] => { s with decoder.releaseTimer := none }
  | none, _ => s

end Sys2Proof.Machine
end

