-- ==== Sys2Proof/Machine/Transport.lean ====
section
/-! DEFINITION. The Transport's operations that start no forward motion (R89 to R108), the end of the audio fade (R140)
and the end sequence (R139). Entries to PLAYING and WINDING stand in Machine/Play.lean. -/

namespace Sys2Proof.Machine

/-! ### Reports (R107) -/

/-- What ends at the moment of a TAPE notice: a tagged request or a seek. -/
structure TapeEnds where
  tag     : Option Byte
  outcome : Option Reason
  reason  : Option Reason
  target  : Option Nat
  deriving DecidableEq, Repr

/-- Nothing ends. -/
def endsNothing : TapeEnds := { tag := none, outcome := none, reason := none, target := none }

/-- The end of a tagged pending request; an untagged one ends without a notice of its own (R92). -/
def endsPending (tag : Option Byte) (outcome : Reason) (reason : Option Reason) : TapeEnds :=
  match tag with
  | some t => { tag := some t, outcome := some outcome, reason := reason, target := none }
  | none => endsNothing

/-- The end of a seek: the tag is given for origin HOST (R102, R103). -/
def endsSeek (k : Seek) (outcome : Reason) (reason : Option Reason) : TapeEnds :=
  { tag := if k.byCue then none else k.tag, outcome := some outcome, reason := reason, target := some k.target }

/-- The TAPE notice and record as the transport stands (R107). -/
def reportTape (cause : Reason) (e : TapeEnds) (s : State) : State :=
  let r : TapeReport :=
    { state := s.transport.state, reel := s.transport.reel, zeroKnown := s.transport.zeroKnown, cause := cause,
      tag := e.tag, outcome := e.outcome, reason := e.reason, target := e.target }
  report (.tape r) (.tape r) s

/-- The cause a source of motion gives (R107; log 19). -/
def causeOf : MotionSource → Reason
  | .host => .request
  | .remote => .key
  | .show_ | .restart => .showCause
  | .seek => .seek
  | .power => .power
  | .leader => .leader
  | .tapeEnd => .tapeEnd

/-- A seek that ends makes the cause SEEK (R103; log 19). -/
def causeWith (k : Option Seek) (source : MotionSource) : Reason := if k.isSome then .seek else causeOf source

/-- A refused SHOW or SEEK request (R91, R138). -/
def recordTapeRefusal (req : MotionReq) (reason : Reason) (s : State) : State :=
  offer (.tapeRefused s.transport.reel req reason) s

/-! ### Leaving a state -/

/-- The exit from PLAYING: output muted, end fade over, decoder quiet, STUCK_TONE cleared (R104, R105, R109). -/
def exitPlaying (s : State) : State :=
  clearFault .stuckTone { s with
    transport.gain := 0, transport.endFade := .idle, decoder.recogniser := .quiet, decoder.burstLen := 0,
    decoder.gapCount := 0, decoder.snap := false }

/-- The tape-held mark is cleared when the transport leaves PAUSED (R151). -/
def unmarkTapeHeld (s : State) : State :=
  { s with program.hold := s.program.hold.map (fun m => { m with tapeHeld := false }) }

/-- What leaving the present transport state brings. -/
def leaveTape (s : State) : State :=
  match s.transport.state with
  | .playing => exitPlaying s
  | .paused => unmarkTapeHeld s
  | _ => s

/-- An end fade is running, which leaving PLAYING cuts short (R105). -/
def fadeRuns (s : State) : Bool :=
  match s.transport.state, s.transport.endFade with
  | .playing, .running .. => true
  | _, _ => false

/-- The actuators that run in a transport state (R89). -/
def actuators : TapeState → Actuators
  | .noTape | .stopped => { capstan := false, pinch := false, reels := .off }
  | .playing => { capstan := true, pinch := true, reels := .takeUpTension }
  | .paused => { capstan := false, pinch := true, reels := .off }
  | .rewinding => { capstan := false, pinch := false, reels := .supplyFast }
  | .winding => { capstan := false, pinch := false, reels := .takeUpFast }
  | .stopping => { capstan := false, pinch := false, reels := .brakes }

/-- A motion state (R89). -/
def inMotion (t : TapeState) : Bool :=
  match t with
  | .playing | .paused | .rewinding | .winding => true
  | .noTape | .stopped | .stopping => false

/-- The count direction of a brake (R89). -/
def brakeDir : TapeState → CountDir
  | .rewinding => .backward
  | _ => .forward

/-- STOPPING is entered with a pending destination (R89, R93). -/
def brakeTo (d : PendingDest) (s : State) : State :=
  let s1 := leaveTape s
  { s1 with
    transport.state := .stopping, transport.dest := some d, transport.dir := brakeDir s.transport.state,
    transport.brakeTimer := some 0, transport.stallTimer := none }

/-- The pending destination is replaced; the brake time goes on (R92). -/
def setPending (d : PendingDest) (s : State) : State := { s with transport.dest := some d }

/-! ### Rest after backward motion (R95, R135, R141) -/

/-- With the phase REWINDING a rest at tape zero asks for the chase to 0; any other ends the loop (R141). -/
def loopRest (s : State) : State :=
  if s.cueLog.phase = .rewinding then
    if s.transport.reel = 0 ∧ s.transport.zeroKnown then logChase .loop 0 { s with cueLog.phase := .chasing }
    else endLoop .rewindStopped none s
  else s

/-- The rest event, when the backward-motion mark is set (R95). -/
def restEvent (s : State) : State :=
  if s.transport.backMark then loopRest (resync { s with transport.backMark := false }) else s

/-- The end of a seek handed to the Cue Log: a resync after backward motion or for SEEK CUE, then SEEK CUE's chase (R102, R135,
R138). -/
def seekEndHanded (k : Seek) (s : State) : State :=
  let s1 := { s with transport.backMark := false }
  let s2 := if k.moved = .backward ∨ k.byCue then resync s1 else s1
  match k.byCue, s2.cueLog.seekCue with
  | true, some r =>
    if r.chasing then s2
    else logChase .seekCue s2.program.cueIndex { s2 with cueLog.seekCue := some { r with chasing := true } }
  | _, _ => s2

/-- A seek ends REACHED: handed on, cleared and reported (R102). Its play-after stands in Machine/Play.lean. -/
def seekReached (k : Seek) (s : State) : State :=
  reportTape .seek (endsSeek k .reached none) (seekEndHanded k { s with transport.seek := none })

/-! ### Entries without forward motion -/

/-- The transport stands still in a state. -/
def stillIn (st : TapeState) (s : State) : State :=
  { s with
    transport.state := st, transport.dest := none, transport.dir := .still, transport.brakeTimer := none,
    transport.stallTimer := none }

/-- Entry to STOPPED: a seek ends here, else the rest event; reported, and a pending sleep tested (R93, R95, R102, R83). -/
def enterStopped (cause : Reason) (e : TapeEnds) (s : State) : State :=
  let s1 := stillIn .stopped (leaveTape s)
  match s.transport.seek with
  | some k => sleepTest (seekReached k s1)
  | none => sleepTest (reportTape cause e (restEvent s1))

/-- Entry to PAUSED (R89, R92). -/
def enterPaused (cause : Reason) (e : TapeEnds) (s : State) : State :=
  reportTape cause e (restEvent (stillIn .paused (leaveTape s)))

/-- The drive of a motion state starts, with its stall timer (R89, R98). -/
def driveTape (st : TapeState) (dir : CountDir) (s : State) : State :=
  { s with
    transport.state := st, transport.dest := none, transport.dir := dir, transport.brakeTimer := none,
    transport.stallTimer := some 0 }

/-- A leader sighting in REWINDING sets tape zero and brakes (R96). -/
def leaderInRewind (s : State) : State :=
  if s.lines.leader ∧ s.transport.state = .rewinding then
    let s1 := brakeTo { dest := .stopped, source := .leader, tag := none }
      { s with transport.reel := 0, transport.zeroKnown := true }
    reportTape .leader endsNothing s1
  else s

/-- Entry to REWINDING: the mark set, reported, and the leader tested (R95, R96). -/
def enterRewinding (cause : Reason) (e : TapeEnds) (s : State) : State :=
  let s1 := driveTape .rewinding .backward (leaveTape s)
  leaderInRewind (reportTape cause e { s1 with transport.backMark := true })

/-! ### Motion requests (R91, R92) -/

/-- The checks of R91 but for STOP's two answers without effect. -/
def motionRefusal (req : MotionReq) (s : State) : Option Reason :=
  if s.heat.power ≠ .active ∧ req ≠ .stop then some .notActive
  else if s.transport.state = .noTape then some .notPermitted
  else if hasFault .tapeStall s then some .faultActive
  else if req = .pause ∧ s.transport.state ≠ .playing ∧ s.transport.state ≠ .paused then some .notPermitted
  else none

/-- The destination state of a request. -/
def destState : MotionReq → TapeState
  | .play => .playing
  | .stop => .stopped
  | .pause => .paused
  | .rewind => .rewinding
  | .wind => .winding
  | .seekCount => .stopped

/-- The pending destination a request makes (R92, R93). -/
def pendingOf (req : MotionReq) : Dest :=
  match req with
  | .play => .playing
  | .stop | .pause => .stopped
  | .rewind => .rewinding
  | .wind => .winding
  | .seekCount => .seek

/-- The pending tag, if the transport is braking (R92). -/
def pendingTag (s : State) : Option Byte := s.transport.dest.bind (fun d => d.tag)

/-- The seek a taken request cancels: any source but SEEK (R103). -/
def cancelledSeek (source : MotionSource) (s : State) : Option Seek :=
  if source = .seek then none else s.transport.seek

/-- What ends when a request is taken: a cancelled seek, else the request it replaces during the brake (R92, R103). -/
def replacedEnds (k : Option Seek) (s : State) : TapeEnds :=
  match k with
  | some k => endsSeek k .cancelled (some .superseded)
  | none => if s.transport.state = .stopping then endsPending (pendingTag s) .superseded none else endsNothing

/-- One TAPE notice when something ended without a change of state. -/
def reportEnds (cause : Reason) (e : TapeEnds) (s : State) : State :=
  if e = endsNothing then s else reportTape cause e s

/-- What a taken PLAY, STOP, PAUSE, REWIND or WIND does to the transport (R92): whether it is ACCEPTED, and the state after.
`enter` makes the entries from STOPPED and PAUSED. -/
def moveTape (enter : MotionReq → MotionSource → TapeEnds → State → State) (req : MotionReq) (source : MotionSource)
    (tag : Option Byte) (s : State) : Bool × State :=
  let k := cancelledSeek source s
  let cause := causeWith k source
  let s1 := { s with transport.seek := if source = .seek then s.transport.seek else none }
  let d : PendingDest := { dest := pendingOf req, source := source, tag := tag }
  if s.transport.state = destState req then (false, reportEnds cause (replacedEnds k s) s1)
  else
    match s.transport.state with
    | .stopping => (true, reportEnds cause (replacedEnds k s) (setPending d s1))
    | .stopped | .noTape => (false, enter req source (replacedEnds k s) s1)
    | .playing =>
      if req = .pause then (false, enterPaused cause (replacedEnds k s) s1)
      else (true, reportTape cause (replacedEnds k s) (brakeTo d s1))
    | .paused =>
      if req = .play then (false, enter req source (replacedEnds k s) s1)
      else (true, reportTape cause (replacedEnds k s) (brakeTo d s1))
    | .rewinding | .winding => (true, reportTape cause (replacedEnds k s) (brakeTo d s1))

/-- A taken PLAY, STOP, PAUSE, REWIND or WIND with what it hands on (R91, R106): first what the transport's own entry hands the
Cue Log, then the request by `hand`, and then the end of a fade cut short by `cut` (R105, R140; log 68). -/
def takeMotion (enter : MotionReq → MotionSource → TapeEnds → State → State) (hand cut : State → State)
    (req : MotionReq) (source : MotionSource) (tag : Option Byte) (s : State) : Bool × State :=
  let p := moveTape enter req source tag s
  (p.1, if fadeRuns s ∧ s.transport.state ≠ destState req then cut (hand p.2) else hand p.2)

/-- The entries the show's own STOP and REWIND can make (R140). -/
def enterShow (req : MotionReq) (source : MotionSource) (e : TapeEnds) (s : State) : State :=
  if req = .rewind then enterRewinding (causeOf source) e s else s

/-- The Cue Log takes a motion request of the host, a remote or the show (R91, R138, R142), last of what is handed to it at that
moment (R106), and so by the phase that stands then (log 68). `taken` is clear for a refused one. -/
def handMotion (req : MotionReq) (source : MotionSource) (taken : Bool) (s : State) : State :=
  let s1 :=
    match source with
    | .host =>
      if req = .stop ∨ req = .rewind ∨ req = .wind ∨ req = .seekCount
          ∨ (req = .play ∧ taken ∧ s.cueLog.phase = .rewinding) then endLoop .host none s
      else s
    | .remote =>
      if taken ∧ (req = .stop ∨ (req = .play ∧ s.cueLog.phase = .rewinding)) then endLoop .key none s else s
    | _ => s
  if taken then clearSeekCue s1 else s1

/-- A STOP, PAUSE or REWIND of the show: the refusal, if any (R91). Nothing follows a fade cut short but `cut`. -/
def showMotion (cut : State → State) (req : MotionReq) (s : State) : Option Reason × State :=
  match motionRefusal req s with
  | some r => if req = .stop then (none, s) else (some r, recordTapeRefusal req r s)
  | none => (none, (takeMotion enterShow (handMotion req .show_ true) cut req .show_ none s).2)

/-! ### The end of the audio fade and the end sequence (R105, R139, R140) -/

/-- The end of the audio fade: with the phase ENDING a STOP from the show, then the restart's REWIND or IDLE (R140). What
the STOP and the REWIND do, and the refusal of the REWIND, are the caller's. -/
def fadeEndsWith (stop : State → State) (rewind : State → Option Reason × State) (s : State) : State :=
  if s.cueLog.phase = .ending then
    let s1 := stop s
    if s1.cueLog.restart then
      match rewind { s1 with cueLog.phase := .rewinding } with
      | (some r, s2) => endLoop r (some .refused) s2
      | (none, s2) => s2
    else { s1 with cueLog.phase := .idle }
  else s

/-- The STOP of the show at the end of the audio fade, in PLAYING and PAUSED only (R140). -/
def fadeEndStop (s : State) : State :=
  if s.transport.state = .playing ∨ s.transport.state = .paused then (showMotion id .stop s).2 else s

/-- The end of the audio fade (R140). -/
def audioFadeEnd (s : State) : State := fadeEndsWith fadeEndStop (showMotion id .rewind) s

/-- A REWIND of the show that a removal takes back in the same moment: its checks, and the record of a refusal (R90, R91). -/
def rewindUndone (s : State) : Option Reason × State :=
  match motionRefusal .rewind s with
  | some r => (some r, recordTapeRefusal .rewind r s)
  | none => (none, s)

/-- The end of a fade that a removal ends, before NO_TAPE (R90). The STOP and the REWIND find PLAYING, and the state they
would make is gone with NO_TAPE in the same moment, whose one TAPE notice carries it (R107; log 21). -/
def fadeEndsAtRemoval (s : State) : State := fadeEndsWith id rewindUndone s

/-- The request for the audio end fade (R105). -/
def requestEndFade (s : State) : State :=
  match s.transport.state, s.transport.endFade with
  | .playing, .idle =>
    if s.items.endFade = 0 then audioFadeEnd { s with transport.gain := 0, transport.endFade := .held }
    else { s with transport.endFade := .running s.transport.gain s.items.endFade 0 }
  | .playing, _ => s
  | _, _ => audioFadeEnd s

/-- The restart decision of the end sequence (R139). -/
def decideRestart (s : State) : State :=
  if s.cueLog.armed then
    if s.program.loops = 1 then endLoop .complete none s
    else { s with cueLog.restart := true, program.loops := s.program.loops - 1 }
  else s

/-- The end sequence (R139), started with the phase IDLE; it clears the show hold (R146, R151). -/
def endSequence (s : State) : State :=
  if s.cueLog.phase = .idle then
    let s1 := { decideRestart s with cueLog.phase := .ending, program.hold := none }
    requestEndFade (withDarkTest lampEndFade (stopTimer s1))
  else s

/-- A step of the audio end fade (R105). -/
def endFadeAdvance (s : State) : State :=
  match s.transport.state, s.transport.endFade with
  | .playing, .running g0 n k =>
    if k + 1 < n then
      { s with
        transport.gain := ((g0 : Int) + Int.tdiv (-(g0 : Int) * (k + 1)) n).toNat,
        transport.endFade := .running g0 n (k + 1) }
    else audioFadeEnd { s with transport.gain := 0, transport.endFade := .held }
  | _, _ => s

/-- A PAUSE of the show, with a fade it cuts short handed on (R151, R105). -/
def showPause (s : State) : State := (showMotion audioFadeEnd .pause s).2

/-! ### Removal, insertion, stall, STANDBY -/

/-- A fade in progress, cut short after a change of state, hands its end on (R105). -/
def cutIf (b : Bool) (s : State) : State := if b then audioFadeEnd s else s

/-- A taken insertion in NO_TAPE (R90, R127). -/
def insertCassette (s : State) : State :=
  if s.transport.state = .noTape then
    let s1 := { stillIn .stopped s with
      transport.cassette := true, transport.reel := 0, transport.zeroKnown := false, cueLog.entries := [], cueLog.full := false }
    sleepTest (reportTape .cassette endsNothing s1)
  else { s with transport.cassette := true }

/-- A seek in progress ends with a TAPE notice of its own, cause SEEK, with the count as it stands (R103; log 19). -/
def endSeek (outcome reason : Reason) (s : State) : State :=
  match s.transport.seek with
  | some k => reportTape .seek (endsSeek k outcome (some reason)) { s with transport.seek := none }
  | none => s

/-- A taken removal: the seek ends, then a running fade, then the state becomes NO_TAPE, then the Cue Log (R90; log 21). -/
def removeCassette (s : State) : State :=
  if s.transport.state = .noTape then { s with transport.cassette := false }
  else
    let e := endsPending (pendingTag s) .cancelled (some .noTape)
    let s1 := leaveTape (endSeek .cancelled .noTape s)
    let s2 := if fadeRuns s then fadeEndsAtRemoval s1 else s1
    let s3 := { stillIn .noTape s2 with
      transport.cassette := false, transport.reel := 0, transport.zeroKnown := false, transport.backMark := false }
    sleepTest (reportTape .cassette e (clearSeekCue (endLoop .noTape none s3)))

/-- The expiry of the tape stall timer (R98). -/
def tapeStalls (s : State) : State :=
  match s.transport.state with
  | .playing | .rewinding | .winding =>
    let s1 := endSeek .failed .tapeStall (raiseFault .tapeStall none (restEvent (stillIn .stopped (leaveTape s))))
    let s2 := cutIf (fadeRuns s) s1
    sleepTest (reportTape .stall endsNothing (clearSeekCue (endLoop .tapeStall none s2)))
  | _ => s

/-- Entry to STANDBY: a STOP from source POWER (R100, R103). -/
def tapeStandby (s : State) : State :=
  let d : PendingDest := { dest := .stopped, source := .power, tag := none }
  let k := s.transport.seek
  let e :=
    match k with
    | some k => endsSeek k .cancelled (some .notActive)
    | none => endsPending (pendingTag s) .cancelled (some .notActive)
  let cause := causeWith k .power
  let s1 := { s with transport.seek := none }
  match s.transport.state with
  | .playing | .paused | .rewinding | .winding => cutIf (fadeRuns s) (reportTape cause e (brakeTo d s1))
  | .stopping => reportEnds cause e (setPending d s1)
  | .stopped | .noTape => s

end Sys2Proof.Machine
end

