-- ==== Sys2Proof/Machine/Program.lean ====
section
/-! DEFINITION. The Cue Program (R144 to R154): taking a cue, its actions, the show hold and the timer; and the Cue Log's
match, learning and missed-cue test (R126 to R134). -/

namespace Sys2Proof.Machine

/-! ### Timer and hold -/

/-- TIMER START p, as the request or as an action, by timer state and show hold (R153). -/
def startTimer (p : Nat) (s : State) : State :=
  let s1 := reloadTimer { s with program.period := some p }
  match s.program.timer with
  | .stopped =>
    if s.program.hold.isSome then markTimerHeld true { s1 with program.timer := .paused }
    else { s1 with program.timer := .running }
  | .running | .paused => s1

/-- A TIMER START action; while the part is not ACTIVE it sets the period only (R153). -/
def startTimerAction (p : Nat) (s : State) : State :=
  if s.heat.power = .active then startTimer p s else { s with program.period := some p }

/-- The expiry of the auto-advance timer: STEP +1, then a reload (R154). -/
def timerExpires (s : State) : State :=
  if s.program.timer = .running then reloadTimer (offerTimerMove s) else s

/-- The hold pauses a timer that is RUNNING (R151). -/
def holdTimer (s : State) : State :=
  if s.program.timer = .running then markTimerHeld true { s with program.timer := .paused } else s

/-- The show hold is taken; nothing when it is on (R151). -/
def takeHold (s : State) : State :=
  match s.program.hold with
  | some _ => s
  | none =>
    let tape := decide (s.transport.state = .playing)
    let s1 := holdTimer { s with program.hold := some { tapeHeld := tape, timerHeld := false } }
    if tape then showPause s1 else s1

/-! ### Taking a cue (R144 to R147) -/

/-- The cue index after a counted cue (R144). -/
def countedIndex (index : Option Nat) (s : State) : Nat :=
  match index with
  | some i => min 999 i
  | none => min 999 (s.program.cueIndex + 1)

/-- One action of a table entry handed to its owner (R147). -/
def takeAction (kind : CueKind) (index : Nat) (a : Action) (s : State) : State :=
  match a with
  | .step n => offerCueMove index (.step n) s
  | .goto t => offerCueMove index (.goto t) s
  | .fade level duration => withDarkTest (takeCueFade level duration) s
  | .selectMap m => { s with program.activeMap := m }
  | .timerStart p => startTimerAction p s
  | .timerStop => stopTimer s
  | .hold => takeHold s
  | .notify tag => give (.notify tag index kind) s

/-- The actions of a table entry in list order, each taken before the next (R147). -/
def takeActions (kind : CueKind) (index : Nat) : List Action → State → State
  | [], s => s
  | a :: as, s => takeActions kind index as (takeAction kind index a s)

/-- A cue acted on by its kind (R146). -/
def actOnCue (kind : CueKind) (index : Nat) (s : State) : State :=
  match kind with
  | .advance =>
    match tableEntry s.program.table index with
    | some e => takeActions kind index e.actions s
    | none => offerCueMove index (.step 1) s
  | .mark =>
    match tableEntry s.program.table index with
    | some e => takeActions kind index e.actions s
    | none => s
  | .reverse => offerCueMove index (.step (-1)) s
  | .hold => takeHold s
  | .ending => endSequence s

/-- The CUE notice and record (R145). -/
def reportCue (kind : CueKind) (index : Nat) (origin : Origin) (reel : Option Nat) (s : State) : State :=
  let s1 := give (.cue kind index origin reel) s
  if origin = .synth then s1 else offer (.cue index reel kind origin) s1

/-- A cue taken whole (R145). -/
def takeCue (kind : CueKind) (origin : Origin) (index reel : Option Nat) (s : State) : State :=
  let s1 := if isCounted kind then { s with program.cueIndex := countedIndex index s } else s
  let i := s1.program.cueIndex
  actOnCue kind i (reportCue kind i origin reel (offerRelay { kind := kind, index := i } s1))

/-- The slip test of a counted cue with an index (R132, R123). -/
def slipTest (index : Nat) (origin : Origin) (reel : Option Nat) (s : State) : State :=
  let expected := s.program.cueIndex + 1
  if index = expected then s else report (.cueSlip expected index origin reel) (.cueSlip index reel expected origin) s

/-- A cue the Cue Log hands on, with the slip test when it carries an index (R132). -/
def handCue (kind : CueKind) (origin : Origin) (index : Option Nat) (reel : Nat) (s : State) : State :=
  match index with
  | some i => takeCue kind origin index (some reel) (slipTest i origin (some reel) s)
  | none => takeCue kind origin none (some reel) s

/-! ### Matching and learning (R129 to R131) -/

/-- The distance of two reel counts. -/
def reelDistance (a b : Nat) : Nat := (a - b) + (b - a)

/-- A candidate for a tape cue (R129). -/
def isCandidate (kind : CueKind) (c w : Nat) (e : LogEntry) : Bool :=
  decide (e.kind = kind) && !e.met && decide (reelDistance e.reel c ≤ w)

/-- The position of the candidate nearest to `c`, the earlier of equals (R129): the running best is kept at `at_`. -/
def nearest (kind : CueKind) (c w : Nat) : List LogEntry → Nat → Option (Nat × Nat) → Option (Nat × Nat)
  | [], _, best => best
  | e :: es, at_, best =>
    let d := reelDistance e.reel c
    let better : Bool :=
      isCandidate kind c w e && (match best with | some b => decide (d < b.2) | none => true)
    nearest kind c w es (at_ + 1) (if better then some (at_, d) else best)

/-- The position in the log of the entry a tape cue matches, if any (R129). -/
def matchPosition (kind : CueKind) (c : Nat) (s : State) : Option Nat :=
  (nearest kind c s.items.matchWindow s.cueLog.entries 0 none).map (fun b => b.1)

/-- A found entry: seen once more and met (R130). -/
def seenAgain (e : LogEntry) : LogEntry := { e with seen := min 255 (e.seen + 1), met := true }

/-- A counted entry behind an insertion moves up by one (R131). -/
def renumber (e : LogEntry) : LogEntry := { e with index := e.index.map (· + 1) }

/-- The entries at or below `c`, and those above (R131). -/
def splitLog (c : Nat) (log : List LogEntry) : List LogEntry × List LogEntry :=
  (log.takeWhile (fun e => decide (e.reel ≤ c)), log.dropWhile (fun e => decide (e.reel ≤ c)))

/-- The index of a new entry: one more than the counted entries before it (R131). -/
def newIndex (kind : CueKind) (before : List LogEntry) : Option Nat :=
  if isCounted kind then some ((countedEntries before).length + 1) else none

/-- The log after an insertion (R131). -/
def insertEntry (kind : CueKind) (c : Nat) (log : List LogEntry) : List LogEntry :=
  let p := splitLog c log
  let e : LogEntry := { reel := c, kind := kind, index := newIndex kind p.1, seen := 1, met := true }
  p.1 ++ e :: (if isCounted kind then p.2.map renumber else p.2)

/-- A tape cue taken by the Cue Log: found, new, or not logged in a full log (R129 to R132). -/
def logCue (kind : CueKind) (s : State) : State :=
  let c := s.transport.reel
  let log := s.cueLog.entries
  match matchPosition kind c s with
  | some i =>
    handCue kind .tape ((log[i]?).bind (fun e => e.index)) c { s with cueLog.entries := log.modify i seenAgain }
  | none =>
    if log.length < 512 then
      handCue kind .tape (newIndex kind (splitLog c log).1) c { s with cueLog.entries := insertEntry kind c log }
    else takeCue kind .tape none (some c) { s with cueLog.full := true }

/-! ### Met flags and missed cues (R133, R134) -/

/-- The met flags at an entry to PLAYING at reel count `c0` (R133). -/
def setMetFlags (c0 w : Nat) (log : List LogEntry) : List LogEntry :=
  log.map (fun e => { e with met := decide (e.reel + w < c0) })

/-- An entry missed at reel count `v` (R134). -/
def isMissed (v w : Nat) (e : LogEntry) : Bool := !e.met && decide (e.reel + w < v)

/-- The report or the fill-in of a missed entry (R134). The fill-in cue carries the reel count of the test (log 60). -/
def takeMissed (v : Nat) (fill : Bool) (e : LogEntry) (s : State) : State :=
  if fill then handCue e.kind .synth e.index v (offer (.synth e.index v e.kind e.reel) s)
  else offer (.missed e.index e.reel e.kind) s

/-- The missed entries in log order (R134). -/
def takeAllMissed (v : Nat) (fill : Bool) : List LogEntry → State → State
  | [], s => s
  | e :: es, s => takeAllMissed v fill es (takeMissed v fill e s)

/-- The missed-cue test at a change of the reel count (R134). -/
def missedTest (s : State) : State :=
  if s.transport.state = .playing ∧ s.items.cueSource = .tape then
    let v := s.transport.reel
    let w := s.items.matchWindow
    takeAllMissed v s.items.cueFillIn (s.cueLog.entries.filter (isMissed v w))
      { s with cueLog.entries := s.cueLog.entries.map (fun e => if isMissed v w e then { e with met := true } else e) }
  else s

end Sys2Proof.Machine
end

