-- ==== Sys2Proof/Machine/Play.lean ====
section
/-! DEFINITION. Forward tape motion (R89 to R107): entries to PLAYING and WINDING with the leader test, seeks, the
end of the brake, reel pulses, and the motion requests of every source; CONTINUE (R152), SEEK CUE (R137) and the loop restart
(R141). -/

namespace Sys2Proof.Machine

/-! ### Entries to PLAYING and WINDING -/

/-- The tape end (R97): brake, TAPE and TAPE END, then the Cue Log: the seek-cue record cleared and the end sequence. A fade that the
brake cut short hands its end to the Cue Program after that (R105, R106; log 68). -/
def tapeEnds (s : State) : State :=
  let e :=
    match s.transport.seek with
    | some k => endsSeek k .cancelled (some .tapeEnd)
    | none => endsNothing
  let s1 := brakeTo { dest := .stopped, source := .tapeEnd, tag := none } { s with transport.seek := none }
  let s2 := give (.tapeEnd s.transport.reel) (reportTape (causeWith s.transport.seek .tapeEnd) e s1)
  cutIf (fadeRuns s) (endSequence (clearSeekCue s2))

/-- The leader test in forward motion (R97). -/
def leaderAhead (s : State) : State :=
  if s.lines.leader ∧ (s.transport.state = .playing ∨ s.transport.state = .winding) ∧ 200 < s.transport.reel then
    tapeEnds s
  else s

/-- A play from tape zero records the start map; unless a loop restart made it or a loop is in progress, it loads the
loops and may arm the loop (R136). -/
def playFromZero (source : MotionSource) (s : State) : State :=
  let s1 := { s with cueLog.startMap := some s.program.activeMap }
  if s.cueLog.phase = .idle ∧ source ≠ .restart then
    { s1 with program.loops := s.items.loopCount, cueLog.armed := s.cueLog.armed || s.items.showLoop }
  else s1

/-- The entry to PLAYING handed to the Cue Log (R133, R136). -/
def playingHanded (source : MotionSource) (s : State) : State :=
  let s1 := { s with cueLog.entries := setMetFlags s.transport.reel s.items.matchWindow s.cueLog.entries }
  if s.transport.reel = 0 ∧ s.transport.zeroKnown then playFromZero source s1 else s1

/-- Entry to PLAYING: gain at VOLUME, the rest event before the PLAYING entry, the report, the leader test (R89, R104,
R106, R97). -/
def enterPlaying (source : MotionSource) (cause : Reason) (e : TapeEnds) (s : State) : State :=
  let s1 := driveTape .playing .forward (leaveTape s)
  let s2 := { s1 with transport.gain := s.items.volume, transport.endFade := .idle }
  leaderAhead (reportTape cause e (playingHanded source (restEvent s2)))

/-- Entry to WINDING (R89, R93, R97). -/
def enterWinding (cause : Reason) (e : TapeEnds) (s : State) : State :=
  leaderAhead (reportTape cause e (driveTape .winding .forward (leaveTape s)))

/-- The entries a motion request makes at once (R92). -/
def enterNow (req : MotionReq) (source : MotionSource) (e : TapeEnds) (s : State) : State :=
  match req with
  | .play => enterPlaying source (causeOf source) e s
  | .wind => enterWinding (causeOf source) e s
  | .rewind => enterRewinding (causeOf source) e s
  | .stop | .pause | .seekCount => s

/-! ### Motion requests by source (R91) -/

/-- A motion request of the host or a remote after its checks, taken and handed to the Cue Log (R91, R92, R106). -/
def takeRequest (req : MotionReq) (source : MotionSource) (tag : Option Byte) (s : State) : Bool × State :=
  takeMotion enterNow (handMotion req source true) audioFadeEnd req source tag s

/-- ACCEPTED or DONE. -/
def acceptedOr (accepted : Bool) : Answer := if accepted then .accepted [] else .done []

/-- A motion request of the host and its answer; a refused one is handed to the Cue Log too, and STOP without a tape or
after a stall is DONE without effect (R91; log 42). -/
def hostMotion (req : MotionReq) (tag : Byte) (s : State) : Answer × State :=
  match motionRefusal req s with
  | some r => (if req = .stop then .done [] else .refused r, handMotion req .host false s)
  | none =>
    let p := takeRequest req .host (some tag) s
    (acceptedOr p.1, p.2)

/-- A PLAY or STOP key (R91, R168). -/
def keyMotion (key : Key) (remote : Remote) (req : MotionReq) (s : State) : State :=
  match motionRefusal req s with
  | some r => if req = .stop then s else ignoreKey key remote r s
  | none => (takeRequest req .remote none s).2

/-- A PLAY of the show or of a seek: the refusal, if any, is recorded (R91, R138, R152). -/
def ownPlay (source : MotionSource) (s : State) : Option Reason × State :=
  match motionRefusal .play s with
  | some r => (some r, recordTapeRefusal .play r s)
  | none =>
    (none, (takeMotion enterNow (if source = .seek then id else handMotion .play .show_ true) audioFadeEnd .play source none s).2)

/-- CONTINUE (R152). The timer runs on only if it is still PAUSED after the PLAY, which a tape end can follow (R97). -/
def continueHold (s : State) : State :=
  match s.program.hold with
  | none => s
  | some m =>
    let s1 := { s with program.hold := none }
    let s2 := if m.tapeHeld ∧ s.transport.state = .paused then (ownPlay .show_ s1).2 else s1
    if m.timerHeld ∧ s2.program.timer = .paused then { s2 with program.timer := .running } else s2

/-! ### Seeking (R101 to R103, R137, R138) -/

/-- The PLAY after a seek (R102). -/
def playAfter (k : Seek) (s : State) : State := if k.playAfter then (ownPlay .seek s).2 else s

/-- The seek's motion when it is due, with the transport at rest or at the end of its brake (R102). Its TAPE notices carry
no target, which the notice of the seek's end gives (R107; log 64). -/
def seekDue (k : Seek) (s : State) : State :=
  if s.transport.reel < k.target then
    enterWinding .seek endsNothing { s with transport.seek := some { k with moved := .forward } }
  else if k.target < s.transport.reel then
    enterRewinding .seek endsNothing { s with transport.seek := some { k with moved := .backward } }
  else playAfter k (enterStopped .seek endsNothing { s with transport.seek := some { k with moved := .still } })

/-- A taken seek (R101): an earlier seek ends SUPERSEDED, and the motion starts, brakes or replaces. The request is handed on by
`hand` after what the motion hands the Cue Log at once, the seek's own end among it, and before a fade cut short (R106; log 68). -/
def beginSeek (hand : State → State) (k : Seek) (s : State) : Bool × State :=
  let old := s.transport.seek
  let d : PendingDest := { dest := .seek, source := .seek, tag := none }
  let s1 := { s with transport.seek := some k }
  match s.transport.state with
  | .stopped | .noTape =>
    (decide (k.target ≠ s.transport.reel), hand (seekDue k (reportEnds .seek (replacedEnds old s) s1)))
  | .stopping => (true, hand (reportEnds .seek (replacedEnds old s) (setPending d s1)))
  | .playing | .paused | .rewinding | .winding =>
    (true, cutIf (fadeRuns s) (hand (reportTape .seek (replacedEnds old s) (brakeTo d s1))))

/-- SEEK COUNT and its answer (R101). -/
def hostSeek (target : Nat) (tag : Byte) (s : State) : Answer × State :=
  match motionRefusal .seekCount s with
  | some r => (.refused r, handMotion .seekCount .host false s)
  | none =>
    let k : Seek :=
      { target := target, byCue := false, tag := some tag, playAfter := s.items.seekPlay, moved := .still }
    let p := beginSeek (handMotion .seekCount .host true) k s
    (acceptedOr p.1, p.2)

/-- The checks of SEEK CUE, with the entry it seeks (R137). -/
def seekCueEntry (k : Nat) (s : State) : Reason ⊕ LogEntry :=
  if 999 < k then .inl .badArg
  else if s.heat.power ≠ .active then .inl .notActive
  else if s.transport.state = .noTape then .inl .notPermitted
  else if hasFault .tapeStall s then .inl .faultActive
  else if ¬ traySeated s then .inl .noTray
  else
    match s.cueLog.entries.find? (fun e => e.index == some k) with
    | some e => .inr e
    | none => .inl .notFound

/-- A taken SEEK CUE, in R137's order: the loop ends before the seek, which is no request that R91 hands on. -/
def takeSeekCue (k : Nat) (e : LogEntry) (s : State) : State :=
  let s1 := endLoop .host none s
  let s2 := { s1 with cueLog.seekCue := some { chasing := false, target := k, playAfter := s.items.seekPlay } }
  (beginSeek id
    { target := e.reel - s.items.seekPreroll, byCue := true, tag := none, playAfter := false, moved := .still } s2).2

/-! ### The end of the brake (R93) -/

/-- The pending destination is entered (R93). -/
def enterPending (d : PendingDest) (s : State) : State :=
  let e := endsPending d.tag .reached none
  match d.dest with
  | .stopped =>
    let s1 := enterStopped (causeOf d.source) e s
    match s.transport.seek with
    | some k => playAfter k s1
    | none => s1
  | .playing => enterPlaying d.source (causeOf d.source) e s
  | .rewinding => enterRewinding (causeOf d.source) e s
  | .winding => enterWinding (causeOf d.source) e s
  | .seek =>
    match s.transport.seek with
    | some k => seekDue k s
    | none => enterStopped (causeOf d.source) e s

/-- The end of the brake time; ignored outside STOPPING (R93). -/
def brakeEnds (s : State) : State :=
  match s.transport.state, s.transport.dest with
  | .stopping, some d => enterPending d s
  | _, _ => s

/-! ### Reel pulses (R94, R102) -/

/-- The count after a pulse (R94). -/
def countReel (dir : CountDir) (reel : Nat) : Nat :=
  match dir with
  | .forward => min 65535 (reel + 1)
  | .backward => reel - 1
  | .still => reel

/-- The brake at a seek's stopping pulse (R102). -/
def stopSeek (s : State) : State :=
  reportTape .seek endsNothing (brakeTo { dest := .stopped, source := .seek, tag := none } s)

/-- The seek's stopping pulse (R102). -/
def seekStops (s : State) : State :=
  match s.transport.seek, s.transport.state with
  | some k, .winding => if k.target ≤ s.transport.reel then stopSeek s else s
  | some k, .rewinding => if s.transport.reel ≤ k.target then stopSeek s else s
  | _, _ => s

/-- A reel tach pulse: the stall timer restarts in motion, the count moves, the missed-cue test, the seek's stop (R94, R98,
R134, R102). -/
def reelPulse (s : State) : State :=
  let s1 := { s with
    transport.reel := countReel s.transport.dir s.transport.reel,
    transport.stallTimer := s.transport.stallTimer.map (fun _ => 0) }
  seekStops (if s1.transport.reel = s.transport.reel then s1 else missedTest s1)

/-- A change of the leader report (R96, R97). -/
def leaderChanges (present : Bool) (s : State) : State :=
  leaderAhead (leaderInRewind { s with lines.leader := present })

/-! ### The end of a chase (R138, R141) -/

/-- MOVE DONE COMPLETE of a chase's GOTO (R138, R141). -/
def chaseComplete (owner : Option ChaseOwner) (s : State) : State :=
  match owner with
  | some .seekCue =>
    match s.cueLog.seekCue with
    | some r =>
      if r.chasing then
        let s1 := clearSeekCue s
        if r.playAfter then (ownPlay .seek s1).2 else s1
      else s
    | none => s
  | some .loop =>
    if s.cueLog.phase = .chasing then
      let s1 := withDarkTest programLight { s with cueLog.phase := .idle, cueLog.restart := false }
      match ownPlay .restart s1 with
      | (some r, s2) => endLoop r (some .refused) s2
      | (none, s2) => s2
    else s
  | none => s

/-- The end of SETTLE: LIGHT, DONE, what waits on a chase, IDLE, and the next cycle (R34, R35). -/
def settleEnds (s : State) : State :=
  match s.changer.stage, s.changer.cycle with
  | .settle, some c =>
    let s1 := doneStage (lightStage s)
    let s2 := if c.aborted then chaseFailed c.entry.owner .aborted s1 else chaseComplete c.entry.owner s1
    startReady (sleepTest (toIdle s2))
  | _, _ => s

end Sys2Proof.Machine
end

