-- ==== Sys2Proof/Machine/Decoder.lean ====
section
/-! DEFINITION. The Cue Decoder (R109 to R124): the analysis frame, the recogniser, and relay in. -/

namespace Sys2Proof.Machine

/-! ### Tones (R110 to R112) -/

/-- Tone on: L at or above F + TH (R112). -/
def toneOn (level floor threshold : Nat) : Bool := decide (floor + threshold ≤ level)

/-- The frame's tone set, T1 at bit 0 (R112; log 12). -/
def toneSet (s : State) : BitVec 3 :=
  let d := s.decoder
  BitVec.ofNat 3 (flagBit (toneOn d.level1 d.floor1 s.items.threshold1) 0
    + flagBit (toneOn d.level2 d.floor2 s.items.threshold2) 1 + flagBit (toneOn d.level3 d.floor3 s.items.threshold3) 2)

/-- One adaptation of a floor: F + trunc((L - F) / 16) (R110). -/
def adaptFloor (floor level : Nat) : Nat := ((floor : Int) + Int.tdiv ((level : Int) - floor) 16).toNat

/-- The floor adaptation of a frame with its tone set: every 64 quiet frames (R110). -/
def adaptFloors (tones : BitVec 3) (d : Decoder) : Decoder :=
  if tones = 0 then
    if d.quietFrames + 1 < 64 then { d with quietFrames := d.quietFrames + 1 }
    else
      { d with
        quietFrames := 0, floor1 := adaptFloor d.floor1 d.level1, floor2 := adaptFloor d.floor2 d.level2,
        floor3 := adaptFloor d.floor3 d.level3 }
  else d

/-- A pending snap sets the floors to the frame's levels (R111). -/
def applySnap (d : Decoder) : Decoder :=
  if d.snap then { d with snap := false, quietFrames := 0, floor1 := d.level1, floor2 := d.level2, floor3 := d.level3 }
  else d

/-! ### The recogniser (R113 to R116) -/

/-- The cue kind of a tone set; none for INVALID (R115). -/
def kindOfTones (t : BitVec 3) : Option CueKind :=
  match t.toNat with
  | 1 => some .advance
  | 2 => some .reverse
  | 3 => some .mark
  | 4 => some .ending
  | 6 => some .hold
  | _ => none

/-- A recognition: INVALID is counted and recorded; another kind goes to the Cue Log with CUE_SOURCE TAPE (R115, R116). -/
def recognised (tones : BitVec 3) (count : Nat) (s : State) : State :=
  let s1 := { s with decoder.recogniser := .burst, decoder.burstLen := count }
  match kindOfTones tones with
  | none =>
    offer (.invalid s.transport.reel tones) { s1 with decoder.rejects := min 65535 (s.decoder.rejects + 1) }
  | some k => if s.items.cueSource = .tape then logCue k s1 else s1

/-- A candidate at a count: recognised at Q frames (R113). -/
def candidateAt (tones : BitVec 3) (count : Nat) (s : State) : State :=
  if s.items.cueQualify ≤ count then recognised tones count s
  else { s with decoder.recogniser := .candidate tones count }

/-- A further frame of a burst; STUCK_TONE when it passes CUE_MAX_BURST (R114). -/
def burstFrame (s : State) : State :=
  let len := min 65535 (s.decoder.burstLen + 1)
  let s1 := { s with decoder.recogniser := .burst, decoder.gapCount := 0, decoder.burstLen := len }
  if s.items.cueMaxBurst < len then raiseFault .stuckTone none s1 else s1

/-- A silent frame after a burst; QUIET at G frames, where STUCK_TONE is cleared (R114). -/
def gapFrame (count : Nat) (s : State) : State :=
  if s.items.cueGap ≤ count then
    clearFault .stuckTone { s with decoder.recogniser := .quiet, decoder.gapCount := count }
  else { s with decoder.recogniser := .gap, decoder.gapCount := count }

/-- The recogniser's step with the frame's tone set (R113, R114). -/
def recogniserStep (tones : BitVec 3) (s : State) : State :=
  match s.decoder.recogniser with
  | .quiet => if tones = 0 then s else { s with decoder.recogniser := .candidate tones 1 }
  | .candidate t n =>
    if tones = 0 then { s with decoder.recogniser := .quiet }
    else if tones = t then candidateAt t (n + 1) s
    else { s with decoder.recogniser := .candidate tones 1 }
  | .burst =>
    if tones = 0 then { s with decoder.recogniser := .gap, decoder.gapCount := 1 } else burstFrame s
  | .gap => if tones = 0 then gapFrame (s.decoder.gapCount + 1) s else burstFrame s

/-- An analysis frame, taken only while PLAYING: levels, snap, tone test, recogniser, floors (R109). -/
def analyse (l1 l2 l3 : Byte) (s : State) : State :=
  if s.transport.state = .playing then
    let s1 := { s with
      decoder := applySnap { s.decoder with level1 := l1.toNat, level2 := l2.toNat, level3 := l3.toNat } }
    let tones := toneSet s1
    let s2 := recogniserStep tones s1
    { s2 with decoder := adaptFloors tones s2.decoder }
  else s

/-! ### Relay in (R122 to R124) -/

/-- The cue-in line is watched in ACTIVE and STANDBY (R122). -/
def relayWatched (s : State) : Bool := s.heat.power != .sleep

/-- A part that originates frames (R124). -/
def originates (s : State) : Bool := s.items.relayOut && s.items.cueSource != .line

/-- A RELAY_DROP record (R122, R123). -/
def dropRelay (reason : Reason) (s : State) : State := offer (.relayDrop reason) s

/-- A valid frame taken by an originator (R124). -/
def relayConflict (s : State) : State :=
  loseRelayQueue .conflict { raiseFault .relayConflict none s with decoder.conflictTimer := some 0 }

/-- The slip test of a frame: its index against the cue index plus 1; the record holds the index handed on (R123; log 39). -/
def lineSlip (index : Nat) (s : State) : State :=
  let expected := s.program.cueIndex + 1
  if index = expected then s
  else report (.cueSlip expected index .line none) (.cueSlip (min 999 index) none expected .line) s

/-- A valid frame as a cue from the line (R123). -/
def lineCue (kind : CueKind) (index : Nat) (s : State) : State :=
  if s.heat.power = .active then
    takeCue kind .line (some (min 999 index)) none (if isCounted kind then lineSlip index s else s)
  else dropRelay .notActive s

/-- A complete frame: parity, kind, then a conflict, a cue from the line, or nothing (R122 to R124; log 4). -/
def relayFrameTaken (w : BitVec 14) (s : State) : State :=
  if relayWatched s then
    let s1 := { s with decoder.relayIn := .idle }
    if ¬ relayParityGood w then dropRelay .parity s1
    else
      match cueKindOfCode (relayKindOf w) with
      | none => dropRelay .kind s1
      | some k =>
        if originates s then relayConflict s1
        else if s.items.cueSource = .line then lineCue k (relayIndexOf w) s1
        else s1
  else s

/-- A timing error within a frame; an idle line leaves nothing (R122). -/
def relayTimingError (s : State) : State :=
  match s.decoder.relayIn with
  | .receiving _ => dropRelay .timing { s with decoder.relayIn := .idle }
  | .idle => s

/-- A start pulse (R122). -/
def relayStartPulse (s : State) : State :=
  if relayWatched s then
    match s.decoder.relayIn with
    | .idle => { s with decoder.relayIn := .receiving [] }
    | .receiving _ => dropRelay .timing { s with decoder.relayIn := .receiving [] }
  else s

/-- The conflict timer reaches 2000 ms (R124). -/
def conflictExpires (s : State) : State :=
  match s.decoder.conflictTimer with
  | some _ => clearFault .relayConflict { s with decoder.conflictTimer := none }
  | none => s

end Sys2Proof.Machine
end

