-- ==== Sys2Proof/Machine/PowerState.lean ====
section
/-! DEFINITION. The changes of power state (R80 to R87) and the heat-model update with the events of the Heat Monitor (R65 to
R79). -/

namespace Sys2Proof.Machine

/-! ### Power state -/

/-- The lamp at entry to STANDBY, with a waiting dark request answered (R57, R54). -/
def lampStandby (s : State) : State := withDarkTest powerDownLamp s

/-- The Cue Program and the Cue Log at entry to STANDBY (R151, R153, R138, R142). -/
def programStandby (s : State) : State :=
  clearSeekCue (endLoop .notActive none { stopTimer s with program.hold := none })

/-- Entry to STANDBY from ACTIVE hands the new state to each block (R81; log 32). The POWER notice is the caller's. -/
def enterStandby (s : State) : State :=
  tapeStandby (programStandby (changerStandby (lampStandby (evalFan { s with heat.power := .standby }))))

/-- The tag of a pending sleep. -/
def sleepTag : SleepPending → Option Byte
  | .set tag => tag
  | .clear => none

/-- The POWER notice of a change that may end a tagged sleep request (R82, R87; log 18). -/
def powerNoticeEnding (cause outcome : Reason) (tag : Option Byte) (s : State) : State :=
  powerNotice cause none tag (tag.map (fun _ => outcome)) s

/-- STANDBY becomes ACTIVE; a pending sleep is cancelled (R81, R82, R86). -/
def activate (cause : Reason) (s : State) : State :=
  let tag := sleepTag s.heat.sleepPending
  startReady (powerNoticeEnding cause .cancelled tag
    (evalFan { s with heat.power := .active, heat.sleepPending := .clear }))

/-- A pending sleep replaced by a new one (R82). -/
def supersedeSleep (s : State) : State :=
  match s.heat.sleepPending with
  | .set (some tag) => powerNotice .request none (some tag) (some .superseded) s
  | _ => s

/-- SLEEP asked for in STANDBY by POWER MODE (R82): whether it is entered at once, and the state after. -/
def askSleep (tag : Byte) (s : State) : Bool × State :=
  if sleepConditions s then (true, enterSleep none (supersedeSleep s))
  else
    let s1 := { s with heat.sleepPending := .set (some tag) }
    match s.heat.sleepPending with
    | .set (some old) => (false, powerNotice .request none (some old) (some .superseded) s1)
    | _ => (false, s1)

/-- POWER MODE SLEEP from ACTIVE: STANDBY with one notice, then SLEEP or a pending sleep (R82, R87). -/
def sleepFromActive (tag : Byte) (s : State) : Bool × State :=
  let s1 := enterStandby s
  if sleepConditions s1 then (true, enterSleep none (powerNotice .request none none none s1))
  else (false, powerNotice .request none none none { s1 with heat.sleepPending := .set (some tag) })

/-- POWER MODE's effect and answer (R82). -/
def powerModeTo (mode : PowerState) (tag : Byte) (s : State) : Answer × State :=
  match mode, s.heat.power with
  | .active, .active => (.done [], s)
  | .active, _ => (.done [], activate .request s)
  | .standby, .active => (.done [], powerNotice .request none none none (enterStandby s))
  | .standby, _ =>
    match s.heat.sleepPending with
    | .set (some t) =>
      (.done [], powerNotice .request none (some t) (some .cancelled) { s with heat.sleepPending := .clear })
    | _ => (.done [], { s with heat.sleepPending := .clear })
  | .sleep, .active =>
    let p := sleepFromActive tag s
    (if p.1 then .done [] else .accepted [], p.2)
  | .sleep, _ =>
    let p := askSleep tag s
    (if p.1 then .done [] else .accepted [], p.2)

/-- POWER released before 2000 ms of hold (R86). -/
def powerKeyToggles (s : State) : State :=
  match s.heat.power with
  | .active => powerNotice .key none none none (enterStandby s)
  | .standby => activate .key s
  | .sleep => s

/-- A sleep pending set by the POWER key keeps a tag already there (R86). -/
def keyPending (s : State) : State :=
  if s.heat.sleepPending = .clear then { s with heat.sleepPending := .set none } else s

/-- POWER held for 2000 ms (R86). The notice of a SLEEP entered at once carries SLEEP_ENTERED (R84; log 57). -/
def powerKeyHeld (s : State) : State :=
  match s.heat.power with
  | .active =>
    let s1 := enterStandby s
    if sleepConditions s1 then enterSleep none (powerNotice .key none none none s1)
    else powerNotice .key none none none (keyPending s1)
  | .standby => if sleepConditions s then enterSleep (sleepTag s.heat.sleepPending) s else keyPending s
  | .sleep => s

/-! ### The heat-model update -/

/-- A good ambient reading in 1/256 °C (R66). -/
def goodReading (reading : Option Int) : Option Nat :=
  match reading with
  | some v => if 0 ≤ v ∧ v ≤ 20480 then some v.toNat else none
  | none => none

/-- Step 1: the ambient reading (R66). -/
def readAmbient (reading : Option Int) (s : State) : State :=
  match goodReading reading with
  | some a => clearFault .ambientSensor { s with heat.ambient := a }
  | none => raiseFault .ambientSensor none s

/-- Kout of a fan level (R67). -/
def fanCoefficient : FanLevel → Nat
  | .off => 3
  | .low => 12
  | .medium => 24
  | .high => 40

/-- Kout as the commanded level and FAN_STALL give it (R67). -/
def kout (s : State) : Nat := if hasFault .fanStall s then 3 else fanCoefficient s.heat.fan

/-- The formula of R67. -/
def heatFormula (h d kin a k : Nat) : Nat :=
  let gain : Int := (d * kin / 1000 : Nat)
  let loss : Int := Int.tdiv (((h : Int) - a) * k) 16384
  clampTo 0 65535 ((h : Int) + gain - loss).toNat

/-- The new H: the formula, or the wake rule (R67, R68). -/
def newEstimate (s : State) : Nat :=
  if s.heat.wakeDue then max s.heat.estimate s.heat.ambient
  else heatFormula s.heat.estimate s.lamp.drive s.items.heatKin s.heat.ambient (kout s)

/-- Step 2: H is computed and a wake update is no longer due (R67, R68). -/
def updateEstimate (s : State) : State := { s with heat.estimate := newEstimate s, heat.wakeDue := false }

/-- A forced-off order, with a waiting dark request answered (R57, R54). -/
def forceLampOff (cause : Reason) (s : State) : State := withDarkTest (lampOffNow cause) s

/-- The ceiling handed on, with the dark test of the recomputation (R72, R54). -/
def handCeiling (s : State) : State := withDarkTest evalCeiling s

/-- The cooldown record is started if it is not pending (R73, R74). -/
def ensureCooldown (s : State) : State := if s.heat.cooling then s else startCooldown s

/-- The latch trips at this H (R73). -/
def tripsNow (s : State) : Bool := !s.heat.latch && decide (21760 ≤ s.heat.estimate)

/-- The latch clears at this H (R73). -/
def untripsNow (s : State) : Bool := s.heat.latch && decide (s.heat.estimate ≤ 17920)

/-- The effects of a raised OVERTEMP or TCO_OPEN (R73, R74). -/
def heatFaultRaised (cause : Reason) (s : State) : State :=
  evalFan (handCeiling (ensureCooldown (forceLampOff cause s)))

/-- Step 3: the trip latch (R73). -/
def evalLatch (s : State) : State :=
  if tripsNow s then heatFaultRaised .overtemp (raiseFault .overtemp none { s with heat.latch := true })
  else if untripsNow s then evalFan (handCeiling (clearFault .overtemp { s with heat.latch := false }))
  else s

/-- Step 4: the fan floor and the commanded level (R69, R70). -/
def evalFloor (s : State) : State := evalFan { s with heat.floor := floorOf s.heat.estimate s.heat.floor }

/-- The elapsed cooldown time reaches an item in seconds; it is held in 0.25 s steps (R78). -/
def elapsedReaches (s : State) (seconds : Nat) : Bool := decide (4 * seconds ≤ s.heat.elapsed)

/-- H is within the cool margin of A (R78). -/
def withinMargin (s : State) : Bool := decide (s.heat.estimate ≤ s.heat.ambient + s.items.coolMargin)

/-- The cooldown record completes (R78). -/
def cooldownCompletes (s : State) : Bool :=
  s.heat.cooling && elapsedReaches s s.items.cooldownMin && (withinMargin s || elapsedReaches s s.items.cooldownLimit)

/-- Step 7: the record is advanced and tested; at completion COOLDOWN DONE, and the fan falls (R78). -/
def advanceCooldown (s : State) : State :=
  if s.heat.cooling then
    let s1 := { s with heat.elapsed := min 7200 (s.heat.elapsed + 1) }
    if cooldownCompletes s1 then
      evalFan (give (.cooldownDone s1.heat.estimate s1.heat.ambient s1.heat.elapsed
        (if withinMargin s1 then .margin else .limit)) { s1 with heat.cooling := false })
    else s1
  else s

/-- The record is started by this update's trip, and so not advanced by it (R77; log 20). -/
def tripStartsCooldown (s : State) : Bool := tripsNow s && (!s.heat.cooling || decide (0 < s.lamp.drive))

/-- Steps 4 to 7 (R65). -/
def updateDecisions (advance : Bool) (s : State) : State :=
  let s1 := evalPermission (handCeiling (evalFloor s))
  if advance then advanceCooldown s1 else s1

/-- A heat-model update (R65), in ACTIVE and STANDBY; the sleep test follows a completion and a clearing of OVERTEMP
(R83). -/
def heatUpdated (reading : Option Int) (s : State) : State :=
  if s.heat.power = .sleep then s
  else
    let s2 := updateEstimate (readAmbient reading { s with heat.updateTimer := some 0 })
    let s7 := updateDecisions (!tripStartsCooldown s2) (evalLatch s2)
    let s8 := settleThermal (thermalKey s) s7
    if untripsNow s2 || (s2.heat.cooling && !s7.heat.cooling) then sleepTest s8 else s8

/-! ### Fan tach and cut-out -/

/-- The expiry of the fan stall timer (R71, R72). -/
def fanStalls (s : State) : State :=
  match s.heat.stallTimer with
  | some _ => handCeiling (raiseFault .fanStall none { s with heat.stallTimer := none })
  | none => s

/-- A fan tach pulse (R71, R72). A clearing hands on the ceiling in every power state (log 58). -/
def fanTach (s : State) : State :=
  let s1 := { s with heat.stallTimer := if s.heat.fan = .off then none else some 0 }
  if hasFault .fanStall s then handCeiling (clearFault .fanStall s1) else s1

/-- The cut-out line opens (R74): a wake from SLEEP first. -/
def tcoOpens (s : State) : State :=
  let s1 := raiseFault .tcoOpen none (wake .cutOut { s with lines.tcoOpen := true })
  evalPermission (heatFaultRaised .tco s1)

/-- The cut-out line closes (R74). -/
def tcoCloses (s : State) : State :=
  evalPermission (evalFan (handCeiling (clearFault .tcoOpen { s with lines.tcoOpen := false })))

/-- A change of the cut-out line, with its THERMAL report and the sleep test of a clearing (R74, R76, R83). -/
def tcoChanges (opened : Bool) (s : State) : State :=
  if s.lines.tcoOpen = opened then s
  else if opened then withThermal tcoOpens s
  else sleepTest (withThermal tcoCloses s)

end Sys2Proof.Machine
end

