-- ==== Sys2Proof/Machine/Keys.lean ====
section
/-! DEFINITION. The Remote Receiver (R161 to R174): presses, repeats and releases of both remotes, numeric entry,
and the focus drive. -/

namespace Sys2Proof.Machine

/-! ### Key states -/

/-- The key state of a remote (R161). -/
def heldKey (r : Remote) (s : State) : Option Held :=
  match r with
  | .ir => s.remote.irKey
  | .wired => s.remote.wiredKey

/-- Setting the key state of a remote. -/
def setHeld (r : Remote) (h : Option Held) (s : State) : State :=
  match r with
  | .ir => { s with remote.irKey := h }
  | .wired => { s with remote.wiredKey := h }

/-- Setting a mark of the held key of a remote. -/
def markHeld (r : Remote) (f : Held → Held) (s : State) : State := setHeld r ((heldKey r s).map f) s

/-- A key as it begins to be held (R161). -/
def freshHeld (key : Key) (toggle : Bool) : Held :=
  { key := key, toggle := toggle, pressMs := 0, releaseMs := 0, usedUp := false, ignored := false, holdTaken := false }

/-- A key that hands on hold events and acts at its release (R161). -/
def liveKey (h : Held) : Bool := !h.usedUp && !h.ignored

/-! ### Focus (R171 to R173) -/

/-- The remote as a focus owner (R172). -/
def ownerOf : Remote → FocusOwner
  | .ir => .ir
  | .wired => .wired

/-- The limit switch in a direction. -/
def limitAt (dir : FocusDir) (s : State) : Bool :=
  match dir with
  | .inward => s.lines.limitIn
  | .outward => s.lines.limitOut

/-- A nudge in progress ends TAKEN_OVER (R171, R173). -/
def takeOverNudge (s : State) : State :=
  match s.remote.focus with
  | .nudge dir tag _ => give (.focusEnd dir .host .takenOver (some tag)) s
  | _ => s

/-- A focus press takes the drive; with its limit asserted the motor is not started (R171). -/
def focusPress (r : Remote) (dir : FocusDir) (s : State) : State :=
  let s1 := takeOverNudge s
  if limitAt dir s then give (.focusEnd dir (ownerOf r) .limit none) { s1 with remote.focus := .idle }
  else { s1 with remote.focus := .key r dir false }

/-- The release of the key that owns the drive stops the motor (R171). -/
def focusRelease (r : Remote) (s : State) : State :=
  match s.remote.focus with
  | .key owner _ _ => if owner = r then { s with remote.focus := .idle } else s
  | _ => s

/-- 300 ms after the press the motor changes to fast (R171). -/
def focusSpeeds (s : State) : State :=
  match s.remote.focus with
  | .key owner dir _ => { s with remote.focus := .key owner dir true }
  | _ => s

/-- A limit switch that is asserted stops a motor running toward it (R172, R173). -/
def limitStops (dir : FocusDir) (s : State) : State :=
  match s.remote.focus with
  | .key owner d _ =>
    if d = dir then give (.focusEnd dir (ownerOf owner) .limit none) { s with remote.focus := .idle } else s
  | .nudge d tag _ =>
    if d = dir then give (.focusEnd dir .host .limit (some tag)) { s with remote.focus := .idle } else s
  | .idle => s

/-- A change of a limit switch (R172). -/
def limitChanges (dir : FocusDir) (asserted : Bool) (s : State) : State :=
  let s1 :=
    match dir with
    | .inward => { s with lines.limitIn := asserted }
    | .outward => { s with lines.limitOut := asserted }
  if asserted then limitStops dir s1 else s1

/-- A nudge's duration runs out (R173). -/
def nudgeCompletes (s : State) : State :=
  match s.remote.focus with
  | .nudge dir tag _ => give (.focusEnd dir .host .complete (some tag)) { s with remote.focus := .idle }
  | _ => s

/-- FOCUS NUDGE (R173). -/
def startNudge (dirCode duration : Nat) (tag : Byte) (s : State) : Answer × State :=
  match focusDirArg dirCode with
  | none => (.refused .badArg, s)
  | some dir =>
    if duration < 10 ∨ 2000 < duration then (.refused .badArg, s)
    else
      match s.remote.focus with
      | .key .. | .nudge .. => (.refused .busy, s)
      | .idle =>
        if limitAt dir s then (.accepted [], give (.focusEnd dir .host .limit (some tag)) s)
        else (.accepted [], { s with remote.focus := .nudge dir tag duration })

/-! ### Numeric entry (R169, R170) -/

/-- The numeric entry is discarded without a record. -/
def discardEntry (s : State) : State := { s with remote.entry := none }

/-- A digit press (R169). -/
def digitPress (remote : Remote) (d : Fin 10) (s : State) : State :=
  match s.remote.entry with
  | none => { s with remote.entry := some { value := d.val, digits := 1, windowMs := 0 } }
  | some e =>
    if e.digits < 3 then
      { s with remote.entry := some { value := e.value * 10 + d.val, digits := e.digits + 1, windowMs := 0 } }
    else ignoreKey (.digit d) remote .entryFull s

/-- A refused numeric entry (R170). -/
def refuseEntry (value : Nat) (reason : Reason) (s : State) : State :=
  report (.entryRefused value reason) (.entryRefused value reason) s

/-- The commit of a numeric entry: tested against the seated tray, then offered as a REMOTE GOTO (R170). -/
def commitEntry (value : Nat) (s : State) : State :=
  let s1 := discardEntry s
  if ¬ traySeated s then refuseEntry value .noTray s1
  else if traySize s < value then refuseEntry value .range s1
  else offerKeyMove .goto .ir (.goto value) s1

/-- A GOTO press (R170). -/
def gotoPress (remote : Remote) (s : State) : State :=
  match s.remote.entry with
  | some e => commitEntry e.value s
  | none => ignoreKey .goto remote .noEntry s

/-- The expiry of the entry window (R170). -/
def entryExpires (s : State) : State :=
  match s.remote.entry with
  | some e => if s.items.autoGo then commitEntry e.value s else discardEntry s
  | none => s

/-! ### Presses (R166 to R168) -/

/-- The keys the show lock lets through (R158, R166). -/
def passesLock : Key → Bool
  | .adv | .rev | .focusIn | .focusOut | .hold | .power => true
  | .digit _ | .play | .stop | .lamp | .brightUp | .brightDown | .goto | .clear | .user1 | .user2 => false

/-- The show lock filters this key (R158). -/
def locksOut (key : Key) (s : State) : Bool := s.program.lock == .exhibit && !s.program.service && !passesLock key

/-- Keys that leave a numeric entry in progress (R166). -/
def keepsEntry : Key → Bool
  | .digit _ | .goto | .clear => true
  | _ => false

/-- Keys that bring the part ACTIVE from STANDBY (R166, R86). -/
def activates (key : Key) (s : State) : Bool :=
  match key with
  | .adv | .rev | .lamp | .play => true
  | .goto => s.remote.entry.isSome
  | _ => false

/-- The LAMP key (R168). -/
def lampKey (s : State) : State :=
  if (s.lamp.state = .preheat ∨ s.lamp.state = .lit) ∧ ¬ powerDownRuns s.lamp then
    withDarkTest (lampOffNow .request) s
  else strikeUnanswered .request s

/-- The HOLD key (R168). -/
def holdKey (s : State) : State := if s.program.hold.isSome then continueHold s else takeHold s

/-- The PLAY key (R168). -/
def playKey (remote : Remote) (s : State) : State :=
  if s.program.hold.isSome then continueHold s else keyMotion .play remote .play s

/-- A key's action at its press (R167 to R171); `channel` is the channel of an infrared frame. -/
def keyAction (remote : Remote) (channel : Nat) (key : Key) (s : State) : State :=
  match key with
  | .digit d => digitPress remote d s
  | .adv => offerKeyMove .adv remote (.step 1) s
  | .rev => offerKeyMove .rev remote (.step (-1)) s
  | .focusIn => focusPress remote .inward s
  | .focusOut => focusPress remote .outward s
  | .hold => holdKey s
  | .play => playKey remote s
  | .stop => keyMotion .stop remote .stop s
  | .lamp => lampKey s
  | .brightUp => takeFade (min 1000 (s.lamp.show_ + 50)) 10 s
  | .brightDown => takeFade (s.lamp.show_ - 50) 10 s
  | .goto => gotoPress remote s
  | .clear => discardEntry s
  | .power => s
  | .user1 => give (.key .user1 channel) s
  | .user2 => give (.key .user2 channel) s

/-- The wake source of a remote (R85). -/
def wakeSourceOf : Remote → WakeSource
  | .ir => .infrared
  | .wired => .ladder

/-- Steps 3 to 5 of a press (R166). -/
def pressActs (remote : Remote) (channel : Nat) (key : Key) (s : State) : State :=
  let s1 := if keepsEntry key then s else discardEntry s
  let s2 := if s.heat.power = .standby ∧ activates key s then activate .key s1 else s1
  keyAction remote channel key s2

/-- A press: the key is held, and then taken through the five steps of R166. -/
def press (remote : Remote) (channel : Nat) (key : Key) (toggle : Bool) (s : State) : State :=
  let s1 := setHeld remote (some (freshHeld key toggle)) s
  if s.heat.power = .sleep then
    wake (wakeSourceOf remote) (markHeld remote (fun h => { h with usedUp := true }) s1)
  else if locksOut key s then
    discardEntry (ignoreKey key remote .locked (markHeld remote (fun h => { h with ignored := true }) s1))
  else pressActs remote channel key s1

/-! ### Releases and hold events -/

/-- The action of a key at its release: POWER toggles unless its hold was taken, a focus key that owns the drive stops it (R86,
R171). -/
def releaseActs (remote : Remote) (h : Held) (s : State) : State :=
  match h.key with
  | .power => if liveKey h ∧ ¬ h.holdTaken then powerKeyToggles s else s
  | .focusIn | .focusOut => if liveKey h then focusRelease remote s else s
  | _ => s

/-- A release; without a held key nothing (R161). -/
def release (remote : Remote) (s : State) : State :=
  match heldKey remote s with
  | some h => releaseActs remote h (setHeld remote none s)
  | none => s

/-- A repeat of a held ADV or REV (R167). -/
def repeatKey (remote : Remote) (s : State) : State :=
  match heldKey remote s with
  | some h =>
    if liveKey h then
      match h.key with
      | .adv => offerKeyMove .adv remote (.step 1) s
      | .rev => offerKeyMove .rev remote (.step (-1)) s
      | _ => s
    else s
  | none => s

/-- The 2000 ms mark of a held POWER key (R86). -/
def powerHeldOn (s : State) : State :=
  match s.remote.irKey with
  | some h =>
    if h.key = .power ∧ liveKey h ∧ ¬ h.holdTaken then
      powerKeyHeld { s with remote.irKey := some { h with holdTaken := true } }
    else s
  | none => s

/-! ### Infrared frames (R162, R163) -/

/-- The key of a frame that passes the tests of R163. -/
def irKeyOf (w : BitVec 16) (s : State) : Option Key :=
  if irCheckField w ≠ ~~~ (irKeyField w) then none
  else if s.items.irChannel ≠ 0 ∧ irChannelOf w ≠ s.items.irChannel then none
  else keyOfCode (irKeyField w).toNat

/-- A key frame acts on the IR key state (R163). -/
def irKeyFrame (channel : Nat) (key : Key) (toggle : Bool) (s : State) : State :=
  match s.remote.irKey with
  | some h =>
    if h.key = key ∧ h.toggle = toggle then { s with remote.irKey := some { h with releaseMs := 0 } }
    else press .ir channel key toggle (release .ir s)
  | none => press .ir channel key toggle s

/-- A repeat frame of a held POWER key taken in SLEEP wakes the part too (R85; log 31). -/
def wakeIfAsleep (asleep : Bool) (s : State) : State := if asleep then wake .infrared s else s

/-- A complete infrared frame (R163): in SLEEP only the POWER key's are taken. -/
def irFrameTaken (w : BitVec 16) (s : State) : State :=
  let s1 := { s with remote.irDecoder := .idle }
  match irKeyOf w s with
  | none => s1
  | some key =>
    if s.heat.power = .sleep ∧ key ≠ .power then s1
    else wakeIfAsleep (decide (s.heat.power = .sleep)) (irKeyFrame (irChannelOf w) key (irToggle w) s1)

/-- A timing error within a frame; a leader mark then begins a new frame (R162). -/
def irError (leaderMark : Bool) (s : State) : State :=
  match s.remote.irDecoder with
  | .receiving _ => { s with remote.irDecoder := if leaderMark then .receiving [] else .idle }
  | .idle => s

/-- A leader in IDLE begins RECEIVING (R162). In RECEIVING the row changes nothing: a leader mark met there is IR_TIMING_ERROR's
(log 4). -/
def irLeads (s : State) : State :=
  match s.remote.irDecoder with
  | .idle => { s with remote.irDecoder := .receiving [] }
  | .receiving _ => s

/-! ### The wired ladder (R164) -/

/-- A change of the stable band: the held key is released, the new band's key pressed (R164). -/
def bandChanges (b : Band) (s : State) : State :=
  let s1 := release .wired { s with remote.stableBand := b, remote.candidate := none }
  match bandKey b with
  | some key => press .wired 0 key false s1
  | none => s1

/-- The run a sample in another band makes (R164). -/
def runOf (b : Band) (candidate : Option (Band × Nat)) : Nat :=
  match candidate with
  | some (c, n) => if c = b then n + 1 else 1
  | none => 1

/-- A sample in a band (R164). -/
def bandSample (b : Band) (s : State) : State :=
  if b = s.remote.stableBand then { s with remote.candidate := none }
  else if 6 ≤ runOf b s.remote.candidate then bandChanges b s
  else { s with remote.candidate := some (b, runOf b s.remote.candidate) }

/-- A ladder sample; one between bands is skipped (R164). -/
def ladderSampled (v : Nat) (s : State) : State :=
  match bandOf v with
  | some b => bandSample b s
  | none => s

end Sys2Proof.Machine
end

