-- ==== Sys2Proof/Machine/Resets.lean ====
section
/-! DEFINITION. The tray events (R1 to R4) and the three resets (R19, R45, R64, R88, R108, R125, R143, R160, R174, R182, R193). -/

namespace Sys2Proof.Machine

/-! ### Tray events -/

/-- N fresh records (R2, R19). -/
def freshSlots (code : Fin 4) : List SlotRec := List.replicate (capacity code) freshSlot

/-- The removal of a seated tray (R3), as the taken code leaves the contacts. -/
def removeTray (code : Fin 4) (s : State) : State :=
  let s1 := removeFromChanger s
  give .trayOut { s1 with
    tray.code := code, tray.position := none, tray.search := none, tray.slots := [], lines.homeMark := false }

/-- The seating of a tray (R2); the gap stands at the gate (log 8). -/
def seatTray (code : Fin 4) (s : State) : State :=
  give (.trayIn (capacity code)) { s with
    tray.code := code, tray.position := some 0, tray.search := none, tray.slots := freshSlots code, lines.homeMark := true }

/-- TRAY_CODE follows the taken code (R4). -/
def settleTrayCode (code : Fin 4) (s : State) : State :=
  if code = 3 then raiseFault .trayCode none s else clearFault .trayCode s

/-- A taken change of the tray code (R1 to R4). -/
def trayCodeChanges (code : Fin 4) (s : State) : State :=
  if s.tray.code = code then s
  else
    let s1 := if traySeated s then removeTray code s else { s with tray.code := code }
    let s2 := settleTrayCode code s1
    startReady (if 0 < capacity code then seatTray code s2 else s2)

/-! ### Power-on and RESET line -/

/-- The state of a hardware reset, with the lines read at its end and before any fault is raised (log 8). The commands that
wait are not the part's and stay. -/
def hardState (pins : Pins) (h : Nat) (s : State) : State :=
  { State.reset with
    pending := s.pending
    lineReads := s.lineReads
    tray := { Tray.reset with code := pins.trayCode, slots := freshSlots pins.trayCode }
    heat := { Heat.reset with estimate := h, floor := floorOf h .low, zone := zoneOf h, latch := decide (21760 ≤ h) }
    transport :=
      { Transport.reset with
        state := if pins.cassette then .stopped else .noTape
        cassette := pins.cassette }
    program := { Program.reset with service := pins.service }
    lines :=
      { homeMark := pins.homeMark, leader := pins.leader, tcoOpen := pins.tcoOpen, limitIn := pins.limitIn,
        limitOut := pins.limitOut } }

/-- A fault raised at a reset when its condition is present (R4, R73, R74). -/
def raiseIf (b : Bool) (f : FaultKind) (s : State) : State := if b then raiseFault f none s else s

/-- A hardware reset: the state, then the faults its lines and H raise, and what follows from them (R193, R88; log 38). -/
def hardReset (pins : Pins) (h : Nat) (s : State) : State :=
  let s1 := raiseIf (pins.trayCode == 3) .trayCode (hardState pins h s)
  let s2 := raiseIf (decide (21760 ≤ h)) .overtemp s1
  evalFan (evalPermission (evalCeiling (raiseIf pins.tcoOpen .tcoOpen s2)))

/-! ### Soft reset -/

/-- The lamp at a soft reset: OFF, or the swap in progress without its re-strike (R64). -/
def softLamp (s : State) : State :=
  let l := { s.lamp with
    ramp := 0, fade := none, dest := .keepWarm, destRamp := .strikeRamp, restriking := false, darkWaiting := false,
    openCount := 0 }
  match s.lamp.state with
  | .swapping => cancelRestrike { s with lamp := l }
  | _ => recomputeD { s with lamp := { l with state := .off, swap := none, window := none } }

/-- The Changer and the tray position at a soft reset (R45, R19). -/
def softChanger (s : State) : State :=
  let cycling := decide (s.changer.stage ≠ .idle)
  { s with
    changer := { Changer.reset with gate := if cycling then .unknown else s.changer.gate }
    tray.position := if cycling then none else s.tray.position
    tray.search := none }

/-- The Transport at a soft reset: the brake to STOPPED (R108; log 33). -/
def softTransport (s : State) : State :=
  let d : PendingDest := { dest := .stopped, source := .power, tag := none }
  let t : Transport := { s.transport with
    seek := none, backMark := false, gain := 0, endFade := .idle, stallTimer := none }
  if inMotion t.state then
    { s with transport := { t with
        state := .stopping, dest := some d, dir := brakeDir t.state, brakeTimer := some 0 } }
  else if t.state = .stopping then { s with transport := { t with dest := some d } }
  else { s with transport := t }

/-- The loop and seek-cue records and the show's running state at a soft reset (R143, R160). -/
def softProgram (service : Bool) (s : State) : State :=
  { s with
    cueLog.seekCue := none, cueLog.phase := .idle, cueLog.armed := false, cueLog.restart := false,
    program.hold := none, program.timer := .stopped, program.remaining := 0, program.service := service }

/-- The conditions still present at a soft reset (R4, R66, R71, R73, R74). -/
def faultStays (s : State) (f : FaultKind) : Bool :=
  match f with
  | .trayCode => s.tray.code == 3
  | .overtemp => s.heat.latch
  | .tcoOpen => s.lines.tcoOpen
  | .fanStall => hasFault .fanStall s
  | .ambientSensor => hasFault .ambientSensor s
  | .jamLift | .jamDrop | .rotateStall | .lampOpen | .tapeStall | .stuckTone | .relayConflict => false

/-- The fault set rebuilt from those conditions (R193). -/
def rebuiltFaults (s : State) : BitVec 16 :=
  (allFaults.filter (faultStays s)).foldl (fun w f => w ||| faultMask f) 0

/-- The Link Interface at a soft reset (R193). -/
def softLink (s : State) : State :=
  { s with link := { Link.reset with mask := s.link.mask, clock := s.link.clock, faults := rebuiltFaults s } }

/-- The phase a mode write or a soft reset sets from the trigger condition (R177, R182). A POSTING with no post count is
FROZEN at once. -/
def freshPhase (mode : TraceMode) (post : Nat) (holds : Bool) : TracePhase :=
  match mode with
  | .ringFreeze => if holds then (if post = 0 then .frozen else .posting) else .ringing
  | .waitRing => if holds then .ringing else .waiting
  | .off | .fill | .ring => .unused

/-- The emptied buffer of a mode, trigger set and post count (R177). -/
def freshTrace (mode : TraceMode) (trigger : BitVec 16) (post : Nat) (holds : Bool) : Trace :=
  let phase := freshPhase mode post holds
  { Trace.reset with
    mode := mode, trigger := trigger, post := post, phase := phase
    postLeft := if phase = .posting then post else 0
    frozen := decide (phase = .frozen) }

/-- A mode write against the fault set as it stands, with the FROZEN notice of a freeze at once (R177, R179). -/
def writeTraceMode (mode : TraceMode) (trigger : BitVec 16) (post : Nat) (s : State) : State :=
  let t := freshTrace mode trigger post (trigger &&& s.link.faults != 0)
  let s1 := { s with trace := t }
  if t.frozen then give (.frozen 0) s1 else s1

/-- The Trace Buffer at a soft reset, set as at a mode write of what it holds, against the rebuilt fault set (R182; log
47). -/
def softTrace (s : State) : State := writeTraceMode s.trace.mode s.trace.trigger s.trace.post s

/-- The Heat Monitor at a soft reset (R88): STANDBY without the entry actions; the updates keep their time, and after
SLEEP they begin again as after a wake. -/
def softHeat (s : State) : State :=
  evalFan { s with
    heat.power := .standby, heat.sleepPending := .clear, heat.wakeDue := false,
    heat.updateTimer := if s.heat.power = .sleep then some 0 else s.heat.updateTimer }

/-- The soft reset of the whole part (R193). The release time of the cue-out line stops with the rest of the Cue Decoder
(R125; log 59). -/
def softResetAll (service : Bool) (s : State) : State :=
  softTrace (softLink (softHeat (softLamp (softChanger (softTransport (softProgram service
    { s with decoder := Decoder.reset, remote := RemoteRx.reset }))))))

end Sys2Proof.Machine
end

