-- ==== Sys2Proof/Machine/Requests.lean ====
section
/-! DEFINITION. Serving a request (R184 to R187), the status record (R188), the items (R189), FAULT CLEAR (R192), the trace requests
(R177, R181), and the writes of maps, slots and the cue table (R10, R11, R149, R150). -/

namespace Sys2Proof.Machine

/-! ### Serving a request -/

/-- What a body answers, or BAD_ARG for a frame whose length is not the length its kind takes (R184). -/
def served (expected : Nat) (h : Hdr) (body : State → Answer × State) (s : State) : Answer × State :=
  if h.len.toNat = expected then body s else (.refused .badArg, s)

/-- A request served at its complete frame: a place in the reply order, the wake, the length test, the owner's body, and
its reply (R184 to R187). -/
def serve (kind : Byte) (expected : Nat) (h : Hdr) (body : State → Answer × State) (s : State) : State :=
  let p := served expected h body (wake .frame (takePlace (kind + 0x80) h.tag s))
  fillReply (answerPayload p.1) p.2

/-- A request frame: a fifth outstanding one is discarded (R185); another is served, with the THERMAL report of what it
changed (R76). -/
def request (kind : Byte) (expected : Nat) (h : Hdr) (body : State → Answer × State) (s : State) : State :=
  if 4 ≤ awaiting s.link then overrunFrame s else withThermal (serve kind expected h body) s

/-- A body that is always DONE without data. -/
def doneBy (f : State → State) (s : State) : Answer × State := (.done [], f s)

/-- A body that is refused with a reason, or DONE without data. -/
def unlessRefused (r : State → Option Reason) (f : State → State) (s : State) : Answer × State :=
  match r s with
  | some reason => (.refused reason, s)
  | none => (.done [], f s)

/-! ### Status record (R188) -/

/-- Byte 0 of the status record. -/
def statusPower (s : State) : Nat :=
  powerCode s.heat.power + flagBit (s.heat.sleepPending != .clear) 2 + flagBit (s.program.lock == .exhibit) 3
    + 16 * protectBits s.program

/-- Byte 1 of the status record. -/
def statusLamp (s : State) : Nat :=
  lampStateCode s.lamp.state + 8 * lampPosCode s.lamp.active + 16 * lampCondCode s.lamp.recA + 64 * lampCondCode s.lamp.recB

/-- Byte 14 of the status record. -/
def statusFan (s : State) : Nat :=
  fanCode s.heat.fan + flagBit s.heat.cooling 2 + 8 * zoneCode s.heat.zone + flagBit s.heat.allowed 5

/-- Bytes 15 to 18 of the status record: tray, N, position, changer. -/
def statusTray (s : State) : List Byte :=
  [byte1 (s.tray.code.val + 4 * gateCode s.changer.gate + 16 * pauseCode s.changer.pause), byte1 (traySize s),
    byte1 (s.tray.position.getD 255), byte1 (stageCode s.changer.stage + 16 * s.changer.queue.length)]

/-- Bytes 19 to 25 of the status record: transport and show. -/
def statusShow (s : State) : List Byte :=
  byte1 (tapeStateCode s.transport.state + flagBit s.transport.zeroKnown 3 + 16 * cueSourceCode s.items.cueSource)
    :: byte2 s.transport.reel ++ byte2 s.program.cueIndex
    ++ [byte1 (s.program.activeMap + flagBit s.program.hold.isSome 2 + 8 * timerCode s.program.timer),
      byte1 s.program.loops]

/-- Bytes 26 to 39 of the status record: trace, faults, notices, clock. -/
def statusLink (s : State) : List Byte :=
  [byte1 (traceModeCode s.trace.mode + 8 * traceFlagBits s.trace), byte1 s.trace.records.length]
    ++ byte2 s.link.faults.toNat ++ byte3 s.link.flags.toNat
    ++ byte1 (flagBit s.link.noticesLost 0 + flagBit s.link.overrun 1 + flagBit s.cueLog.full 2)
    :: byte2 s.decoder.rejects ++ byte4 s.link.clock.toNat

/-- The 40 bytes of the status record (chapter 11). -/
def statusRecord (s : State) : List Byte :=
  [byte1 (statusPower s), byte1 (statusLamp s)] ++ byte2 s.lamp.ramp ++ byte2 s.lamp.show_ ++ byte2 s.lamp.drive
    ++ byte2 s.heat.ceiling ++ byte2 s.heat.estimate ++ byte2 s.heat.ambient ++ [byte1 (statusFan s)]
    ++ statusTray s ++ statusShow s ++ statusLink s

/-- READ STATUS: the record, and the flags cleared in the same instant (R188). -/
def readStatusBody (s : State) : Answer × State :=
  (.done (statusRecord s), { s with link.flags := 0, link.noticesLost := false, link.overrun := false })

/-- IDENTIFY's data: "OZ-418", the silicon revision, protocol version 1 (R188; log 9). -/
def identity : List Byte := [0x4F, 0x5A, 0x2D, 0x34, 0x31, 0x38, Config.siliconRevision, 1]

/-! ### Items (R189) -/

/-- The value of an item by number. -/
def itemValue (i : Items) : Nat → Option Nat
  | 1 => some (onOffCode i.skipEmpties)
  | 2 => some (onOffCode i.trayWrap)
  | 3 => some (changeModeCode i.changeMode)
  | 4 => some i.strikeRamp
  | 5 => some i.fadeOut
  | 6 => some i.fadeIn
  | 7 => some i.darkThreshold
  | 8 => some i.keepWarm
  | 9 => some (onOffCode i.autoStrike)
  | 10 => some (onOffCode i.lampAutoChange)
  | 11 => some i.heatKin
  | 12 => some i.coolMargin
  | 13 => some i.cooldownMin
  | 14 => some i.cooldownLimit
  | 15 => some i.volume
  | 16 => some i.endFade
  | 17 => some (onOffCode i.seekPlay)
  | 18 => some i.threshold1
  | 19 => some i.threshold2
  | 20 => some i.threshold3
  | 21 => some i.cueQualify
  | 22 => some i.cueGap
  | 23 => some i.cueMaxBurst
  | 24 => some (cueSourceCode i.cueSource)
  | 25 => some (onOffCode i.relayOut)
  | 26 => some i.matchWindow
  | 27 => some (onOffCode i.cueFillIn)
  | 28 => some i.seekPreroll
  | 29 => some (onOffCode i.showLoop)
  | 30 => some i.loopCount
  | 31 => some i.showStartSlot
  | 32 => some i.irChannel
  | 33 => some (onOffCode i.autoGo)
  | 34 => some i.traceWatermark
  | _ => none

/-- A write of an enumerated item; a code outside its values gives none. -/
def writeEnum {α : Type} (v : Option α) (f : α → State) : Option State := v.map f

/-- A write of VOLUME (R104). -/
def writeVolume (v : Nat) (s : State) : State :=
  let v := clampTo 0 63 v
  { s with
    items.volume := v
    transport.gain := if s.transport.state = .playing ∧ s.transport.endFade = .idle then v else s.transport.gain }

/-- A dark fade runs toward a level at or above the threshold (R53). -/
def darkFadeAbove (s : State) : Bool :=
  match s.lamp.fade with
  | some f => f.kind == .dark && decide (s.items.darkThreshold ≤ f.b)
  | none => false

/-- The lamp's part of a DARK_THRESHOLD write, the items as written (R53, R49; log 27). With the claim REQUESTED the waiting
request meets the new threshold at the next step. Cancelling a strike fade ends a
swap's re-strike with it (R60; log 63). -/
def thresholdLamp (s : State) : State :=
  match s.lamp.state, s.changer.claim with
  | .lit, .held =>
    if s.items.darkThreshold < s.lamp.ramp then
      recomputeD { s with lamp.ramp := s.items.keepWarm, lamp.fade := none, lamp.restriking := false }
    else s
  | .lit, .requested => if darkFadeAbove s then withDarkTest (startFade .dark s.items.keepWarm s.items.fadeOut) s else s
  | .preheat, _ => recomputeD { s with lamp.ramp := preheatDrive s }
  | _, _ => s

/-- A write of DARK_THRESHOLD (R53). -/
def writeThreshold (v : Nat) (s : State) : State :=
  let v := clampTo 20 200 v
  thresholdLamp { s with items.darkThreshold := v, items.keepWarm := min s.items.keepWarm (v - 1) }

/-- A write of RELAY_OUT empties the relay-out queue without a record (R121). -/
def writeRelayOut (b : Bool) (s : State) : State := { s with items.relayOut := b, decoder.relayQueue := [] }

/-- A write of SHOW_LOOP; OFF ends an armed loop (R136, R142). -/
def writeShowLoop (b : Bool) (s : State) : State :=
  let s1 := { s with items.showLoop := b }
  if b then s1 else endLoop .off none s1

/-- A write of LOOP_COUNT loads loops remaining (R136). -/
def writeLoopCount (v : Nat) (s : State) : State :=
  { s with items.loopCount := clampTo 0 250 v, program.loops := clampTo 0 250 v }

/-- A write of an item by number: clamped where numeric, none where the item or the code does not exist, with its owner's
effect (R189). -/
def writeItem (n v : Nat) (s : State) : Option State :=
  match n with
  | 1 => writeEnum (onOffArg v) (fun b => { s with items.skipEmpties := b })
  | 2 => writeEnum (onOffArg v) (fun b => { s with items.trayWrap := b })
  | 3 => writeEnum (changeModeArg v) (fun m => { s with items.changeMode := m })
  | 4 => some { s with items.strikeRamp := clampTo 0 200 v }
  | 5 => some { s with items.fadeOut := clampTo 0 6000 v }
  | 6 => some { s with items.fadeIn := clampTo 0 6000 v }
  | 7 => some (writeThreshold v s)
  | 8 => some { s with items.keepWarm := clampTo 0 (s.items.darkThreshold - 1) v }
  | 9 => writeEnum (onOffArg v) (fun b => { s with items.autoStrike := b })
  | 10 => writeEnum (onOffArg v) (fun b => { s with items.lampAutoChange := b })
  | 11 => some { s with items.heatKin := clampTo 8 63 v }
  | 12 => some { s with items.coolMargin := clampTo 1024 7680 v }
  | 13 => some { s with items.cooldownMin := clampTo 0 600 v }
  | 14 => some { s with items.cooldownLimit := clampTo 60 1800 v }
  | 15 => some (writeVolume v s)
  | 16 => some { s with items.endFade := clampTo 0 1000 v }
  | 17 => writeEnum (onOffArg v) (fun b => { s with items.seekPlay := b })
  | 18 => some { s with items.threshold1 := clampTo 8 200 v }
  | 19 => some { s with items.threshold2 := clampTo 8 200 v }
  | 20 => some { s with items.threshold3 := clampTo 8 200 v }
  | 21 => some { s with items.cueQualify := clampTo 2 20 v }
  | 22 => some { s with items.cueGap := clampTo 2 40 v }
  | 23 => some { s with items.cueMaxBurst := clampTo 20 400 v }
  | 24 => writeEnum (cueSourceArg v) (fun c => { s with items.cueSource := c })
  | 25 => writeEnum (onOffArg v) (fun b => writeRelayOut b s)
  | 26 => some { s with items.matchWindow := clampTo 2 64 v }
  | 27 => writeEnum (onOffArg v) (fun b => { s with items.cueFillIn := b })
  | 28 => some { s with items.seekPreroll := clampTo 0 500 v }
  | 29 => writeEnum (onOffArg v) (fun b => writeShowLoop b s)
  | 30 => some (writeLoopCount v s)
  | 31 => some { s with items.showStartSlot := clampTo 1 96 v }
  | 32 => some { s with items.irChannel := clampTo 0 7 v }
  | 33 => writeEnum (onOffArg v) (fun b => { s with items.autoGo := b })
  | 34 => some (settleWatermark { s with items.traceWatermark := clampTo 1 63 v })
  | _ => none

/-- GET ITEM (R189); the value takes two bytes for every item (log 70). -/
def getItemBody (n : Nat) (s : State) : Answer × State :=
  match itemValue s.items n with
  | some v => (.done (byte1 n :: byte2 v), s)
  | none => (.refused .badArg, s)

/-- SET ITEM (R189); the value written is answered in two bytes (log 70). -/
def setItemBody (n v : Nat) (s : State) : Answer × State :=
  match writeItem n v s with
  | some s1 => (.done (byte1 n :: byte2 ((itemValue s1.items n).getD 0)), s1)
  | none => (.refused .badArg, s)

/-! ### FAULT CLEAR (R192) -/

/-- Clearing a sticky fault with its owner's effect (R38, R62, R99). -/
def clearSticky (f : FaultKind) (s : State) : State :=
  let s1 := clearFault f s
  match f with
  | .jamLift | .jamDrop | .rotateStall => startReady { s1 with changer.gate := .unknown }
  | .lampOpen => leaveFailed s1
  | _ => s1

/-- LAMP_OPEN is held back while the active record is FAILED (R62, R192). -/
def heldBack (f : FaultKind) (s : State) : Bool :=
  decide (f = .lampOpen) && decide (lampRec s.lamp s.lamp.active = .failed)

/-- The fault word as reply data. -/
def faultWord (s : State) : List Byte := byte2 s.link.faults.toNat

/-- FAULT CLEAR of a named fault (R192). -/
def clearNamed (f : FaultKind) (s : State) : Answer × State :=
  if ¬ isSticky f then (.refused .notPermitted, s)
  else if isChangerFault f ∧ s.changer.stage ≠ .idle then (.refused .busy, s)
  else if ¬ hasFault f s then (.done (faultWord s), s)
  else if heldBack f s then (.refused .notPermitted, s)
  else (.done (faultWord (clearSticky f s)), clearSticky f s)

/-- The sticky faults in the set that nothing holds back, cleared in code order (R192). -/
def clearEach : List FaultKind → State → State
  | [], s => s
  | f :: fs, s => clearEach fs (if isSticky f && hasFault f s && !heldBack f s then clearSticky f s else s)

/-- FAULT CLEAR (R192). -/
def faultClearBody (code : Nat) (s : State) : Answer × State :=
  if code = 0 then
    if s.changer.stage ≠ .idle then (.refused .busy, s)
    else (.done (faultWord (clearEach allFaults s)), clearEach allFaults s)
  else
    match faultArg code with
    | some f => clearNamed f s
    | none => (.refused .badArg, s)

/-! ### Trace requests -/

/-- SET TRACE MODE (R177). -/
def setTraceModeBody (mode : Nat) (trigger : BitVec 16) (post : Nat) (s : State) : Answer × State :=
  match traceModeArg mode with
  | some m =>
    if trigger &&& 0xF000 = 0 then
      let p := clampTo 0 32 post
      (.done (byte1 (traceModeCode m) :: byte2 trigger.toNat ++ [byte1 p]), writeTraceMode m trigger p s)
    else (.refused .badArg, s)
  | none => (.refused .badArg, s)

/-- READ TRACE: how many records one reply returns, at most 2 (R181). -/
def readCount (k : Nat) (t : Trace) : Nat := min k (min 2 t.records.length)

/-- The buffer after a read of `n` records (R181). -/
def afterRead (n watermark : Nat) (t : Trace) : Trace :=
  if n = 0 then t
  else
    { t with
      records := t.records.drop n, full := false, overwritten := false
      watermark := decide (watermark ≤ (t.records.drop n).length) }

/-- READ TRACE (R181). -/
def readTraceBody (k : Nat) (s : State) : Answer × State :=
  if k < 1 ∨ 16 < k then (.refused .badArg, s)
  else
    let n := readCount k s.trace
    let t := afterRead n s.items.traceWatermark s.trace
    (.done (byte1 (traceFlagBits s.trace) :: byte1 t.records.length :: (s.trace.records.take n).flatMap traceBytes),
      { s with trace := t })

/-! ### Tray map and slot maps -/

/-- The presence a MARK SLOT writes (R10). -/
def markPresence (a : PresenceAction) (r : SlotRec) : SlotRec :=
  match a with
  | .present => { r with presence := .present, source := .declared }
  | .absent => { r with presence := .absent, source := .declared }
  | .unknown => { r with presence := .unknown, source := .unset }
  | .keep => r

/-- The hold override a MARK SLOT writes (R10). -/
def markHold (a : HoldAction) (value : Nat) (r : SlotRec) : SlotRec :=
  match a with
  | .set => { r with hold := some (clampTo 1 6000 value) }
  | .remove => { r with hold := none }
  | .keep => r

/-- MARK SLOT (R10). -/
def markSlotBody (slot pres holdCode value : Nat) (s : State) : Answer × State :=
  if ¬ traySeated s then (.refused .noTray, s)
  else
    match slotRec s slot, presenceArg pres, holdArg holdCode with
    | some r, some p, some a =>
      let r1 := markHold a value (markPresence p r)
      (.done (slotRecBytes r1), setSlot slot r1 s)
    | _, _, _ => (.refused .badArg, s)

/-- The protect flag of a slot map (R159). -/
def mapProtected (p : Program) : Nat → Bool
  | 1 => p.protect1
  | 2 => p.protect2
  | 3 => p.protect3
  | _ => false

/-- A guarded write is refused LOCKED while its flag is set and the SERVICE line is released (R159). -/
def guarded (flag : Bool) (s : State) : Bool := flag && !s.program.service

/-- The contents of a programmable map replaced (R11). -/
def putMap (num : Nat) (slots : SlotSet) (t : Tray) : Tray :=
  match num with
  | 1 => { t with map1 := slots }
  | 2 => { t with map2 := slots }
  | 3 => { t with map3 := slots }
  | _ => t

/-- The refusals of SET MAP (R11, R159). -/
def setMapRefusal (num : Nat) (s : State) : Option Reason :=
  if num = 0 then some .notPermitted
  else if 3 < num then some .badArg
  else if guarded (mapProtected s.program num) s then some .locked
  else none

/-- The contents of a slot map, map 0 as 1..N (R11). -/
def mapContents (num : Nat) (s : State) : SlotSet :=
  if num = 0 then BitVec.ofNat 96 (2 ^ traySize s - 1) else mapBits s.tray num

/-- GET MAP (R11). -/
def getMapBody (num : Nat) (s : State) : Answer × State :=
  if 3 < num then (.refused .badArg, s) else (.done (mapBytes num (mapContents num s)), s)

/-! ### Cue table (R149, R150) -/

/-- An entry written into the table in index order, replacing one of its index (R148, R149). -/
def putEntry (e : TableEntry) : List TableEntry → List TableEntry
  | [] => [e]
  | f :: fs =>
    if e.index < f.index then e :: f :: fs
    else if e.index = f.index then e :: fs
    else f :: putEntry e fs

/-- The pool actions of the entry of an index. -/
def entryActions (t : List TableEntry) (i : Nat) : Nat :=
  match tableEntry t i with
  | some e => e.actions.length
  | none => 0

/-- Checks 2 to 4 of WRITE ENTRY (R149). -/
def writeRefusal (i count : Nat) (s : State) : Option Reason :=
  let t := s.program.table
  if guarded s.program.protectTable s then some .locked
  else if (tableEntry t i).isNone ∧ 240 ≤ t.length then some .tableFull
  else if 480 < poolUsed t - entryActions t i + count then some .tableFull
  else none

/-- The entries and the pool actions in use, as reply data (R149). -/
def tableCounts (t : List TableEntry) : List Byte := byte1 t.length :: byte2 (poolUsed t)

/-- WRITE ENTRY (R149). -/
def writeEntryBody (i : Nat) (raw : List RawAction) (s : State) : Answer × State :=
  if i < 1 ∨ 999 < i ∨ raw.length < 1 ∨ 4 < raw.length then (.refused .badArg, s)
  else
    match actionsArg raw with
    | none => (.refused .badArg, s)
    | some as =>
      match writeRefusal i as.length s with
      | some r => (.refused r, s)
      | none =>
        let t := putEntry { index := i, actions := as } s.program.table
        (.done (tableCounts t), { s with program.table := t })

/-- The refusals of DELETE ENTRY (R150). -/
def deleteRefusal (i : Nat) (s : State) : Option Reason :=
  if i < 1 ∨ 999 < i then some .badArg
  else if guarded s.program.protectTable s then some .locked
  else if (tableEntry s.program.table i).isNone then some .notFound
  else none

/-- The table without the entry of an index. -/
def dropEntry (i : Nat) (t : List TableEntry) : List TableEntry := t.filter (fun e => e.index != i)

/-- The entry a READ ENTRY returns: EXACT, or NEXT above the index (R150). -/
def readEntryOf (i mode : Nat) (t : List TableEntry) : Option TableEntry :=
  if mode = 0 then tableEntry t i else t.find? (fun e => decide (i < e.index))

/-- READ ENTRY (R150). -/
def readEntryBody (i mode : Nat) (s : State) : Answer × State :=
  if 999 < i ∨ 1 < mode then (.refused .badArg, s)
  else
    match readEntryOf i mode s.program.table with
    | some e => (.done (tableEntryBytes e ++ tableCounts s.program.table), s)
    | none => (.refused .notFound, s)

/-- READ CUE LOG (R128). -/
def readCueLogBody (start : Nat) (s : State) : Answer × State :=
  if 511 < start then (.refused .badArg, s)
  else
    (.done (byte2 s.cueLog.entries.length ++ byte2 start
      ++ ((s.cueLog.entries.drop start).take 8).flatMap logEntryBytes), s)

end Sys2Proof.Machine
end

