-- ==== Sys2Proof/Machine/LinkCommands.lean ====
section
/-! DEFINITION. The commands of the Link Interface: resets, framing, identity, status, items, faults, notice mask, power
mode. -/

namespace Sys2Proof.Machine

/-- The outcome of a command. -/
abbrev Result := Host.Outcome State Fault Refusal

/-- POWER_ON (R193, R19, R88). -/
def execPowerOn (pins : Pins) (s : State) : Result := .next (hardReset pins 17920 s)

/-- RESET_LINE: H becomes the larger of H and 17920 (R88). -/
def execResetLine (pins : Pins) (s : State) : Result := .next (hardReset pins (max s.heat.estimate 17920) s)

/-- SOFT_RESET (R193; log 6). -/
def execSoftReset (service : Bool) (s : State) : Result := .next (softResetAll service s)

/-- The receiver returns to HUNTING and a frame in reception is discarded (R184). -/
def hunt (s : State) : State := { s with link.receiving := false, link.rxBuffer := [] }

/-- LINK_BYTE_TIMEOUT (R184). -/
def execLinkByteTimeout (s : State) : Result := .next (if s.link.receiving then hunt s else s)

/-- LENGTH_BYTE_ABOVE_60 (R184). -/
def execLengthByteAbove60 (s : State) : Result := .next (if s.link.receiving then hunt s else s)

/-- SYNC_BYTE (R184). -/
def execSyncByte (s : State) : Result :=
  .next (if s.link.receiving then s else { s with link.receiving := true, link.rxBuffer := [0xC3] })

/-- A REJECT reply: REFUSED, the reason, the received kind byte (R184). -/
def rejectFrame (kind tag : Byte) (reason : Reason) (s : State) : State :=
  fillReply [2, byte1 (reasonCode reason), kind] (takePlace 0xFF tag s)

/-- FRAME_REJECT: a bad check, then a kind that is no request kind; neither wakes the part (R184, R85). -/
def execFrameReject (kind tag : Byte) (checkOk : Bool) (s : State) : Result :=
  .next
    (if 4 ≤ awaiting s.link then overrunFrame s
    else if !checkOk then rejectFrame kind tag .check s
    else if !isRequestKind kind then rejectFrame kind tag .unknownKind s
    else s)

/-- FRAME_OVERRUN: the fifth complete frame (R185). -/
def execFrameOverrun (s : State) : Result := .next (if 4 ≤ awaiting s.link then overrunFrame s else s)

/-- The frame is the DONE reply of a RESET; a refused RESET resets nothing (R193, R184). -/
def isResetReply (f : TxFrame) : Bool := f.isReply && f.bytes[1]? == some 0x85 && f.bytes[4]? == some 0

/-- FRAME_SENT: the transmitter comes free and starts the next frame; after the DONE reply of a RESET the soft reset is
applied, with the SERVICE line as it stands then, a free value (R185, R193, R158; log 6). -/
def execFrameSent (s : State) : Result :=
  .next
    (match s.link.sending with
    | some f =>
      if isResetReply f then
        softResetAll (Config.serviceLevel s.lineReads) { s with link.sending := none, lineReads := s.lineReads + 1 }
      else { s with link := pump { s.link with sending := none } }
    | none => s)

/-- A reply is ready. -/
def markReady (r : ReplyEntry) : ReplyEntry := { r with ready := true }

/-- REPLY_READY of the reply at a place of the order; an idle transmitter waiting for it starts it (R185). -/
def execReplyReady (place : Nat) (s : State) : Result :=
  .next { s with link := pump { s.link with replies := s.link.replies.modify place markReady } }

/-- IDENTIFY (R188). -/
def execIdentify (h : Hdr) (s : State) : Result := .next (request 0x01 0 h (fun s => (.done identity, s)) s)

/-- READ_STATUS (R188). -/
def execReadStatus (h : Hdr) (s : State) : Result := .next (request 0x02 0 h readStatusBody s)

/-- GET_ITEM (R189). -/
def execGetItem (h : Hdr) (item : Byte) (s : State) : Result := .next (request 0x03 1 h (getItemBody item.toNat) s)

/-- SET_ITEM (R189). -/
def execSetItem (h : Hdr) (item : Byte) (value : BitVec 16) (s : State) : Result :=
  .next (request 0x04 3 h (setItemBody item.toNat value.toNat) s)

/-- RESET: DONE; the soft reset follows its reply (R193). -/
def execReset (h : Hdr) (s : State) : Result := .next (request 0x05 0 h (doneBy id) s)

/-- FAULT_CLEAR (R192). -/
def execFaultClear (h : Hdr) (code : Byte) (s : State) : Result := .next (request 0x06 1 h (faultClearBody code.toNat) s)

/-- SET_NOTICE_MASK (R190). -/
def execSetNoticeMask (h : Hdr) (mask : BitVec 24) (s : State) : Result :=
  .next (request 0x07 3 h (fun s => (.done (byte3 mask.toNat), { s with link.mask := mask })) s)

/-- POWER MODE's argument and effect (R82). -/
def powerModeBody (mode : Byte) (tag : Byte) (s : State) : Answer × State :=
  match powerArg mode.toNat with
  | some m => powerModeTo m tag s
  | none => (.refused .badArg, s)

/-- POWER_MODE (R82). -/
def execPowerMode (h : Hdr) (mode : Byte) (s : State) : Result := .next (request 0x08 1 h (powerModeBody mode h.tag) s)

end Sys2Proof.Machine
end

