-- ==== Sys2Proof/Machine/TrayCommands.lean ====
section
/-! DEFINITION. The commands of the Tray Unit and the Changer. -/

namespace Sys2Proof.Machine

/-- An offer of a HOST move with its answer (R22). -/
def hostMove (m : Move) (tag : Byte) (s : State) : Answer × State :=
  match offerMove { source := .host, move := m, tags := [tag], owner := none } s with
  | (none, s1) => (.accepted [], s1)
  | (some r, s1) => (.refused r, s1)

/-- STEP's argument check and offer (R22). -/
def stepBody (n : Int) (tag : Byte) (s : State) : Answer × State :=
  if n = 0 ∨ n < -99 ∨ 99 < n then (.refused .badArg, s) else hostMove (.step n) tag s

/-- STEP (R22, R23). -/
def execStep (h : Hdr) (n : Byte) (s : State) : Result := .next (request 0x10 1 h (stepBody n.toInt h.tag) s)

/-- GOTO's argument check and offer (R22). -/
def gotoBody (slot : Nat) (tag : Byte) (s : State) : Answer × State :=
  if 96 < slot then (.refused .badArg, s) else hostMove (.goto slot) tag s

/-- GOTO (R22, R17). -/
def execGoto (h : Hdr) (slot : Byte) (s : State) : Result := .next (request 0x11 1 h (gotoBody slot.toNat h.tag) s)

/-- The pause state after a PAUSE MOVE or a CONTINUE MOVE, as its reply carries it (R187). -/
def pauseData (s : State) : List Byte := [byte1 (pauseCode s.changer.pause)]

/-- PAUSE_MOVE (R40). -/
def execPauseMove (h : Hdr) (s : State) : Result :=
  .next (request 0x12 0 h (fun s => (.done (pauseData (pauseCycle s)), pauseCycle s)) s)

/-- CONTINUE_MOVE (R41). -/
def execContinueMove (h : Hdr) (s : State) : Result :=
  .next (request 0x13 0 h (fun s => (.done (pauseData (continueCycle s)), continueCycle s)) s)

/-- ABORT_MOVES (R42, R43). -/
def execAbortMoves (h : Hdr) (s : State) : Result := .next (request 0x14 0 h (doneBy abortAll) s)

/-- MARK_SLOT (R10). -/
def execMarkSlot (h : Hdr) (slot presence hold : Byte) (value : BitVec 16) (s : State) : Result :=
  .next (request 0x15 5 h (markSlotBody slot.toNat presence.toNat hold.toNat value.toNat) s)

/-- SET_MAP (R11, R159). -/
def execSetMap (h : Hdr) (num : Byte) (slots : SlotSet) (s : State) : Result :=
  .next (request 0x16 13 h
    (unlessRefused (setMapRefusal num.toNat) (fun s => { s with tray := putMap num.toNat slots s.tray })) s)

/-- GET_MAP (R11). -/
def execGetMap (h : Hdr) (num : Byte) (s : State) : Result := .next (request 0x17 1 h (getMapBody num.toNat) s)

/-- SELECT MAP's argument check (R12). -/
def badMap (num : Nat) (_ : State) : Option Reason := if 3 < num then some .badArg else none

/-- SELECT_MAP (R12). -/
def execSelectMap (h : Hdr) (num : Byte) (s : State) : Result :=
  .next (request 0x18 1 h
    (unlessRefused (badMap num.toNat) (fun s => { s with program.activeMap := num.toNat })) s)

/-- TRAY_CODE_CHANGE (R1 to R4). -/
def execTrayCodeChange (code : Fin 4) (s : State) : Result := .next (withThermal (trayCodeChanges code) s)

/-- INDEX_PULSE (R5 to R7, R18). -/
def execIndexPulse (mark : Bool) (s : State) : Result := .next (withThermal (indexPulseEvent mark) s)

/-- CYCLE_START (R20, R27; log 30). -/
def execCycleStart (s : State) : Result := .next (withThermal startReady s)

/-- SHUTTER_CLOSE_DONE (R28). -/
def execShutterCloseDone (s : State) : Result := .next (withThermal shutterCloses s)

/-- LIFT_DONE (R29). -/
def execLiftDone (s : State) : Result := .next (withThermal liftReported s)

/-- LIFT_TIMEOUT (R29, R37). -/
def execLiftTimeout (s : State) : Result := .next (liftExpires s)

/-- ROTATE_STALL_TIMEOUT (R30, R37). -/
def execRotateStallTimeout (s : State) : Result := .next (stallExpires s)

/-- DROP_PATH_REPORT (R31, R32). -/
def execDropPathReport (s : State) : Result := .next (dropReported s)

/-- DROP_TIMEOUT (R31, R33). -/
def execDropTimeout (s : State) : Result := .next (withThermal dropExpires s)

/-- SEAT_REPORT (R31, R9). -/
def execSeatReport (s : State) : Result := .next (seatReported s)

/-- SEAT_TIMEOUT (R31, R37). -/
def execSeatTimeout (s : State) : Result := .next (seatExpires s)

/-- SETTLE_DONE (R34, R35). -/
def execSettleDone (s : State) : Result := .next (withThermal settleEnds s)

end Sys2Proof.Machine
end

