-- ==== Sys2Proof/Machine/LampCommands.lean ====
section
/-! DEFINITION. The filament check (R58, R59), and the commands of the Lamp Drive and the Heat Monitor. -/

namespace Sys2Proof.Machine

/-- A strike by the host with its answer (R48). -/
def lampOnBody (s : State) : Answer × State := (answerOf (strike .request s).1, (strike .request s).2)

/-- LAMP_ON (R48). -/
def execLampOn (h : Hdr) (s : State) : Result := .next (request 0x20 0 h lampOnBody s)

/-- LAMP_OFF (R56). -/
def execLampOff (h : Hdr) (s : State) : Result :=
  .next (request 0x21 0 h (doneBy (withDarkTest (lampOffNow .request))) s)

/-- FADE's argument check (R52). -/
def badFade (level duration : Nat) (_ : State) : Option Reason :=
  if 1000 < level ∨ 6000 < duration then some .badArg else none

/-- FADE (R52). -/
def execFade (h : Hdr) (level duration : BitVec 16) (s : State) : Result :=
  .next (request 0x22 4 h
    (unlessRefused (badFade level.toNat duration.toNat) (withDarkTest (takeFade level.toNat duration.toNat))) s)

/-- SELECT LAMP (R61). -/
def selectLampBody (pos : Byte) (tag : Byte) (s : State) : Answer × State :=
  match lampPosArg pos.toNat with
  | none => (.refused .badArg, s)
  | some p =>
    if s.lamp.state = .preheat ∨ s.lamp.state = .lit ∨ s.lamp.state = .swapping then (.refused .busy, s)
    else if lampRec s.lamp p = .failed then (.refused .noLamp, s)
    else if s.lamp.active = p then (.done [], s)
    else
      (.accepted [], startSwap .request
        { newPos := p, auto := false, tag := some tag, restrike := false, resume := .value 0 } s)

/-- SELECT_LAMP (R61). -/
def execSelectLamp (h : Hdr) (pos : Byte) (s : State) : Result := .next (request 0x23 1 h (selectLampBody pos h.tag) s)

/-- MARK LAMP (R47). -/
def markLampBody (pos cond : Byte) (s : State) : Answer × State :=
  match lampPosArg pos.toNat, lampCondArg cond.toNat with
  | some p, some .good =>
    if s.lamp.state = .off ∨ s.lamp.state = .failed then (.done [], { s with lamp := setLampRec p .good s.lamp })
    else (.refused .busy, s)
  | _, _ => (.refused .badArg, s)

/-- MARK_LAMP (R47). -/
def execMarkLamp (h : Hdr) (pos cond : Byte) (s : State) : Result := .next (request 0x24 2 h (markLampBody pos cond) s)

/-- PREHEAT_END (R49). -/
def execPreheatEnd (s : State) : Result := .next (withThermal lampLights s)

/-! ### The filament check -/

/-- The resume level at an open filament (R59). -/
def resumeLevel (l : Lamp) : Level :=
  match l.fade with
  | some f => .value f.b
  | none => if l.state = .preheat then l.dest else .value l.ramp

/-- An open filament (R59): the record FAILED, the lamp dark with the answer to a waiting dark request, and then a swap or
FAILED with LAMP_OPEN. -/
def openFilament (s : State) : State :=
  let s1 := darkTest (recomputeD { s with
    lamp := { setLampRec s.lamp.active .failed s.lamp with fade := none, ramp := 0 } })
  if s.items.lampAutoChange ∧ lampRec s.lamp (otherPos s.lamp.active) ≠ .failed ∧ s.heat.power = .active
      ∧ ¬ powerDownRuns s.lamp ∧ ¬ s.lamp.restriking then
    startSwap .opened
      { newPos := otherPos s.lamp.active, auto := true, tag := none, restrike := true, resume := resumeLevel s.lamp } s1
  else sleepTest (raiseFault .lampOpen (some s.lamp.active) (reportLamp .opened (lampDark .failed s1)))

/-- The lamp current is sampled at this step event (R58). -/
def samplesNow (s : State) : Bool :=
  decide (s.lamp.state = .preheat ∨ s.lamp.state = .lit) && decide (120 ≤ s.lamp.drive)

/-- The filament sample of a step event: current present or absent (R58). -/
def filamentSample (present : Bool) (s : State) : State :=
  if samplesNow s then
    if present then
      let l := { s.lamp with openCount := 0 }
      { s with lamp := if lampRec l l.active = .unknown then setLampRec l.active .good l else l }
    else if s.lamp.openCount + 1 < 3 then { s with lamp.openCount := s.lamp.openCount + 1 }
    else openFilament s
  else s

/-- A step event of the fade engine: the fade, the dark test, the filament sample (R50, R54, R58). -/
def fadeStepEvent (current : Bool) (s : State) : State :=
  filamentSample current (darkTest (fadeAdvance s))

/-- FADE_STEP (R50, R58). -/
def execFadeStep (current : Bool) (s : State) : Result := .next (withThermal (fadeStepEvent current) s)

/-- SWAP_TRAVEL_END (R60, R61). -/
def execSwapTravelEnd (s : State) : Result := .next (withThermal swapEnds s)

/-- HEAT_UPDATE (R65). -/
def execHeatUpdate (reading : Option Int) (s : State) : Result := .next (heatUpdated reading s)

/-- FAN_STALL_TIMEOUT (R71). -/
def execFanStallTimeout (s : State) : Result := .next (withThermal fanStalls s)

/-- FAN_TACH_PULSE (R71). -/
def execFanTachPulse (s : State) : Result := .next (withThermal fanTach s)

/-- TCO_LINE_CHANGE (R74). -/
def execTcoLineChange (opened : Bool) (s : State) : Result := .next (tcoChanges opened s)

end Sys2Proof.Machine
end

