-- ==== Sys2Proof/Machine/TapeCommands.lean ====
section
/-! DEFINITION. The commands of the Transport, the Cue Decoder and the Cue Log. -/

namespace Sys2Proof.Machine

/-- PLAY (R91, R92). -/
def execPlay (h : Hdr) (s : State) : Result := .next (request 0x28 0 h (hostMotion .play h.tag) s)

/-- STOP (R91, R92). -/
def execStop (h : Hdr) (s : State) : Result := .next (request 0x29 0 h (hostMotion .stop h.tag) s)

/-- PAUSE (R91, R92). -/
def execPause (h : Hdr) (s : State) : Result := .next (request 0x2A 0 h (hostMotion .pause h.tag) s)

/-- REWIND (R91, R92). -/
def execRewind (h : Hdr) (s : State) : Result := .next (request 0x2B 0 h (hostMotion .rewind h.tag) s)

/-- WIND (R91, R92). -/
def execWind (h : Hdr) (s : State) : Result := .next (request 0x2C 0 h (hostMotion .wind h.tag) s)

/-- SEEK_COUNT (R101). -/
def execSeekCount (h : Hdr) (count : BitVec 16) (s : State) : Result :=
  .next (request 0x2D 2 h (hostSeek count.toNat h.tag) s)

/-- SEEK CUE's checks and effect (R137). -/
def seekCueBody (k : Nat) (s : State) : Answer × State :=
  match seekCueEntry k s with
  | .inl r => (.refused r, s)
  | .inr e => (.done [], takeSeekCue k e s)

/-- SEEK_CUE (R137). -/
def execSeekCue (h : Hdr) (index : BitVec 16) (s : State) : Result := .next (request 0x2E 2 h (seekCueBody index.toNat) s)

/-- SET_VOLUME (R104). -/
def execSetVolume (h : Hdr) (volume : Byte) (s : State) : Result :=
  .next (request 0x2F 1 h
    (fun s => (.done [byte1 (clampTo 0 63 volume.toNat)], writeVolume volume.toNat s)) s)

/-- SET CUE SOURCE (R117). -/
def setCueSourceBody (source : Byte) (s : State) : Answer × State :=
  match cueSourceArg source.toNat with
  | some c => (.done [], { s with items.cueSource := c })
  | none => (.refused .badArg, s)

/-- SET_CUE_SOURCE (R117). -/
def execSetCueSource (h : Hdr) (source : Byte) (s : State) : Result :=
  .next (request 0x30 1 h (setCueSourceBody source) s)

/-- The index an injected cue carries (R118). -/
def injectedIndex (kind : CueKind) (s : State) : Nat :=
  if isCounted kind then min 999 (s.program.cueIndex + 1) else s.program.cueIndex

/-- INJECT CUE (R118; log 13). -/
def injectCueBody (code : Byte) (s : State) : Answer × State :=
  match cueKindOfCode code.toNat with
  | none => (.refused .badArg, s)
  | some k =>
    if s.items.cueSource ≠ .host then (.refused .notPermitted, s)
    else if s.heat.power ≠ .active then (.refused .notActive, s)
    else (.done [], takeCue k .host (some (injectedIndex k s)) none s)

/-- INJECT_CUE (R118). -/
def execInjectCue (h : Hdr) (kind : Byte) (s : State) : Result := .next (request 0x31 1 h (injectCueBody kind) s)

/-- REFERENCE's check (R111). -/
def notPlaying (s : State) : Option Reason := if s.transport.state = .playing then none else some .notPermitted

/-- REFERENCE (R111). -/
def execReference (h : Hdr) (s : State) : Result :=
  .next (request 0x32 0 h (unlessRefused notPlaying (fun s => { s with decoder.snap := true })) s)

/-- READ_CUE_LOG (R128). -/
def execReadCueLog (h : Hdr) (start : BitVec 16) (s : State) : Result :=
  .next (request 0x37 2 h (readCueLogBody start.toNat) s)

/-- CLEAR_CUE_LOG (R127). -/
def execClearCueLog (h : Hdr) (s : State) : Result :=
  .next (request 0x38 0 h (doneBy (fun s => { s with cueLog.entries := [], cueLog.full := false })) s)

/-- CASSETTE_CHANGE (R90): an insertion or a removal taken after the switch has held its new value. -/
def execCassetteChange (present : Bool) (s : State) : Result :=
  .next (withThermal (if present then insertCassette else removeCassette) s)

/-- BRAKE_END (R93). -/
def execBrakeEnd (s : State) : Result := .next (withThermal brakeEnds s)

/-- REEL_TACH_PULSE (R94, R102, R134). -/
def execReelTachPulse (s : State) : Result := .next (withThermal reelPulse s)

/-- LEADER_CHANGE (R96, R97). -/
def execLeaderChange (present : Bool) (s : State) : Result := .next (withThermal (leaderChanges present) s)

/-- TAPE_STALL_TIMEOUT (R98). -/
def execTapeStallTimeout (s : State) : Result := .next (withThermal tapeStalls s)

/-- END_FADE_STEP (R105). -/
def execEndFadeStep (s : State) : Result := .next (withThermal endFadeAdvance s)

/-- ANALYSIS_FRAME (R109). -/
def execAnalysisFrame (l1 l2 l3 : Byte) (s : State) : Result := .next (withThermal (analyse l1 l2 l3) s)

/-- RELAY_OUT_FRAME_SENT (R120, R121). -/
def execRelayOutFrameSent (s : State) : Result := .next (relayFrameEnds s)

/-- RELAY_OUT_GAP_END (R121). -/
def execRelayOutGapEnd (s : State) : Result := .next (relayGapEnds s)

/-- RELAY_IN_FRAME (R122 to R124). -/
def execRelayInFrame (bits : BitVec 14) (s : State) : Result := .next (withThermal (relayFrameTaken bits) s)

/-- RELAY_IN_TIMING_ERROR (R122). -/
def execRelayInTimingError (s : State) : Result := .next (relayTimingError s)

/-- RELAY_IN_START_PULSE (R122). -/
def execRelayInStartPulse (s : State) : Result := .next (relayStartPulse s)

/-- RELAY_CONFLICT_TIMEOUT (R124). -/
def execRelayConflictTimeout (s : State) : Result := .next (conflictExpires s)

end Sys2Proof.Machine
end

