-- ==== Sys2Proof/Machine/ShowCommands.lean ====
section
/-! DEFINITION. The commands of the Cue Program, the Trace Buffer and the Remote Receiver. -/

namespace Sys2Proof.Machine

/-- WRITE_ENTRY, 3 + 5 bytes an action (R149). -/
def execWriteEntry (h : Hdr) (index : BitVec 16) (actions : List RawAction) (s : State) : Result :=
  .next (request 0x33 (3 + 5 * actions.length) h (writeEntryBody index.toNat actions) s)

/-- DELETE_ENTRY (R150). -/
def execDeleteEntry (h : Hdr) (index : BitVec 16) (s : State) : Result :=
  .next (request 0x34 2 h
    (unlessRefused (deleteRefusal index.toNat)
      (fun s => { s with program.table := dropEntry index.toNat s.program.table })) s)

/-- READ_ENTRY (R150). -/
def execReadEntry (h : Hdr) (index : BitVec 16) (mode : Byte) (s : State) : Result :=
  .next (request 0x35 3 h (readEntryBody index.toNat mode.toNat) s)

/-- CLEAR TABLE's refusal (R150). -/
def tableLocked (s : State) : Option Reason := if guarded s.program.protectTable s then some .locked else none

/-- CLEAR_TABLE (R150). -/
def execClearTable (h : Hdr) (s : State) : Result :=
  .next (request 0x36 0 h (unlessRefused tableLocked (fun s => { s with program.table := [] })) s)

/-- The checks of CHASE (R155). -/
def chaseRefusal (i : Nat) (s : State) : Option Reason :=
  if 999 < i then some .badArg
  else if s.heat.power ≠ .active then some .notActive
  else if ¬ traySeated s then some .noTray
  else if changerFault s then some .faultActive
  else none

/-- CHASE (R155 to R157). -/
def execChase (h : Hdr) (index : BitVec 16) (s : State) : Result :=
  .next (request 0x39 2 h (unlessRefused (chaseRefusal index.toNat) (runChase none index.toNat)) s)

/-- The checks of TIMER START (R153). -/
def timerRefusal (p : Nat) (s : State) : Option Reason :=
  if p < 10 ∨ 6000 < p then some .badArg else if s.heat.power ≠ .active then some .notActive else none

/-- TIMER_START (R153). -/
def execTimerStart (h : Hdr) (period : BitVec 16) (s : State) : Result :=
  .next (request 0x3A 2 h (unlessRefused (timerRefusal period.toNat) (startTimer period.toNat)) s)

/-- TIMER_STOP (R153). -/
def execTimerStop (h : Hdr) (s : State) : Result := .next (request 0x3B 0 h (doneBy stopTimer) s)

/-- HOLD (R151). -/
def execHold (h : Hdr) (s : State) : Result := .next (request 0x3C 0 h (doneBy takeHold) s)

/-- CONTINUE (R152). -/
def execContinueShow (h : Hdr) (s : State) : Result := .next (request 0x3D 0 h (doneBy continueHold) s)

/-- AUTO_ADVANCE_EXPIRY (R154). -/
def execAutoAdvanceExpiry (s : State) : Result := .next (withThermal timerExpires s)

/-- SET_TRACE_MODE (R177). -/
def execSetTraceMode (h : Hdr) (mode : Byte) (trigger : BitVec 16) (post : Byte) (s : State) : Result :=
  .next (request 0x60 4 h (setTraceModeBody mode.toNat trigger post.toNat) s)

/-- READ_TRACE (R181). -/
def execReadTrace (h : Hdr) (k : Byte) (s : State) : Result := .next (request 0x61 1 h (readTraceBody k.toNat) s)

/-- A protect flag set (R159). -/
def setProtect (g : Guarded) (p : Program) : Program :=
  match g with
  | .table => { p with protectTable := true }
  | .map1 => { p with protect1 := true }
  | .map2 => { p with protect2 := true }
  | .map3 => { p with protect3 := true }

/-- PROTECT's argument and effect (R159). -/
def protectBody (item : Byte) (s : State) : Answer × State :=
  match guardedArg item.toNat with
  | some g => (.done [], { s with program := setProtect g s.program })
  | none => (.refused .badArg, s)

/-- PROTECT (R159). -/
def execProtect (h : Hdr) (item : Byte) (s : State) : Result := .next (request 0x62 1 h (protectBody item) s)

/-- LOCKED while the SERVICE line is released (R159). -/
def serviceReleased (s : State) : Option Reason := if s.program.service then none else some .locked

/-- All four protect flags cleared (R159). -/
def clearProtects (s : State) : State :=
  { s with
    program.protectTable := false, program.protect1 := false, program.protect2 := false, program.protect3 := false }

/-- UNPROTECT (R159). -/
def execUnprotect (h : Hdr) (s : State) : Result := .next (request 0x63 0 h (unlessRefused serviceReleased clearProtects) s)

/-- LOCK (R158). -/
def lockBody (code : Byte) (s : State) : Answer × State :=
  match lockArg code.toNat with
  | none => (.refused .badArg, s)
  | some l =>
    if l = .opened ∧ s.program.lock ≠ .opened ∧ ¬ s.program.service then (.refused .locked, s)
    else (.done [], { s with program.lock := l })

/-- LOCK (R158). -/
def execLock (h : Hdr) (state : Byte) (s : State) : Result := .next (request 0x64 1 h (lockBody state) s)

/-- SERVICE_LINE_CHANGE (R158). -/
def execServiceLineChange (asserted : Bool) (s : State) : Result := .next { s with program.service := asserted }

/-- FOCUS_NUDGE (R173). -/
def execFocusNudge (h : Hdr) (dir : Byte) (duration : BitVec 16) (s : State) : Result :=
  .next (request 0x25 3 h (startNudge dir.toNat duration.toNat h.tag) s)

/-- IR_FRAME (R163). -/
def execIrFrame (bits : BitVec 16) (s : State) : Result := .next (withThermal (irFrameTaken bits) s)

/-- IR_LEADER (R162). -/
def execIrLeader (s : State) : Result := .next (irLeads s)

/-- IR_TIMING_ERROR (R162). -/
def execIrTimingError (leaderMark : Bool) (s : State) : Result := .next (irError leaderMark s)

/-- IR_RELEASE_TIMEOUT (R163, R86). -/
def execIrReleaseTimeout (s : State) : Result := .next (withThermal (release .ir) s)

/-- LADDER_BAND_CHANGE (R164); a band that is the stable band already is no change. -/
def execLadderBandChange (band : Band) (s : State) : Result :=
  .next (withThermal (fun s => if band = s.remote.stableBand then s else bandChanges band s) s)

/-- LADDER_SAMPLE (R164). -/
def execLadderSample (sample : BitVec 10) (s : State) : Result := .next (withThermal (ladderSampled sample.toNat) s)

/-- KEY_REPEAT (R167). -/
def execKeyRepeat (remote : Remote) (s : State) : Result := .next (withThermal (repeatKey remote) s)

/-- ENTRY_WINDOW_EXPIRY (R170). -/
def execEntryWindowExpiry (s : State) : Result := .next (withThermal entryExpires s)

/-- POWER_HOLD_TIMEOUT (R86). -/
def execPowerHoldTimeout (s : State) : Result := .next (withThermal powerHeldOn s)

/-- FOCUS_FAST (R171). -/
def execFocusFast (s : State) : Result := .next (focusSpeeds s)

/-- FOCUS_LIMIT (R172). -/
def execFocusLimit (dir : FocusDir) (asserted : Bool) (s : State) : Result := .next (limitChanges dir asserted s)

/-- NUDGE_END (R173). -/
def execNudgeEnd (s : State) : Result := .next (nudgeCompletes s)

end Sys2Proof.Machine
end

