-- ==== Sys2Proof/Machine/Clock.lean ====
section
/-! DEFINITION. One millisecond with no command waiting (log 2): the show clock and the running timers count. Their expiries
are commands of their own. -/

namespace Sys2Proof.Machine

/-- A running timer counts a millisecond; it is held at 65535. -/
def tickTimer (t : Option Nat) : Option Nat := t.map (fun n => min 65535 (n + 1))

/-- A held key's press and release times (R163, R167). -/
def tickHeld (h : Option Held) : Option Held :=
  h.map (fun k => { k with pressMs := min 65535 (k.pressMs + 1), releaseMs := min 65535 (k.releaseMs + 1) })

/-- The numeric-entry window (R169). -/
def tickEntry (e : Option NumericEntry) : Option NumericEntry :=
  e.map (fun n => { n with windowMs := min 65535 (n.windowMs + 1) })

/-- A nudge's time left (R173). -/
def tickFocus (f : FocusDrive) : FocusDrive :=
  match f with
  | .nudge dir tag left => .nudge dir tag (left - 1)
  | .idle => .idle
  | .key owner dir fast => .key owner dir fast

/-- The auto-advance timer counts down only in RUNNING (R153). -/
def tickRemaining (p : Program) : Nat := if p.timer = .running then p.remaining - 1 else p.remaining

/-- One millisecond. -/
def tick (s : State) : State :=
  { s with
    link.clock := s.link.clock + 1
    changer.window := tickTimer s.changer.window
    lamp.window := tickTimer s.lamp.window
    heat.stallTimer := tickTimer s.heat.stallTimer
    heat.updateTimer := tickTimer s.heat.updateTimer
    transport.brakeTimer := tickTimer s.transport.brakeTimer
    transport.stallTimer := tickTimer s.transport.stallTimer
    decoder.releaseTimer := tickTimer s.decoder.releaseTimer
    decoder.conflictTimer := s.decoder.conflictTimer.map (fun n => min 2000 (n + 1))
    program.remaining := tickRemaining s.program
    remote.irKey := tickHeld s.remote.irKey
    remote.wiredKey := tickHeld s.remote.wiredKey
    remote.entry := tickEntry s.remote.entry
    remote.focus := tickFocus s.remote.focus }

end Sys2Proof.Machine
end

