-- ==== Sys2Proof/Machine/Dispatch.lean ====
section
/-! DEFINITION. One arm per command, each one call of its meaning. -/

namespace Sys2Proof.Machine

/-- The effect of a command on everything but the queue of waiting commands. -/
def exec (i : Instr) (s : State) : Host.Outcome State Fault Refusal :=
  match i with
  | .powerOn pins => Sys2Proof.Machine.execPowerOn pins s
  | .resetLine pins => Sys2Proof.Machine.execResetLine pins s
  | .softReset service => Sys2Proof.Machine.execSoftReset service s
  | .linkByteTimeout => Sys2Proof.Machine.execLinkByteTimeout s
  | .frameReject kind tag checkOk => Sys2Proof.Machine.execFrameReject kind tag checkOk s
  | .frameOverrun => Sys2Proof.Machine.execFrameOverrun s
  | .frameSent => Sys2Proof.Machine.execFrameSent s
  | .identify h => Sys2Proof.Machine.execIdentify h s
  | .readStatus h => Sys2Proof.Machine.execReadStatus h s
  | .getItem h item => Sys2Proof.Machine.execGetItem h item s
  | .setItem h item value => Sys2Proof.Machine.execSetItem h item value s
  | .reset h => Sys2Proof.Machine.execReset h s
  | .faultClear h code => Sys2Proof.Machine.execFaultClear h code s
  | .setNoticeMask h mask => Sys2Proof.Machine.execSetNoticeMask h mask s
  | .powerMode h mode => Sys2Proof.Machine.execPowerMode h mode s
  | .step h n => Sys2Proof.Machine.execStep h n s
  | .goto h slot => Sys2Proof.Machine.execGoto h slot s
  | .pauseMove h => Sys2Proof.Machine.execPauseMove h s
  | .continueMove h => Sys2Proof.Machine.execContinueMove h s
  | .abortMoves h => Sys2Proof.Machine.execAbortMoves h s
  | .markSlot h slot presence hold value => Sys2Proof.Machine.execMarkSlot h slot presence hold value s
  | .setMap h num slots => Sys2Proof.Machine.execSetMap h num slots s
  | .getMap h num => Sys2Proof.Machine.execGetMap h num s
  | .selectMap h num => Sys2Proof.Machine.execSelectMap h num s
  | .lampOn h => Sys2Proof.Machine.execLampOn h s
  | .lampOff h => Sys2Proof.Machine.execLampOff h s
  | .fade h level duration => Sys2Proof.Machine.execFade h level duration s
  | .selectLamp h pos => Sys2Proof.Machine.execSelectLamp h pos s
  | .markLamp h pos cond => Sys2Proof.Machine.execMarkLamp h pos cond s
  | .focusNudge h dir duration => Sys2Proof.Machine.execFocusNudge h dir duration s
  | .play h => Sys2Proof.Machine.execPlay h s
  | .stop h => Sys2Proof.Machine.execStop h s
  | .pause h => Sys2Proof.Machine.execPause h s
  | .rewind h => Sys2Proof.Machine.execRewind h s
  | .wind h => Sys2Proof.Machine.execWind h s
  | .seekCount h count => Sys2Proof.Machine.execSeekCount h count s
  | .seekCue h index => Sys2Proof.Machine.execSeekCue h index s
  | .setVolume h volume => Sys2Proof.Machine.execSetVolume h volume s
  | .setCueSource h source => Sys2Proof.Machine.execSetCueSource h source s
  | .injectCue h kind => Sys2Proof.Machine.execInjectCue h kind s
  | .reference h => Sys2Proof.Machine.execReference h s
  | .writeEntry h index actions => Sys2Proof.Machine.execWriteEntry h index actions s
  | .deleteEntry h index => Sys2Proof.Machine.execDeleteEntry h index s
  | .readEntry h index mode => Sys2Proof.Machine.execReadEntry h index mode s
  | .clearTable h => Sys2Proof.Machine.execClearTable h s
  | .readCueLog h start => Sys2Proof.Machine.execReadCueLog h start s
  | .clearCueLog h => Sys2Proof.Machine.execClearCueLog h s
  | .chase h index => Sys2Proof.Machine.execChase h index s
  | .timerStart h period => Sys2Proof.Machine.execTimerStart h period s
  | .timerStop h => Sys2Proof.Machine.execTimerStop h s
  | .hold h => Sys2Proof.Machine.execHold h s
  | .continueShow h => Sys2Proof.Machine.execContinueShow h s
  | .setTraceMode h mode trigger post => Sys2Proof.Machine.execSetTraceMode h mode trigger post s
  | .readTrace h k => Sys2Proof.Machine.execReadTrace h k s
  | .protect h item => Sys2Proof.Machine.execProtect h item s
  | .unprotect h => Sys2Proof.Machine.execUnprotect h s
  | .lock h state => Sys2Proof.Machine.execLock h state s
  | .trayCodeChange code => Sys2Proof.Machine.execTrayCodeChange code s
  | .indexPulse mark => Sys2Proof.Machine.execIndexPulse mark s
  | .cycleStart => Sys2Proof.Machine.execCycleStart s
  | .shutterCloseDone => Sys2Proof.Machine.execShutterCloseDone s
  | .liftDone => Sys2Proof.Machine.execLiftDone s
  | .liftTimeout => Sys2Proof.Machine.execLiftTimeout s
  | .rotateStallTimeout => Sys2Proof.Machine.execRotateStallTimeout s
  | .dropPathReport => Sys2Proof.Machine.execDropPathReport s
  | .dropTimeout => Sys2Proof.Machine.execDropTimeout s
  | .seatReport => Sys2Proof.Machine.execSeatReport s
  | .seatTimeout => Sys2Proof.Machine.execSeatTimeout s
  | .settleDone => Sys2Proof.Machine.execSettleDone s
  | .preheatEnd => Sys2Proof.Machine.execPreheatEnd s
  | .fadeStep current => Sys2Proof.Machine.execFadeStep current s
  | .swapTravelEnd => Sys2Proof.Machine.execSwapTravelEnd s
  | .heatUpdate reading => Sys2Proof.Machine.execHeatUpdate reading s
  | .fanStallTimeout => Sys2Proof.Machine.execFanStallTimeout s
  | .fanTachPulse => Sys2Proof.Machine.execFanTachPulse s
  | .tcoLineChange opened => Sys2Proof.Machine.execTcoLineChange opened s
  | .cassetteChange present => Sys2Proof.Machine.execCassetteChange present s
  | .brakeEnd => Sys2Proof.Machine.execBrakeEnd s
  | .reelTachPulse => Sys2Proof.Machine.execReelTachPulse s
  | .leaderChange present => Sys2Proof.Machine.execLeaderChange present s
  | .tapeStallTimeout => Sys2Proof.Machine.execTapeStallTimeout s
  | .endFadeStep => Sys2Proof.Machine.execEndFadeStep s
  | .analysisFrame l1 l2 l3 => Sys2Proof.Machine.execAnalysisFrame l1 l2 l3 s
  | .relayOutFrameSent => Sys2Proof.Machine.execRelayOutFrameSent s
  | .relayOutGapEnd => Sys2Proof.Machine.execRelayOutGapEnd s
  | .relayInFrame bits => Sys2Proof.Machine.execRelayInFrame bits s
  | .relayInTimingError => Sys2Proof.Machine.execRelayInTimingError s
  | .relayConflictTimeout => Sys2Proof.Machine.execRelayConflictTimeout s
  | .autoAdvanceExpiry => Sys2Proof.Machine.execAutoAdvanceExpiry s
  | .serviceLineChange asserted => Sys2Proof.Machine.execServiceLineChange asserted s
  | .irFrame bits => Sys2Proof.Machine.execIrFrame bits s
  | .irReleaseTimeout => Sys2Proof.Machine.execIrReleaseTimeout s
  | .ladderBandChange band => Sys2Proof.Machine.execLadderBandChange band s
  | .keyRepeat remote => Sys2Proof.Machine.execKeyRepeat remote s
  | .entryWindowExpiry => Sys2Proof.Machine.execEntryWindowExpiry s
  | .powerHoldTimeout => Sys2Proof.Machine.execPowerHoldTimeout s
  | .focusFast => Sys2Proof.Machine.execFocusFast s
  | .focusLimit dir asserted => Sys2Proof.Machine.execFocusLimit dir asserted s
  | .nudgeEnd => Sys2Proof.Machine.execNudgeEnd s
  | .syncByte => Sys2Proof.Machine.execSyncByte s
  | .lengthByteAbove60 => Sys2Proof.Machine.execLengthByteAbove60 s
  | .replyReady place => Sys2Proof.Machine.execReplyReady place s
  | .irLeader => Sys2Proof.Machine.execIrLeader s
  | .irTimingError leaderMark => Sys2Proof.Machine.execIrTimingError leaderMark s
  | .relayInStartPulse => Sys2Proof.Machine.execRelayInStartPulse s
  | .ladderSample sample => Sys2Proof.Machine.execLadderSample sample s

end Sys2Proof.Machine
end

