-- ==== Sys2Proof/Safety.lean ====
section
/-! DEFINITION. What statements speak of: the laws of the device the specification states, as predicates of a state, and
the words the statements use for replies and frames. -/

namespace Sys2Proof.Machine

/-! ### Words for the link -/

/-- The state after a served request whose owner changed nothing: the receiver HUNTING, and the reply behind the others
(R184, R185). -/
def replied (kind tag : Byte) (payload : List Byte) (s : State) : State :=
  { s with
    link.receiving := false
    link.rxBuffer := []
    link.replies := s.link.replies ++ [{ kind := kind, tag := tag, payload := payload, ready := false }] }

/-- A request is served without a wake: a place is free in the reply order, and the part is not in SLEEP. -/
def servable (s : State) : Prop := awaiting s.link < 4 ∧ s.heat.power ≠ .sleep

/-- The newest reply of the order is this one, not yet ready (R185). -/
def lastReply (kind tag : Byte) (payload : List Byte) (t : State) : Prop :=
  t.link.replies.getLast? = some { kind := kind, tag := tag, payload := payload, ready := false }

/-! ### Frames -/

/-- The show's blocks stand as before: Transport, Cue Decoder, Cue Log, Cue Program. -/
def sameShow (s t : State) : Prop :=
  t.transport = s.transport ∧ t.decoder = s.decoder ∧ t.cueLog = s.cueLog ∧ t.program = s.program

/-- The blocks of slide and light stand as before: Tray Unit, Changer, Lamp Drive. -/
def sameSlides (s t : State) : Prop := t.tray = s.tray ∧ t.changer = s.changer ∧ t.lamp = s.lamp

/-- The items, the Remote Receiver, the input lines, the waiting commands and the count of free readings stand as before. -/
def sameRest (s t : State) : Prop :=
  t.items = s.items ∧ t.remote = s.remote ∧ t.lines = s.lines ∧ t.pending = s.pending ∧ t.lineReads = s.lineReads

/-- The active fault set, the notice mask and the show clock stand as before. -/
def sameFaults (s t : State) : Prop :=
  t.link.faults = s.link.faults ∧ t.link.mask = s.link.mask ∧ t.link.clock = s.link.clock

/-! ### Words for the moves -/

/-- Checks 2 to 4 of an offer pass: ACTIVE, a seated tray, no changer fault (R22). -/
def movesOpen (s : State) : Prop := s.heat.power = .active ∧ 0 < traySize s ∧ changerFault s = false

/-- No queued STEP takes a STEP of the host: the last entry is another source's, a GOTO, or full of tags (R23, R24). -/
def noMerge (s : State) : Prop :=
  ∀ e, s.changer.queue.getLast? = some e → e.source = .host → (∃ t, e.move = .goto t) ∨ 8 ≤ e.tags.length

/-- The entry of a host's move (R21). -/
def hostEntry (m : Move) (tag : Byte) : MoveEntry := { source := .host, move := m, tags := [tag], owner := none }

/-- The cycle of an entry with its target known (R27). -/
def cycleTo (e : MoveEntry) (mode : ChangeMode) (t : Nat) : Cycle :=
  { entry := e, mode := mode, target := some t, aborted := false, skipRotate := false, stopAtPulse := false }

/-! ### Words for the show -/

/-- What an action's code and arguments mean (chapter 11, cue table entry; R148). -/
def rawMeans (r : RawAction) : Action → Prop
  | .step n => r.code = 1 ∧ n = r.a.toInt ∧ n ≠ 0 ∧ -99 ≤ n ∧ n ≤ 99
  | .goto t => r.code = 2 ∧ t = r.a.toNat ∧ t ≤ 96
  | .fade level duration =>
    r.code = 3 ∧ level = r.a.toNat ∧ duration = r.b.toNat ∧ level ≤ 1000 ∧ duration ≤ 6000
  | .selectMap m => r.code = 4 ∧ m = r.a.toNat ∧ m ≤ 3
  | .timerStart p => r.code = 5 ∧ p = r.a.toNat ∧ 10 ≤ p ∧ p ≤ 6000
  | .timerStop => r.code = 6
  | .hold => r.code = 7
  | .notify tag => r.code = 8 ∧ tag = r.a.toNat ∧ tag ≤ 255

/-- The effective period in ms: the hold override of the slot in a LOADED gate, else the show's period (R153). -/
def periodMs (period : Option Nat) (s : State) : Nat :=
  match s.changer.gate, s.tray.position with
  | .loaded, some (p + 1) => ((s.tray.slots[p]?.bind (fun r => r.hold)).getD (period.getD 0)) * 100
  | _, _ => period.getD 0 * 100

/-! ### Item ranges (R189) -/

/-- The range of a numeric item by number (R189). -/
def itemRange (i : Items) : Nat → Option (Nat × Nat)
  | 4 => some (0, 200)
  | 5 | 6 => some (0, 6000)
  | 7 => some (20, 200)
  | 8 => some (0, i.darkThreshold - 1)
  | 11 => some (8, 63)
  | 12 => some (1024, 7680)
  | 13 => some (0, 600)
  | 14 => some (60, 1800)
  | 15 => some (0, 63)
  | 16 => some (0, 1000)
  | 18 | 19 | 20 => some (8, 200)
  | 21 => some (2, 20)
  | 22 => some (2, 40)
  | 23 => some (20, 400)
  | 26 => some (2, 64)
  | 28 => some (0, 500)
  | 30 => some (0, 250)
  | 31 => some (1, 96)
  | 32 => some (0, 7)
  | 34 => some (1, 63)
  | _ => none

/-- How many values an enumerated item has, by number (R189). -/
def itemValues : Nat → Option Nat
  | 1 | 2 | 3 | 9 | 10 | 17 | 25 | 27 | 29 | 33 => some 2
  | 24 => some 3
  | _ => none

/-! ### Laws of the device -/

/-- The trace buffer holds at most 64 records, and WATERMARK is set exactly while the count is at or above
TRACE_WATERMARK, an item of 1..63 (R176, R181). -/
def traceLaw (s : State) : Prop :=
  s.trace.records.length ≤ 64 ∧ 1 ≤ s.items.traceWatermark ∧ s.items.traceWatermark ≤ 63
    ∧ s.trace.watermark = decide (s.items.traceWatermark ≤ s.trace.records.length)

/-- At most 16 notices are queued, at most four requests await replies, and the fault word holds the twelve kinds
only (R190, R185, R191). -/
def linkLaw (s : State) : Prop :=
  s.link.notices.length ≤ 16 ∧ awaiting s.link ≤ 4 ∧ s.link.faults &&& 0xF000 = 0

/-- Every numeric item lies in its range, KEEP_WARM below DARK_THRESHOLD (R189, R53). -/
def itemsLaw (i : Items) : Prop :=
  i.strikeRamp ≤ 200 ∧ i.fadeOut ≤ 6000 ∧ i.fadeIn ≤ 6000 ∧ 20 ≤ i.darkThreshold ∧ i.darkThreshold ≤ 200
    ∧ i.keepWarm < i.darkThreshold ∧ 8 ≤ i.heatKin ∧ i.heatKin ≤ 63 ∧ 1024 ≤ i.coolMargin ∧ i.coolMargin ≤ 7680
    ∧ i.cooldownMin ≤ 600 ∧ 60 ≤ i.cooldownLimit ∧ i.cooldownLimit ≤ 1800 ∧ i.volume ≤ 63 ∧ i.endFade ≤ 1000
    ∧ 8 ≤ i.threshold1 ∧ i.threshold1 ≤ 200 ∧ 8 ≤ i.threshold2 ∧ i.threshold2 ≤ 200 ∧ 8 ≤ i.threshold3
    ∧ i.threshold3 ≤ 200 ∧ 2 ≤ i.cueQualify ∧ i.cueQualify ≤ 20 ∧ 2 ≤ i.cueGap ∧ i.cueGap ≤ 40 ∧ 20 ≤ i.cueMaxBurst
    ∧ i.cueMaxBurst ≤ 400 ∧ 2 ≤ i.matchWindow ∧ i.matchWindow ≤ 64 ∧ i.seekPreroll ≤ 500 ∧ i.loopCount ≤ 250
    ∧ 1 ≤ i.showStartSlot ∧ i.showStartSlot ≤ 96 ∧ i.irChannel ≤ 7 ∧ 1 ≤ i.traceWatermark ∧ i.traceWatermark ≤ 63

/-- What the Heat Monitor decides agrees with what it decides from: the drive level with R and the ceiling, the ceiling, zone,
permission and fan level with H, the cooldown record, the power state and the faults, and the two heat faults with the latch
and the line (R46, R70, R72 to R75). -/
def thermalLaw (s : State) : Prop :=
  s.lamp.drive = driveOf s.lamp s.heat.ceiling ∧ s.heat.ceiling = ceilingOf s ∧ s.heat.zone = zoneOf s.heat.estimate
    ∧ s.heat.allowed = strikeAllowed s ∧ s.heat.fan = fanLevelOf s
    ∧ hasFault .overtemp s = s.heat.latch ∧ hasFault .tcoOpen s = s.lines.tcoOpen

/-- H lies in 0..65535 and A in 0..20480, and the trip latch is set while H is at 85 °C or more (R65, R66, R73). -/
def heatLaw (s : State) : Prop :=
  s.heat.estimate ≤ 65535 ∧ s.heat.ambient ≤ 20480 ∧ (21760 ≤ s.heat.estimate → s.heat.latch = true)

/-- No lamp burns, or is being swapped in, in a position whose record is FAILED (R47, R48, R59 to R61). -/
def lampLaw (s : State) : Prop :=
  (s.lamp.state = .preheat ∨ s.lamp.state = .lit → lampRec s.lamp s.lamp.active ≠ .failed)
    ∧ (s.lamp.state = .swapping → ∀ w, s.lamp.swap = some w → lampRec s.lamp w.newPos ≠ .failed)

/-- The drive level never exceeds the ceiling, and is 0 under OVERTEMP or TCO_OPEN or with the active record FAILED
(R46). -/
def driveLaw (s : State) : Prop :=
  s.lamp.drive ≤ s.heat.ceiling
    ∧ (hasFault .overtemp s = true ∨ hasFault .tcoOpen s = true ∨ lampRec s.lamp s.lamp.active = .failed → s.lamp.drive = 0)

/-- With D above 0 the fan runs, and with the cooldown pending it runs at HIGH (R70). -/
def fanLaw (s : State) : Prop :=
  (0 < s.lamp.drive → s.heat.fan ≠ .off) ∧ (s.heat.cooling = true → s.heat.fan = .high)

/-- The part is in SLEEP only with the cooldown done, the lamp dark, the transport at rest and the changer idle, and a sleep is
pending in STANDBY only (R81, R82). -/
def sleepLaw (s : State) : Prop :=
  (s.heat.power = .sleep →
    s.heat.cooling = false ∧ s.lamp.drive = 0 ∧ (s.lamp.state = .off ∨ s.lamp.state = .failed)
      ∧ (s.transport.state = .stopped ∨ s.transport.state = .noTape) ∧ s.changer.stage = .idle)
    ∧ (s.heat.power ≠ .standby → s.heat.sleepPending = .clear)

/-- Program audio is muted, and no end fade stands, whenever the transport is not PLAYING (R104, R105). -/
def mutedLaw (s : State) : Prop :=
  s.transport.state ≠ .playing → s.transport.gain = 0 ∧ s.transport.endFade = .idle

/-- An action's arguments are in the ranges of R148. -/
def actionLaw : Action → Prop
  | .step n => n ≠ 0 ∧ -99 ≤ n ∧ n ≤ 99
  | .goto t => t ≤ 96
  | .fade level duration => level ≤ 1000 ∧ duration ≤ 6000
  | .selectMap m => m ≤ 3
  | .timerStart p => 10 ≤ p ∧ p ≤ 6000
  | .timerStop | .hold => True
  | .notify tag => tag ≤ 255

/-- An entry of the cue table: index 1..999, one to four actions with their arguments in range (R148). -/
def entryLaw (e : TableEntry) : Prop :=
  1 ≤ e.index ∧ e.index ≤ 999 ∧ 1 ≤ e.actions.length ∧ e.actions.length ≤ 4 ∧ ∀ a ∈ e.actions, actionLaw a

/-- The law of the cue table (R148). -/
def tableLaw (t : List TableEntry) : Prop :=
  t.length ≤ 240 ∧ poolUsed t ≤ 480 ∧ (t.map (fun e => e.index)).Pairwise (· < ·) ∧ ∀ e ∈ t, entryLaw e

/-- The law of the cue log: at most 512 entries in reel-count order, the counted ones numbered 1, 2, 3, … (R126). -/
def logLaw (log : List LogEntry) : Prop :=
  log.length ≤ 512 ∧ (log.map (fun e => e.reel)).Pairwise (· ≤ ·)
    ∧ log.filterMap (fun e => e.index) = List.range' 1 (countedEntries log).length
    ∧ ∀ e ∈ log, (e.index.isSome = isCounted e.kind) ∧ 1 ≤ e.seen ∧ e.seen ≤ 255

/-- The tray map has one record for each slot 1..N, and a known position lies in 0..N (R5, R8). -/
def trayLaw (s : State) : Prop :=
  s.tray.slots.length = traySize s ∧ ∀ p, s.tray.position = some p → p ≤ traySize s

/-- The law of the Changer: at most six moves wait, and none without a tray, where no cycle runs either; a cycle runs exactly
outside IDLE; the motor runs exactly in ROTATE and the arm exactly in LIFT; the pause is PAUSED only in PAUSED; and
nothing moves in the gate but behind a closed shutter or a held dark (R20, R21, R36, R40). -/
def changerLaw (s : State) : Prop :=
  s.changer.queue.length ≤ 6
    ∧ (traySize s = 0 → s.changer.queue = [] ∧ s.changer.stage = .idle)
    ∧ (s.changer.stage = .idle ↔ s.changer.cycle = none)
    ∧ (s.changer.motor.isSome ↔ s.changer.stage = .rotate)
    ∧ (s.changer.liftArm = true ↔ s.changer.stage = .lift)
    ∧ (s.changer.stage = .dark → ∀ c, s.changer.cycle = some c →
        (c.mode = .shutter → s.changer.shutterOpen = false) ∧ (c.mode = .dissolve → s.changer.claim = .requested))
    ∧ (s.changer.stage = .lift ∨ s.changer.stage = .rotate ∨ s.changer.stage = .drop ∨ s.changer.stage = .settle
        ∨ s.changer.stage = .paused → s.changer.shutterOpen = false ∨ s.changer.claim = .held)
    ∧ s.changer.stage ≠ .target ∧ s.changer.stage ≠ .light
    ∧ (s.changer.pause = .paused → s.changer.stage = .paused)

/-- The content a protect flag guards (R159): with the flag set, it is the same in both states. -/
def guardedKept (s t : State) : Prop :=
  (s.program.protectTable = true → t.program.table = s.program.table)
    ∧ (s.program.protect1 = true → t.tray.map1 = s.tray.map1)
    ∧ (s.program.protect2 = true → t.tray.map2 = s.tray.map2)
    ∧ (s.program.protect3 = true → t.tray.map3 = s.tray.map3)

/-- Every law above of a state, together, with the reel count in 16 bits (R89). -/
def everyLaw (s : State) : Prop :=
  traceLaw s ∧ linkLaw s ∧ itemsLaw s.items ∧ thermalLaw s ∧ lampLaw s ∧ sleepLaw s ∧ mutedLaw s
    ∧ tableLaw s.program.table ∧ logLaw s.cueLog.entries ∧ trayLaw s ∧ changerLaw s
    ∧ heatLaw s ∧ s.transport.reel ≤ 65535

/-- A command takes records out of the trace buffer: READ TRACE, a mode write, or a reset, the one after the DONE reply of a RESET
among them (R176). -/
def takesRecords (c : Instr) (s : State) : Prop :=
  match c with
  | .powerOn _ | .resetLine _ | .softReset _ | .readTrace _ _ | .setTraceMode _ _ _ _ => True
  | .frameSent => ∃ f, s.link.sending = some f ∧ isResetReply f = true
  | _ => False

/-- A reset by the supply or the RESET line. -/
def isHardReset : Instr → Bool
  | .powerOn _ | .resetLine _ => true
  | _ => false

/-- A heat-model update. -/
def isHeatUpdate : Instr → Bool
  | .heatUpdate _ => true
  | _ => false

end Sys2Proof.Machine
end

