-- ==== Sys2Proof/WellFormed.lean ====
section
/-! DEFINITION. The commands the link, the sensors and the lines can produce at all. `exec` does not read this: it gives
every command a meaning. -/

namespace Sys2Proof

/-- A frame's length byte is 0..60; a larger one ends the frame broken (R183, R184). -/
def Hdr.wf (h : Hdr) : Bool := decide (h.len.toNat ≤ 60)

/-- A kind byte of the Requests table (R187). -/
def requestKind (k : Byte) : Bool :=
  (decide (0x01 ≤ k.toNat) && decide (k.toNat ≤ 0x08)) || (decide (0x10 ≤ k.toNat) && decide (k.toNat ≤ 0x18))
    || (decide (0x20 ≤ k.toNat) && decide (k.toNat ≤ 0x25)) || (decide (0x28 ≤ k.toNat) && decide (k.toNat ≤ 0x3D))
    || (decide (0x60 ≤ k.toNat) && decide (k.toNat ≤ 0x64))

/-- The header of a request; none for an event. -/
def Instr.hdr : Instr → Option Hdr
  | .identify h | .readStatus h | .getItem h _ | .setItem h _ _ | .reset h | .faultClear h _ | .setNoticeMask h _
  | .powerMode h _ | .step h _ | .goto h _ | .pauseMove h | .continueMove h | .abortMoves h | .markSlot h _ _ _ _
  | .setMap h _ _ | .getMap h _ | .selectMap h _ | .lampOn h | .lampOff h | .fade h _ _ | .selectLamp h _ | .markLamp h _ _
  | .focusNudge h _ _ | .play h | .stop h | .pause h | .rewind h | .wind h | .seekCount h _ | .seekCue h _ | .setVolume h _
  | .setCueSource h _ | .injectCue h _ | .reference h | .writeEntry h _ _ | .deleteEntry h _ | .readEntry h _ _
  | .clearTable h | .readCueLog h _ | .clearCueLog h | .chase h _ | .timerStart h _ | .timerStop h | .hold h
  | .continueShow h | .setTraceMode h _ _ _ | .readTrace h _ | .protect h _ | .unprotect h | .lock h _ => some h
  | .powerOn _ | .resetLine _ | .softReset _ | .linkByteTimeout | .frameReject .. | .frameOverrun | .frameSent
  | .trayCodeChange _ | .indexPulse _ | .cycleStart | .shutterCloseDone | .liftDone | .liftTimeout | .rotateStallTimeout
  | .dropPathReport | .dropTimeout | .seatReport | .seatTimeout | .settleDone | .preheatEnd | .fadeStep _ | .swapTravelEnd
  | .heatUpdate _ | .fanStallTimeout | .fanTachPulse | .tcoLineChange _ | .cassetteChange _ | .brakeEnd | .reelTachPulse
  | .leaderChange _ | .tapeStallTimeout | .endFadeStep | .analysisFrame .. | .relayOutFrameSent | .relayOutGapEnd
  | .relayInFrame _ | .relayInTimingError | .relayConflictTimeout | .autoAdvanceExpiry | .serviceLineChange _ | .irFrame _
  | .irReleaseTimeout | .ladderBandChange _ | .keyRepeat _ | .entryWindowExpiry | .powerHoldTimeout | .focusFast
  | .focusLimit .. | .nudgeEnd | .syncByte | .lengthByteAbove60 | .replyReady _ | .irLeader | .irTimingError _
  | .relayInStartPulse | .ladderSample _ => none

/-- What goes beyond the header: a WRITE ENTRY has no more actions than 60 bytes hold (R183, R149), a rejected frame fails
its check or carries no request kind (R184), and at most four replies have a place (R185). -/
def Instr.operandsWf : Instr → Bool
  | .writeEntry _ _ actions => decide (3 + 5 * actions.length ≤ 60)
  | .frameReject kind _ checkOk => !checkOk || !requestKind kind
  | .replyReady place => decide (place < 4)
  | _ => true

/-- A well-formed command. -/
def Instr.wf (i : Instr) : Bool :=
  i.operandsWf &&
    match i.hdr with
    | some h => h.wf
    | none => true

end Sys2Proof
end

