-- ==== Sys2Proof/Certificates/Slice0/Obligations.lean ====
section
/-! DEFINITION. The statements for the provers. Each docstring names the rules it formalises. -/

open Sys2Proof Sys2Proof.Machine

/-! ### The step and every command -/

/-- A step takes the command at the front of the queue (the row's own rule for a block). The model's choices here: log
2. -/
def Obligations.StepRunsFrontCommand : Prop :=
  ∀ (c : Instr) (rest : List Instr) (s : State),
    Sys2Proof.Machine.step { s with pending := c :: rest } = Sys2Proof.Machine.exec c { s with pending := rest }

/-- With no command waiting, a step is one millisecond of the show clock; nothing but the clock and the running timers
moves: no timer starts or stops, a held key, a numeric entry and a nudge change in their times only, and a nudge's time
left and the RUNNING auto-advance timer count down. The tick is the model's choice (log 2). -/
def Obligations.IdleStepIsOneMillisecond : Prop :=
  ∀ s : State, s.pending = [] →
    ∃ t, Sys2Proof.Machine.step s = .next t ∧ t.link = { s.link with clock := s.link.clock + 1 } ∧ t.pending = []
      ∧ t.lineReads = s.lineReads
      ∧ t.items = s.items ∧ t.trace = s.trace ∧ t.tray = s.tray ∧ t.cueLog = s.cueLog ∧ t.lines = s.lines
      ∧ t.changer = { s.changer with window := t.changer.window }
      ∧ t.lamp = { s.lamp with window := t.lamp.window }
      ∧ t.heat = { s.heat with stallTimer := t.heat.stallTimer, updateTimer := t.heat.updateTimer }
      ∧ t.transport =
        { s.transport with brakeTimer := t.transport.brakeTimer, stallTimer := t.transport.stallTimer }
      ∧ t.decoder =
        { s.decoder with releaseTimer := t.decoder.releaseTimer, conflictTimer := t.decoder.conflictTimer }
      ∧ (t.changer.window = none ↔ s.changer.window = none) ∧ (t.lamp.window = none ↔ s.lamp.window = none)
      ∧ (t.heat.stallTimer = none ↔ s.heat.stallTimer = none) ∧ (t.heat.updateTimer = none ↔ s.heat.updateTimer = none)
      ∧ (t.transport.brakeTimer = none ↔ s.transport.brakeTimer = none)
      ∧ (t.transport.stallTimer = none ↔ s.transport.stallTimer = none)
      ∧ (t.decoder.releaseTimer = none ↔ s.decoder.releaseTimer = none)
      ∧ (t.decoder.conflictTimer = none ↔ s.decoder.conflictTimer = none)
      ∧ (∀ n, n < 2000 → (s.changer.window = some n → t.changer.window = some (n + 1))
        ∧ (s.lamp.window = some n → t.lamp.window = some (n + 1))
        ∧ (s.heat.stallTimer = some n → t.heat.stallTimer = some (n + 1))
        ∧ (s.heat.updateTimer = some n → t.heat.updateTimer = some (n + 1))
        ∧ (s.transport.brakeTimer = some n → t.transport.brakeTimer = some (n + 1))
        ∧ (s.transport.stallTimer = some n → t.transport.stallTimer = some (n + 1))
        ∧ (s.decoder.releaseTimer = some n → t.decoder.releaseTimer = some (n + 1))
        ∧ (s.decoder.conflictTimer = some n → t.decoder.conflictTimer = some (n + 1)))
      ∧ t.remote = { s.remote with
          irKey := t.remote.irKey, wiredKey := t.remote.wiredKey, entry := t.remote.entry, focus := t.remote.focus }
      ∧ t.remote.irKey = s.remote.irKey.map (fun k =>
          { k with pressMs := min 65535 (k.pressMs + 1), releaseMs := min 65535 (k.releaseMs + 1) })
      ∧ t.remote.wiredKey = s.remote.wiredKey.map (fun k =>
          { k with pressMs := min 65535 (k.pressMs + 1), releaseMs := min 65535 (k.releaseMs + 1) })
      ∧ t.remote.entry = s.remote.entry.map (fun e => { e with windowMs := min 65535 (e.windowMs + 1) })
      ∧ (∀ d tag left, s.remote.focus = .nudge d tag left → t.remote.focus = .nudge d tag (left - 1))
      ∧ ((∀ d tag left, s.remote.focus ≠ .nudge d tag left) → t.remote.focus = s.remote.focus)
      ∧ t.program = { s.program with remaining := t.program.remaining }
      ∧ t.program.remaining = (if s.program.timer = .running then s.program.remaining - 1 else s.program.remaining)

/-- No command touches the queue of waiting commands, and none stops the machine. -/
def Obligations.CommandsCompleteAndLeaveTheQueue : Prop :=
  ∀ (c : Instr) (s : State), ∃ t, Sys2Proof.Machine.exec c s = .next t ∧ t.pending = s.pending

/-! ### Link Interface -/

/-- R184: the receiver begins at a sync byte while HUNTING, and a gap or a length byte above 60 ends the frame broken.
The model's choices here: logs 1, 3. -/
def Obligations.ReceiverHuntsAndReceives : Prop :=
  ∀ s : State,
    (s.link.receiving = false →
      Sys2Proof.Machine.exec .syncByte s =
          .next { s with link.receiving := true, link.rxBuffer := [(0xC3 : Byte)] }
        ∧ Sys2Proof.Machine.exec .linkByteTimeout s = .next s
        ∧ Sys2Proof.Machine.exec .lengthByteAbove60 s = .next s)
    ∧ (s.link.receiving = true →
      Sys2Proof.Machine.exec .syncByte s = .next s
        ∧ Sys2Proof.Machine.exec .linkByteTimeout s = .next { s with link.receiving := false, link.rxBuffer := [] }
        ∧ Sys2Proof.Machine.exec .lengthByteAbove60 s = .next { s with link.receiving := false, link.rxBuffer := [] })

/-- R184: a complete frame that fails its check, or whose kind is no request kind, gets a REJECT reply of three bytes,
and the part is not woken: nothing else changes. A good frame of a request kind is no frame to reject, and with less
than four requests awaited no frame is a fifth: the two events then change nothing. R185: a complete frame of any kind
that arrives while four requests await replies is discarded, and OVERRUN is set. R184: a request whose length byte is
not the length its kind takes is refused BAD_ARG, and nothing else happens. Stated for each of the twenty requests
without a payload. The model's choices here: logs 3, 36. -/
def Obligations.CompleteFramesMeetTheirChecks : Prop :=
  (∀ (kind tag : Byte) (s : State), awaiting s.link < 4 →
      Sys2Proof.Machine.exec (.frameReject kind tag false) s = .next (replied 0xFF tag [2, 1, kind] s)
      ∧ (requestKind kind = false →
          Sys2Proof.Machine.exec (.frameReject kind tag true) s = .next (replied 0xFF tag [2, 2, kind] s))
      ∧ (requestKind kind = true → Sys2Proof.Machine.exec (.frameReject kind tag true) s = .next s)
      ∧ Sys2Proof.Machine.exec .frameOverrun s = .next s)
  ∧ (∀ s : State, 4 ≤ awaiting s.link →
      Sys2Proof.Machine.exec .frameOverrun s =
          .next { s with link.receiving := false, link.rxBuffer := [], link.overrun := true }
      ∧ (∀ (kind tag : Byte) (ok : Bool), Sys2Proof.Machine.exec (.frameReject kind tag ok) s =
          .next { s with link.receiving := false, link.rxBuffer := [], link.overrun := true })
      ∧ (∀ (c : Instr) (h : Hdr), c.hdr = some h → Sys2Proof.Machine.exec c s =
          .next { s with link.receiving := false, link.rxBuffer := [], link.overrun := true }))
  ∧ (∀ (h : Hdr) (s : State), servable s → h.len ≠ 0 → ∀ (c : Instr) (kind : Byte),
      (c, kind) ∈ ([(.identify h, 0x81), (.readStatus h, 0x82), (.reset h, 0x85), (.pauseMove h, 0x92),
        (.continueMove h, 0x93), (.abortMoves h, 0x94), (.lampOn h, 0xA0), (.lampOff h, 0xA1), (.play h, 0xA8), (.stop h, 0xA9),
        (.pause h, 0xAA), (.rewind h, 0xAB), (.wind h, 0xAC), (.reference h, 0xB2), (.clearTable h, 0xB6),
        (.clearCueLog h, 0xB8), (.timerStop h, 0xBB), (.hold h, 0xBC), (.continueShow h, 0xBD), (.unprotect h, 0xE3)]
        : List (Instr × Byte)) →
      Sys2Proof.Machine.exec c s = .next (replied kind h.tag [2, 3] s))

/-- R185: a reply that becomes ready starts at once on a free transmitter if it is the oldest, and waits for a busy one.
R185: when a frame has been sent, the oldest reply goes next if it is ready; with no reply awaited, the oldest notice.
Stated for every frame but the DONE reply of a RESET. R183: the bytes of a reply or notice frame after the sync byte sum
to 0 mod 256, its length byte tells its payload, and it has 5 more bytes than that. The model's choices here: log 5. -/
def Obligations.RepliesAndNoticesAreSent : Prop :=
  (∀ (r : ReplyEntry) (rs : List ReplyEntry) (s : State), s.link.replies = r :: rs →
      (s.link.sending = none → Sys2Proof.Machine.exec (.replyReady 0) s =
        .next { s with link.sending := some (replyFrame { r with ready := true }), link.replies := rs })
      ∧ (∀ f, s.link.sending = some f → Sys2Proof.Machine.exec (.replyReady 0) s =
        .next { s with link.replies := { r with ready := true } :: rs }))
  ∧ (∀ (f : TxFrame) (s : State), s.link.sending = some f →
      f.isReply = false ∨ f.bytes[1]? ≠ some 0x85 ∨ f.bytes[4]? ≠ some 0 →
      (∀ (r : ReplyEntry) (rs : List ReplyEntry), s.link.replies = r :: rs →
        Sys2Proof.Machine.exec .frameSent s =
          .next (if r.ready then { s with link.sending := some (replyFrame r), link.replies := rs }
            else { s with link.sending := none }))
      ∧ (s.link.replies = [] → ∀ (n : Notice) (ns : List Notice), s.link.notices = n :: ns →
        Sys2Proof.Machine.exec .frameSent s = .next { s with link.sending := some (noticeFrame n), link.notices := ns })
      ∧ (s.link.replies = [] → s.link.notices = [] →
        Sys2Proof.Machine.exec .frameSent s = .next { s with link.sending := none }))
  ∧ (∀ (kind tag : Byte) (payload : List Byte), payload.length ≤ 60 →
      ((frameBytes kind tag payload).drop 1).foldl (· + ·) 0 = 0
      ∧ (frameBytes kind tag payload).length = 5 + payload.length
      ∧ (frameBytes kind tag payload).take 4 = [0xC3, kind, tag, BitVec.ofNat 8 payload.length]
      ∧ ((frameBytes kind tag payload).drop 4).take payload.length = payload)

/-- R190: giving a notice sets its pending flag; a notice of an enabled kind joins a queue of at most 16 as its newest,
or is dropped with NOTICES_LOST; a busy transmitter takes none of them now. -/
def Obligations.NoticesQueueOrAreLost : Prop :=
  ∀ (n : Notice) (s : State), s.link.sending ≠ none →
    (give n s).link =
      { s.link with
        flags := s.link.flags ||| BitVec.twoPow 24 (noticeBit n)
        notices := if s.link.mask.getLsbD (noticeBit n) ∧ s.link.notices.length < 16 then s.link.notices ++ [n]
          else s.link.notices
        noticesLost := s.link.noticesLost
          || (s.link.mask.getLsbD (noticeBit n) && decide (16 ≤ s.link.notices.length)) }
    ∧ give n s = { s with link := (give n s).link }

/-- R191: a raising of a kind already in the set changes nothing; another puts exactly that kind in, at its bit of the
fault word, and a clearing takes exactly it out, each with its FAULT notice and its trace record; every block but the
link and the trace stands. The notice is stated with the trace OFF, the record in RING. That a clearing of LAMP_OPEN
carries no lamp position is the model's choice (log 62). -/
def Obligations.FaultSetHoldsEachKindOnce : Prop :=
  [FaultKind.jamLift, .jamDrop, .rotateStall, .trayCode, .lampOpen, .overtemp, .tcoOpen, .fanStall, .ambientSensor, .tapeStall,
    .stuckTone, .relayConflict].map faultCode = [1, 2, 3, 4, 5, 6, 7, 8, 9, 10, 11, 12]
  ∧ (∀ f, isSticky f = true ↔
    f = .jamLift ∨ f = .jamDrop ∨ f = .rotateStall ∨ f = .lampOpen ∨ f = .tapeStall)
  ∧ ∀ (f : FaultKind) (pos : Option LampPos) (s : State),
    (hasFault f s = s.link.faults.getLsbD (faultCode f - 1))
    ∧ (hasFault f s = true → raiseFault f pos s = s) ∧ (hasFault f s = false → clearFault f s = s)
    ∧ hasFault f (raiseFault f pos s) = true ∧ hasFault f (clearFault f s) = false
    ∧ (∀ g, g ≠ f → hasFault g (raiseFault f pos s) = hasFault g s ∧ hasFault g (clearFault f s) = hasFault g s)
    ∧ (∃ l t, raiseFault f pos s = { s with link := l, trace := t })
    ∧ (∃ l t, clearFault f s = { s with link := l, trace := t })
    ∧ (s.trace.mode = .off →
      (hasFault f s = false → raiseFault f pos s = give (.fault f true pos) { s with
          link.faults := s.link.faults ||| BitVec.twoPow 16 (faultCode f - 1) })
      ∧ (hasFault f s = true → clearFault f s = give (.fault f false none) { s with
          link.faults := s.link.faults &&& ~~~(BitVec.twoPow 16 (faultCode f - 1)) }))
    ∧ (s.trace.mode = .ring → s.trace.records.length < 64 →
      (hasFault f s = false → (raiseFault f pos s).trace.records =
        s.trace.records ++ [{ stamp := s.link.clock, body := .faultRaised f pos }])
      ∧ (hasFault f s = true → (clearFault f s).trace.records =
        s.trace.records ++ [{ stamp := s.link.clock, body := .faultCleared f none }]))

/-- R188, R190: IDENTIFY, READ STATUS and SET NOTICE MASK, whole. READ STATUS returns the 40 bytes of chapter 11's
layout, stated byte by byte and bit by bit, and clears the flags in the same instant. R189: GET ITEM answers an item's
value without changing anything, and is refused BAD_ARG for a number outside 1..34. The model's choices here: logs 9,
10, 11, 12, 70. -/
def Obligations.IdentityStatusMaskAndItems : Prop :=
  (∀ (h : Hdr) (mask : BitVec 24) (s : State), servable s →
      (h.len = 0 → Sys2Proof.Machine.exec (.identify h) s =
        .next (replied 0x81 h.tag [0, 0x4F, 0x5A, 0x2D, 0x34, 0x31, 0x38, Config.siliconRevision, 1] s))
      ∧ (h.len = 0 → Sys2Proof.Machine.exec (.readStatus h) s =
        .next { replied 0x82 h.tag (0 :: statusRecord s) s with
          link.flags := 0, link.noticesLost := false, link.overrun := false })
      ∧ (statusRecord s).length = 40
      ∧ (∀ (r : List Byte) (at_ : Nat → Byte), r = statusRecord s → (∀ i, at_ i = r.getD i 0) →
        (at_ 0).extractLsb' 0 2 = (match s.heat.power with | .active => 0 | .standby => 1 | .sleep => 2)
        ∧ (at_ 0).getLsbD 2 = decide (s.heat.sleepPending ≠ .clear) ∧ (at_ 0).getLsbD 3 = decide (s.program.lock = .exhibit)
        ∧ (at_ 0).getLsbD 4 = s.program.protectTable ∧ (at_ 0).getLsbD 5 = s.program.protect1
        ∧ (at_ 0).getLsbD 6 = s.program.protect2 ∧ (at_ 0).getLsbD 7 = s.program.protect3
        ∧ (at_ 1).extractLsb' 0 3 =
          (match s.lamp.state with | .off => 0 | .preheat => 1 | .lit => 2 | .swapping => 3 | .failed => 4)
        ∧ (at_ 1).getLsbD 3 = decide (s.lamp.active = .b)
        ∧ (at_ 1).extractLsb' 4 2 = (match s.lamp.recA with | .unknown => 0 | .good => 1 | .failed => 2)
        ∧ (at_ 1).extractLsb' 6 2 = (match s.lamp.recB with | .unknown => 0 | .good => 1 | .failed => 2)
        ∧ (r.drop 2).take 12 = [s.lamp.ramp, s.lamp.show_, s.lamp.drive, s.heat.ceiling, s.heat.estimate,
            s.heat.ambient].flatMap (fun n => [BitVec.ofNat 8 (n / 256), BitVec.ofNat 8 n])
        ∧ (at_ 14).extractLsb' 0 2 = (match s.heat.fan with | .off => 0 | .low => 1 | .medium => 2 | .high => 3)
        ∧ (at_ 14).getLsbD 2 = s.heat.cooling
        ∧ (at_ 14).extractLsb' 3 2 = (match s.heat.zone with | .full => 0 | .derate => 1 | .trip => 2)
        ∧ (at_ 14).getLsbD 5 = s.heat.allowed
        ∧ (at_ 15).extractLsb' 0 2 = BitVec.ofFin s.tray.code
        ∧ (at_ 15).extractLsb' 2 2 = (match s.changer.gate with | .unknown => 0 | .empty => 1 | .loaded => 2)
        ∧ (at_ 15).extractLsb' 4 2 = (match s.changer.pause with | .clear => 0 | .pending => 1 | .paused => 2)
        ∧ at_ 16 = (if s.tray.code = 1 then 48 else if s.tray.code = 2 then 96 else 0)
        ∧ at_ 17 = BitVec.ofNat 8 (s.tray.position.getD 255)
        ∧ (at_ 18).extractLsb' 0 4 = (match s.changer.stage with
          | .idle => 0 | .target => 1 | .dark => 2 | .lift => 3 | .rotate => 4 | .drop => 5 | .settle => 6 | .light => 7
          | .paused => 8)
        ∧ (at_ 18).extractLsb' 4 4 = BitVec.ofNat 4 s.changer.queue.length
        ∧ (at_ 19).extractLsb' 0 3 = (match s.transport.state with
          | .noTape => 0 | .stopped => 1 | .playing => 2 | .paused => 3 | .rewinding => 4 | .winding => 5 | .stopping => 6)
        ∧ (at_ 19).getLsbD 3 = s.transport.zeroKnown
        ∧ (at_ 19).extractLsb' 4 2 = (match s.items.cueSource with | .tape => 0 | .line => 1 | .host => 2)
        ∧ (r.drop 20).take 4 = [s.transport.reel, s.program.cueIndex].flatMap
            (fun n => [BitVec.ofNat 8 (n / 256), BitVec.ofNat 8 n])
        ∧ (s.program.activeMap ≤ 3 → (at_ 24).extractLsb' 0 2 = BitVec.ofNat 2 s.program.activeMap
          ∧ (at_ 24).getLsbD 2 = s.program.hold.isSome
          ∧ (at_ 24).extractLsb' 3 2 = (match s.program.timer with | .stopped => 0 | .running => 1 | .paused => 2))
        ∧ at_ 25 = BitVec.ofNat 8 s.program.loops
        ∧ (at_ 26).extractLsb' 0 3 =
          (match s.trace.mode with | .off => 0 | .fill => 1 | .ring => 2 | .ringFreeze => 3 | .waitRing => 4)
        ∧ (at_ 26).getLsbD 3 = s.trace.full ∧ (at_ 26).getLsbD 4 = s.trace.overwritten
        ∧ (at_ 26).getLsbD 5 = s.trace.frozen ∧ (at_ 26).getLsbD 6 = s.trace.watermark
        ∧ at_ 27 = BitVec.ofNat 8 s.trace.records.length
        ∧ (at_ 28 ++ at_ 29 : BitVec 16) = s.link.faults ∧ (at_ 30 ++ at_ 31 ++ at_ 32 : BitVec 24) = s.link.flags
        ∧ (at_ 33).getLsbD 0 = s.link.noticesLost ∧ (at_ 33).getLsbD 1 = s.link.overrun
        ∧ (at_ 33).getLsbD 2 = s.cueLog.full
        ∧ (r.drop 34).take 2 = [BitVec.ofNat 8 (s.decoder.rejects / 256), BitVec.ofNat 8 s.decoder.rejects]
        ∧ (at_ 36 ++ at_ 37 ++ at_ 38 ++ at_ 39 : BitVec 32) = s.link.clock)
      ∧ (h.len = 3 → Sys2Proof.Machine.exec (.setNoticeMask h mask) s =
        .next { replied 0x87 h.tag
            [0, BitVec.ofNat 8 (mask.toNat / 65536), BitVec.ofNat 8 (mask.toNat / 256), BitVec.ofNat 8 mask.toNat] s with
          link.mask := mask }))
  ∧ (∀ (h : Hdr) (item : Byte) (s : State), servable s → h.len = 1 →
      (1 ≤ item.toNat ∧ item.toNat ≤ 34 →
        ∃ v, itemValue s.items item.toNat = some v ∧ Sys2Proof.Machine.exec (.getItem h item) s =
          .next (replied 0x83 h.tag [0, item, BitVec.ofNat 8 (v / 256), BitVec.ofNat 8 v] s))
      ∧ (item.toNat = 0 ∨ 34 < item.toNat →
        Sys2Proof.Machine.exec (.getItem h item) s = .next (replied 0x83 h.tag [2, 3] s)))

/-- R189: a SET ITEM of a numeric item writes the value clamped to the item's range and answers it; every other item
keeps its value, but for KEEP_WARM under a DARK_THRESHOLD write (R53). R189: a SET ITEM of an enumerated item writes one
of its codes and answers it, and is refused BAD_ARG with nothing changed for another code or for a number outside 1..34.
The model's choices here: logs 12, 70. -/
def Obligations.SetItemWritesOrRefuses : Prop :=
  (∀ (h : Hdr) (item : Byte) (value : BitVec 16) (lo hi : Nat) (s : State), servable s → h.len = 3 →
      itemRange s.items item.toNat = some (lo, hi) → 1 ≤ s.items.darkThreshold →
      ∃ t, Sys2Proof.Machine.exec (.setItem h item value) s = .next t
        ∧ itemValue t.items item.toNat = some (clampTo lo hi value.toNat)
        ∧ lastReply 0x84 h.tag [0, item, BitVec.ofNat 8 (clampTo lo hi value.toNat / 256),
            BitVec.ofNat 8 (clampTo lo hi value.toNat)] t
        ∧ (∀ m, m ≠ item.toNat → ¬ (item.toNat = 7 ∧ m = 8) → itemValue t.items m = itemValue s.items m)
        ∧ (item.toNat = 7 → t.items.keepWarm = min s.items.keepWarm (clampTo lo hi value.toNat - 1)))
  ∧ (∀ (h : Hdr) (item : Byte) (value : BitVec 16) (s : State), servable s → h.len = 3 →
      (∀ k, itemValues item.toNat = some k → value.toNat < k →
        ∃ t, Sys2Proof.Machine.exec (.setItem h item value) s = .next t
          ∧ itemValue t.items item.toNat = some value.toNat
          ∧ lastReply 0x84 h.tag [0, item, 0, BitVec.ofNat 8 value.toNat] t
          ∧ ∀ m, m ≠ item.toNat → itemValue t.items m = itemValue s.items m)
      ∧ ((∃ k, itemValues item.toNat = some k ∧ k ≤ value.toNat) ∨ item.toNat = 0 ∨ 34 < item.toNat →
        Sys2Proof.Machine.exec (.setItem h item value) s = .next (replied 0x84 h.tag [2, 3] s)))

/-- R192: FAULT CLEAR of a sticky fault that stands takes exactly that fault out of the set, with the Changer IDLE for a
changer fault and no FAILED active record in the way of LAMP_OPEN; the reply carries the fault word after. A changer
fault leaves the gate UNKNOWN (R38), LAMP_OPEN a FAILED lamp OFF (R62). Premises that shut out states no run reaches: a
pending sleep does not meet its conditions yet (R83), no move waits under a changer fault (R37), and a FAILED lamp has D
= 0 and no dark request waiting (R46, R54). R192: FAULT CLEAR of a sticky fault that does not stand is DONE and changes
nothing. With 0 it clears each sticky fault that stands, but LAMP_OPEN under a FAILED active record, and no other. R192:
the refusals of FAULT CLEAR leave everything but the reply as it was: another value, a self-clearing fault, a changer
fault or all faults while a cycle runs, LAMP_OPEN under a FAILED active record. The model's choices here: log 40. -/
def Obligations.FaultClearByItsRule : Prop :=
  (∀ (h : Hdr) (f : FaultKind) (s : State), servable s → h.len = 1 → isSticky f = true → hasFault f s = true →
      (isChangerFault f = true → s.changer.stage = .idle ∧ s.changer.queue = []) →
      (f = .lampOpen → lampRec s.lamp s.lamp.active ≠ .failed ∧ s.lamp.darkWaiting = false
        ∧ (s.lamp.state = .failed → s.lamp.drive = 0) ∧ (s.heat.sleepPending = .clear ∨ sleepConditions s = false)) →
      ∃ t, Sys2Proof.Machine.exec (.faultClear h (BitVec.ofNat 8 (faultCode f))) s = .next t
        ∧ t.link.faults = s.link.faults &&& ~~~(BitVec.twoPow 16 (faultCode f - 1))
        ∧ lastReply 0x86 h.tag
            [0, BitVec.ofNat 8 (t.link.faults.toNat / 256), BitVec.ofNat 8 t.link.faults.toNat] t
        ∧ t.changer = { s.changer with gate := if isChangerFault f then .unknown else s.changer.gate }
        ∧ t.lamp = (if f = .lampOpen ∧ s.lamp.state = .failed
            then { s.lamp with
              state := .off, ramp := 0, fade := none, swap := none, restriking := false, openCount := 0, window := none }
            else s.lamp)
        ∧ t.tray = s.tray ∧ t.heat = s.heat ∧ sameShow s t ∧ sameRest s t)
  ∧ (∀ (h : Hdr) (s : State), servable s → h.len = 1 →
      (∀ f, isSticky f = true → hasFault f s = false → (isChangerFault f = true → s.changer.stage = .idle) →
        Sys2Proof.Machine.exec (.faultClear h (BitVec.ofNat 8 (faultCode f))) s =
          .next (replied 0x86 h.tag
            [0, BitVec.ofNat 8 (s.link.faults.toNat / 256), BitVec.ofNat 8 s.link.faults.toNat] s))
      ∧ (s.changer.stage = .idle → s.changer.queue = [] → s.lamp.darkWaiting = false →
        (s.lamp.state = .failed → s.lamp.drive = 0) → s.heat.sleepPending = .clear ∨ sleepConditions s = false →
        ∃ t, Sys2Proof.Machine.exec (.faultClear h 0) s = .next t
          ∧ (∀ f, hasFault f t = (hasFault f s && !(isSticky f
              && !(decide (f = .lampOpen) && decide (lampRec s.lamp s.lamp.active = .failed)))))
          ∧ lastReply 0x86 h.tag
              [0, BitVec.ofNat 8 (t.link.faults.toNat / 256), BitVec.ofNat 8 t.link.faults.toNat] t
          ∧ t.changer = { s.changer with gate := if changerFault s then .unknown else s.changer.gate }
          ∧ t.tray = s.tray ∧ t.heat = s.heat ∧ sameShow s t ∧ sameRest s t))
  ∧ (∀ (h : Hdr) (s : State), servable s → h.len = 1 →
      (∀ code : Byte, 12 < code.toNat →
        Sys2Proof.Machine.exec (.faultClear h code) s = .next (replied 0x86 h.tag [2, 3] s))
      ∧ (∀ f, isSticky f = false →
        Sys2Proof.Machine.exec (.faultClear h (BitVec.ofNat 8 (faultCode f))) s = .next (replied 0x86 h.tag [2, 6] s))
      ∧ (s.changer.stage ≠ .idle → ∀ f, isChangerFault f = true →
        Sys2Proof.Machine.exec (.faultClear h (BitVec.ofNat 8 (faultCode f))) s = .next (replied 0x86 h.tag [2, 4] s))
      ∧ (s.changer.stage ≠ .idle →
        Sys2Proof.Machine.exec (.faultClear h 0) s = .next (replied 0x86 h.tag [2, 4] s))
      ∧ (hasFault .lampOpen s = true → lampRec s.lamp s.lamp.active = .failed →
        Sys2Proof.Machine.exec (.faultClear h (BitVec.ofNat 8 (faultCode .lampOpen))) s =
          .next (replied 0x86 h.tag [2, 6] s)))

/-! ### Resets -/

/-- R193, R45, R64, R108, R125, R143, R160, R174, R182: a soft reset keeps the items, the mask, the show clock, the tray
map, the slot maps, the cue log, the cue table, the lock and the lamp records, and empties the link, the queues and the
trace, whose phase is set as at a mode write: with no post count and the trigger condition holding it is FROZEN at once,
with the FROZEN notice. The release time of the cue-out line stops with the Cue Decoder. That this release time stops
too is the model's choice (log 59). R193: the fault set a soft reset rebuilds holds no sticky fault, STUCK_TONE or
RELAY_CONFLICT, and the others exactly while their condition is present. The model's choices here: logs 6, 33, 47,
59. -/
def Obligations.SoftResetKeepsClearsAndRebuilds : Prop :=
  (∀ (service : Bool) (s : State), ∃ t, Sys2Proof.Machine.exec (.softReset service) s = .next t
      ∧ t.items = s.items
      ∧ (∀ l holds, l = { Link.reset with mask := s.link.mask, clock := s.link.clock, faults := t.link.faults } →
        holds = (s.trace.trigger &&& t.link.faults != 0) →
        (¬ (s.trace.mode = .ringFreeze ∧ s.trace.post = 0 ∧ holds = true) → t.link = l)
        ∧ (s.trace.mode = .ringFreeze → s.trace.post = 0 → holds = true →
          t.link = (give (.frozen 0) { s with link := l }).link)
        ∧ t.trace = { s.trace with
            records := [], full := false, overwritten := false, watermark := false
            frozen := decide (s.trace.mode = .ringFreeze ∧ s.trace.post = 0 ∧ holds = true)
            phase := match s.trace.mode with
              | .ringFreeze => if holds then (if s.trace.post = 0 then .frozen else .posting) else .ringing
              | .waitRing => if holds then .ringing else .waiting
              | _ => .unused
            postLeft := if s.trace.mode = .ringFreeze ∧ holds = true then s.trace.post else 0 })
      ∧ t.tray.code = s.tray.code ∧ t.tray.slots = s.tray.slots ∧ t.tray.map1 = s.tray.map1 ∧ t.tray.map2 = s.tray.map2
      ∧ t.tray.map3 = s.tray.map3
      ∧ t.tray.position = (if s.changer.stage = .idle then s.tray.position else none)
      ∧ t.changer = { Changer.reset with gate := if s.changer.stage = .idle then s.changer.gate else .unknown }
      ∧ t.cueLog = { CueLog.reset with entries := s.cueLog.entries, full := s.cueLog.full, startMap := s.cueLog.startMap }
      ∧ t.program = { s.program with hold := none, timer := .stopped, remaining := 0, service := service }
      ∧ t.decoder = Decoder.reset ∧ t.remote = RemoteRx.reset
      ∧ t.lamp.recA = s.lamp.recA ∧ t.lamp.recB = s.lamp.recB ∧ t.lamp.active = s.lamp.active
      ∧ t.lamp.show_ = s.lamp.show_ ∧ t.lamp.preset = s.lamp.preset ∧ t.lamp.ramp = 0
      ∧ (t.lamp.state = if s.lamp.state = .swapping then .swapping else .off)
      ∧ t.heat.power = .standby ∧ t.heat.estimate = s.heat.estimate ∧ t.heat.ambient = s.heat.ambient
      ∧ t.heat.latch = s.heat.latch ∧ t.transport.reel = s.transport.reel ∧ t.transport.gain = 0
      ∧ t.transport.zeroKnown = s.transport.zeroKnown)
  ∧ (∀ (service : Bool) (s : State), ∃ t, Sys2Proof.Machine.exec (.softReset service) s = .next t
      ∧ (∀ f, isSticky f = true ∨ f = .stuckTone ∨ f = .relayConflict → hasFault f t = false)
      ∧ hasFault .trayCode t = decide (s.tray.code = 3) ∧ hasFault .overtemp t = s.heat.latch
      ∧ hasFault .tcoOpen t = s.lines.tcoOpen ∧ hasFault .fanStall t = hasFault .fanStall s
      ∧ hasFault .ambientSensor t = hasFault .ambientSensor s)

/-- R193, R158: RESET is answered DONE and changes nothing yet; when the last byte of its DONE reply has been sent, the
soft reset is applied, with the SERVICE line at its level then, which is a free value (log 6). The reply of a refused
RESET resets nothing (R184). -/
def Obligations.ResetActsAfterItsReply : Prop :=
  ∀ (h : Hdr) (s : State),
    (servable s → h.len = 0 → Sys2Proof.Machine.exec (.reset h) s = .next (replied 0x85 h.tag [0] s))
    ∧ (s.link.sending = some (replyFrame { kind := 0x85, tag := h.tag, payload := [0], ready := true }) →
      Sys2Proof.Machine.exec .frameSent s =
        Sys2Proof.Machine.exec (.softReset (Config.serviceLevel s.lineReads))
          { s with link.sending := none, lineReads := s.lineReads + 1 })
    ∧ (s.link.sending = some (replyFrame { kind := 0x85, tag := h.tag, payload := [2, 3], ready := true }) →
      s.link.replies = [] → s.link.notices = [] →
      Sys2Proof.Machine.exec .frameSent s = .next { s with link.sending := none })

/-- R193, R19, R45, R64, R88, R90, R108, R125, R143, R160, R174, R182: after power-on and RESET line, whatever stood
before, items are at their defaults, queues, logs and tables empty, the clock 0, each block whole as its reset rule
gives, and H is 17920 or, at a RESET line, the larger of it and 17920, with ceiling, zone, permission and latch from H
and the cut-out line. The fault set holds what the contacts, the line and H raise, and their FAULT notices are all that
the link has to send. The release time of the cue-out line, which R125's table leaves out, is stopped by the model's
choice (log 59). The model's choices here: logs 7, 38, 59. -/
def Obligations.HardResetsStartAfresh : Prop :=
  ∀ (pins : Pins) (s : State) (c : Instr), c = .powerOn pins ∨ c = .resetLine pins →
    ∃ t, Sys2Proof.Machine.exec c s = .next t ∧ t.items = Items.reset ∧ t.cueLog = CueLog.reset ∧ t.decoder = Decoder.reset
      ∧ t.remote = RemoteRx.reset ∧ t.changer = Changer.reset
      ∧ t.program = { Program.reset with service := pins.service }
      ∧ t.tray = { Tray.reset with code := pins.trayCode, slots := List.replicate (capacity pins.trayCode) freshSlot }
      ∧ t.transport =
        { Transport.reset with state := if pins.cassette then .stopped else .noTape, cassette := pins.cassette }
      ∧ t.trace = Trace.reset
      ∧ t.lines = { homeMark := pins.homeMark, leader := pins.leader, tcoOpen := pins.tcoOpen, limitIn := pins.limitIn
                    limitOut := pins.limitOut }
      ∧ t.lamp = {
          state := .off, recA := .unknown, recB := .unknown, active := .a, ramp := 0, show_ := 1000, preset := 1000
          drive := 0, fade := none, dest := t.lamp.dest, destRamp := t.lamp.destRamp, swap := none, restriking := false
          darkWaiting := false, openCount := 0, window := none }
      ∧ (∀ x, x = (if c = .powerOn pins then 17920 else max s.heat.estimate 17920) → t.heat = {
          estimate := x, ambient := 10240, floor := .high, fan := .high, stallTimer := some 0
          ceiling := if pins.tcoOpen = true ∨ 21760 ≤ x then 0 else if 19200 ≤ x then 1000 - (x - 19200) * 600 / 2560 else 1000
          zone := if x < 19200 then .full else if x < 21760 then .derate else .trip
          allowed := decide (x ≤ 17920) && !pins.tcoOpen, latch := decide (21760 ≤ x), cooling := true, elapsed := 0
          wakeDue := false, updateTimer := some 0, power := .standby, sleepPending := .clear })
      ∧ t.link = { Link.reset with
          sending := t.link.sending, notices := t.link.notices, flags := t.link.flags, faults := t.link.faults }
      ∧ (∀ f, hasFault f t = match f with
          | .tcoOpen => pins.tcoOpen
          | .trayCode => decide (pins.trayCode = 3)
          | .overtemp => decide (21760 ≤ t.heat.estimate)
          | _ => false)
      ∧ (∀ n ∈ t.link.notices, ∃ f, n = .fault f true none) ∧ (∀ i, i ≠ 23 → t.link.flags.getLsbD i = false)
      ∧ (∀ x, t.link.sending = some x → ∃ f, x = noticeFrame (.fault f true none))
      ∧ (pins.tcoOpen = false → pins.trayCode ≠ 3 → t.heat.estimate < 21760 → t.link = Link.reset)

/-! ### Power states -/

/-- R82: POWER MODE with nothing pending and an empty move queue, from STANDBY: ACTIVE is entered with DONE; SLEEP is
entered with DONE when its conditions hold and otherwise waits with the request's tag, ACCEPTED. R85: a request frame
with a good check wakes the part from SLEEP to STANDBY with the POWER notice, and is served there: the heat updates
resume after their period, wake update due. Stated for IDENTIFY. The model's choices here: log 18. -/
def Obligations.PowerModeAndWake : Prop :=
  (∀ (h : Hdr) (s : State), servable s → h.len = 1 → s.heat.power = .standby → s.heat.sleepPending = .clear →
      s.changer.queue = [] →
      (∃ t, Sys2Proof.Machine.exec (.powerMode h 0) s = .next t ∧ t.heat.power = .active ∧ t.heat.sleepPending = .clear
        ∧ lastReply 0x88 h.tag [0] t ∧ sameSlides s t ∧ sameShow s t ∧ sameRest s t ∧ sameFaults s t)
      ∧ (sleepConditions s = true → ∃ t, Sys2Proof.Machine.exec (.powerMode h 2) s = .next t ∧ t.heat.power = .sleep
        ∧ t.heat.fan = .off ∧ t.heat.updateTimer = none ∧ t.decoder.relayQueue = [] ∧ t.remote.entry = none
        ∧ t.remote.focus = .idle ∧ lastReply 0x88 h.tag [0] t ∧ sameSlides s t ∧ t.items = s.items)
      ∧ (sleepConditions s = false → Sys2Proof.Machine.exec (.powerMode h 2) s =
        .next { replied 0x88 h.tag [1] s with heat.sleepPending := .set (some h.tag) })
      ∧ Sys2Proof.Machine.exec (.powerMode h 1) s = .next (replied 0x88 h.tag [0] s)
      ∧ (∀ mode : Byte, 2 < mode.toNat → Sys2Proof.Machine.exec (.powerMode h mode) s = .next (replied 0x88 h.tag [2, 3] s)))
  ∧ (∀ (h : Hdr) (s : State), awaiting s.link < 4 → s.heat.power = .sleep → h.len = 0 →
      ∃ t, Sys2Proof.Machine.exec (.identify h) s = .next t
        ∧ lastReply 0x81 h.tag [0, 0x4F, 0x5A, 0x2D, 0x34, 0x31, 0x38, Config.siliconRevision, 1] t
        ∧ t.link.flags.getLsbD 13 = true
        ∧ t.heat = { s.heat with
            power := .standby, wakeDue := true, updateTimer := some 0, fan := t.heat.fan, stallTimer := t.heat.stallTimer }
        ∧ sameSlides s t ∧ sameShow s t ∧ sameRest s t ∧ sameFaults s t)

/-- R81, R44, R57, R100, R103, R151, R153: POWER MODE STANDBY from ACTIVE empties the move queue, starts the power-down
fade of a burning lamp and turns one in PREHEAT off, brakes a moving tape to STOPPED from source POWER, makes STOPPED
the destination of a tape already braking, without restarting its brake time, stops the timer and clears the show hold.
A tape at rest stays. A sleep is pending in STANDBY only (SleepOnlyWhenAllIsAtRest). The model's choices here: logs 26,
32. -/
def Obligations.StandbyStopsTheShow : Prop :=
  ∀ (h : Hdr) (s : State), servable s → h.len = 1 → s.heat.power = .active → s.heat.sleepPending = .clear →
    ∃ t, Sys2Proof.Machine.exec (.powerMode h 1) s = .next t ∧ t.heat.power = .standby ∧ t.changer.queue = []
      ∧ lastReply 0x88 h.tag [0] t ∧ t.program.timer = .stopped ∧ t.program.hold = none ∧ t.cueLog.seekCue = none
      ∧ (s.transport.state = .stopped ∨ s.transport.state = .noTape → t.transport = s.transport)
      ∧ (s.transport.state = .playing ∨ s.transport.state = .paused ∨ s.transport.state = .rewinding
          ∨ s.transport.state = .winding →
        t.transport = { s.transport with
          state := .stopping, dest := some { dest := .stopped, source := .power, tag := none }
          dir := if s.transport.state = .rewinding then .backward else .forward
          brakeTimer := some 0, stallTimer := none, seek := none
          gain := if s.transport.state = .playing then 0 else s.transport.gain
          endFade := if s.transport.state = .playing then .idle else s.transport.endFade })
      ∧ (s.transport.state = .stopping →
        t.transport = { s.transport with
          dest := some { dest := .stopped, source := .power, tag := none }, seek := none })
      ∧ (s.lamp.state = .lit → powerDownRuns s.lamp = false → 0 < s.items.fadeOut →
        t.lamp.state = .lit
          ∧ t.lamp.fade = some { kind := .powerDown, a := s.lamp.ramp, b := 0, n := s.items.fadeOut, k := 0 })
      ∧ (s.lamp.state = .lit → powerDownRuns s.lamp = true →
        t.lamp = { s.lamp with darkWaiting := t.lamp.darkWaiting })
      ∧ (s.lamp.state = .preheat ∨ s.lamp.state = .lit ∧ powerDownRuns s.lamp = false ∧ s.items.fadeOut = 0 →
        t.lamp.state = .off ∧ t.lamp.ramp = 0 ∧ t.lamp.drive = 0 ∧ t.lamp.fade = none)
      ∧ (∀ w, s.lamp.state = .swapping → s.lamp.swap = some w →
        t.lamp = { s.lamp with swap := some { w with restrike := false }, darkWaiting := t.lamp.darkWaiting })
      ∧ (s.lamp.state = .off ∨ s.lamp.state = .failed → t.lamp = { s.lamp with darkWaiting := t.lamp.darkWaiting })
      ∧ t.items = s.items ∧ t.heat.estimate = s.heat.estimate ∧ t.program.table = s.program.table
      ∧ t.cueLog.entries = s.cueLog.entries

/-! ### Moves and the cycle -/

/-- R21 to R24: with a cycle running and the checks passed, a STEP or GOTO joins the queue as its newest entry, a STEP
within the tray's N (log 14), and is ACCEPTED. A STEP behind a STEP of the host merges with it; a sum of 0 ends both
NULLED (log 15). R22, R25: the checks of an offered move in their order, each REFUSED with its reason and nothing else
changed. -/
def Obligations.HostMovesJoinOrAreRefused : Prop :=
  (∀ (h : Hdr) (n slot : Byte) (s : State), servable s → h.len = 1 → movesOpen s → s.changer.stage ≠ .idle →
      (slot.toNat ≤ traySize s → s.changer.queue.length < 6 → Sys2Proof.Machine.exec (.goto h slot) s =
        .next { replied 0x91 h.tag [1] s with
          changer.queue := s.changer.queue ++ [hostEntry (.goto slot.toNat) h.tag] })
      ∧ (n.toInt ≠ 0 → -99 ≤ n.toInt → n.toInt ≤ 99 →
        (noMerge s → s.changer.queue.length < 6 → Sys2Proof.Machine.exec (.step h n) s =
          .next { replied 0x90 h.tag [1] s with
            changer.queue := s.changer.queue ++ [hostEntry (.step (clampSigned (traySize s) n.toInt)) h.tag] })
        ∧ ∀ (rest : List MoveEntry) (last : MoveEntry) (a : Int), s.changer.queue = rest ++ [last] → last.source = .host →
          last.move = .step a →
          (last.tags.length < 8 → clampSigned (traySize s) (a + n.toInt) ≠ 0 → Sys2Proof.Machine.exec (.step h n) s =
            .next { replied 0x90 h.tag [1] s with
              changer.queue := rest ++
                [{ last with move := .step (clampSigned (traySize s) (a + n.toInt)), tags := last.tags ++ [h.tag] }] })
          ∧ ∀ t : Byte, last.tags = [t] → a + n.toInt = 0 → s.link.sending ≠ none → s.link.mask.getLsbD 0 = true →
            s.link.notices.length ≤ 14 → Sys2Proof.Machine.exec (.step h n) s =
              .next { replied 0x90 h.tag [1] s with
                link.flags := s.link.flags ||| 1
                link.notices := s.link.notices ++
                  [.moveDone .host (.step a) s.tray.position (some t) true .nulled,
                    .moveDone .host (.step a) s.tray.position (some h.tag) false .nulled]
                changer.queue := rest }))
  ∧ (∀ (h : Hdr) (n slot : Byte) (s : State), servable s → h.len = 1 →
      (n.toInt = 0 ∨ n.toInt < -99 ∨ 99 < n.toInt →
        Sys2Proof.Machine.exec (.step h n) s = .next (replied 0x90 h.tag [2, 3] s))
      ∧ (96 < slot.toNat → Sys2Proof.Machine.exec (.goto h slot) s = .next (replied 0x91 h.tag [2, 3] s))
      ∧ (n.toInt ≠ 0 → -99 ≤ n.toInt → n.toInt ≤ 99 → slot.toNat ≤ 96 →
        (s.heat.power = .standby → Sys2Proof.Machine.exec (.step h n) s = .next (replied 0x90 h.tag [2, 5] s)
          ∧ Sys2Proof.Machine.exec (.goto h slot) s = .next (replied 0x91 h.tag [2, 5] s))
        ∧ (s.heat.power = .active → traySize s = 0 →
          Sys2Proof.Machine.exec (.step h n) s = .next (replied 0x90 h.tag [2, 7] s)
            ∧ Sys2Proof.Machine.exec (.goto h slot) s = .next (replied 0x91 h.tag [2, 7] s))
        ∧ (s.heat.power = .active → 0 < traySize s → changerFault s = true →
          Sys2Proof.Machine.exec (.step h n) s = .next (replied 0x90 h.tag [2, 9] s)
            ∧ Sys2Proof.Machine.exec (.goto h slot) s = .next (replied 0x91 h.tag [2, 9] s))
        ∧ (movesOpen s → traySize s < slot.toNat →
          Sys2Proof.Machine.exec (.goto h slot) s = .next (replied 0x91 h.tag [2, 3] s))
        ∧ (movesOpen s → noMerge s → 6 ≤ s.changer.queue.length →
          Sys2Proof.Machine.exec (.step h n) s = .next (replied 0x90 h.tag [2, 8] s)
            ∧ (slot.toNat ≤ traySize s →
              Sys2Proof.Machine.exec (.goto h slot) s = .next (replied 0x91 h.tag [2, 8] s)))))

/-- R20, R27, R28, R29: the head of the queue starts a cycle in SHUTTER mode when the Changer is IDLE and the checks
pass; its target is the GOTO's, or the STEP's walk from the position. The stages that are over at once end at once.
Elsewhere nothing starts. R20, R22, R28: a GOTO taken with the Changer IDLE and the queue empty starts its cycle at
once, the open shutter closing first in SHUTTER mode (log 30). In DISSOLVE mode a lit lamp above the dark threshold
fades down behind a REQUESTED claim. -/
def Obligations.CyclesStartFromTheHead : Prop :=
  (∀ (e : MoveEntry) (rest : List MoveEntry) (t : Nat) (s : State), s.changer.queue = e :: rest →
      s.items.changeMode = .shutter →
      (movesOpen s → s.changer.stage = .idle →
        (e.move = .goto t ∧ t ≤ traySize s
          ∨ ∃ n p w, e.move = .step n ∧ s.tray.position = some p ∧ walk s s.program.activeMap p n = some w
            ∧ w.short = false ∧ w.target = t) →
        (s.changer.shutterOpen = true → Sys2Proof.Machine.exec .cycleStart s =
          .next { s with
            changer.queue := rest, changer.stage := .dark, changer.cycle := some (cycleTo e .shutter t)
            changer.extension := 0, changer.shutterOpen := false, changer.window := some 0 })
        ∧ (s.changer.shutterOpen = false → s.changer.gate ≠ .empty → Sys2Proof.Machine.exec .cycleStart s =
          .next { s with
            changer.queue := rest, changer.stage := .lift, changer.cycle := some (cycleTo e .shutter t)
            changer.extension := 0, changer.liftArm := true, changer.window := some 0 })
        ∧ (∀ p, s.changer.shutterOpen = false → s.changer.gate = .empty → s.tray.position = some p → p ≠ t →
          s.changer.pause ≠ .pending → Sys2Proof.Machine.exec .cycleStart s =
            .next { s with
              changer.queue := rest, changer.stage := .rotate, changer.cycle := some (cycleTo e .shutter t)
              changer.extension := 0, changer.motor := some (turnFor (traySize s) p t), changer.window := some 0 }))
      ∧ (¬ movesOpen s ∨ s.changer.stage ≠ .idle → Sys2Proof.Machine.exec .cycleStart s = .next s))
  ∧ (∀ (h : Hdr) (slot : Byte) (s : State), servable s → h.len = 1 → movesOpen s → s.changer.stage = .idle →
      s.changer.queue = [] → slot.toNat ≤ traySize s →
      (s.items.changeMode = .shutter → s.changer.shutterOpen = true → Sys2Proof.Machine.exec (.goto h slot) s =
        .next { replied 0x91 h.tag [1] s with
          changer.stage := .dark, changer.cycle := some (cycleTo (hostEntry (.goto slot.toNat) h.tag) .shutter slot.toNat)
          changer.extension := 0, changer.shutterOpen := false, changer.window := some 0 })
      ∧ (s.items.changeMode = .dissolve → s.changer.claim = .clear → s.lamp.state = .lit → powerDownRuns s.lamp = false →
        s.items.darkThreshold < s.lamp.drive → 0 < s.items.fadeOut → Sys2Proof.Machine.exec (.goto h slot) s =
          .next { replied 0x91 h.tag [1] s with
            changer.stage := .dark
            changer.cycle := some (cycleTo (hostEntry (.goto slot.toNat) h.tag) .dissolve slot.toNat)
            changer.extension := 0, changer.claim := .requested, changer.window := none
            lamp.fade := some { kind := .dark, a := s.lamp.ramp, b := s.items.keepWarm, n := s.items.fadeOut, k := 0 }
            lamp.restriking := false, lamp.darkWaiting := true }))

/-- R13 to R16: a slot is eligible when it is in the tray and in the map, and not ABSENT under SKIP_EMPTIES. The STEP
walk finds nothing exactly when no slot is eligible. With TRAY_WRAP OFF it counts the eligible slots between its start
and its target and is short exactly when fewer than asked for are ahead, from the gap too, where a walk backward begins
at N. With TRAY_WRAP ON a walk of one more is a walk of one from where the walk ended, and a walk of one passes no
eligible slot. -/
def Obligations.WalkCountsEligibleSlots : Prop :=
  ∀ (s : State) (m c : Nat) (n : Int), c ≤ traySize s → m ≤ 3 → n ≠ 0 →
    (∀ x, eligible s m x = true ↔
      1 ≤ x ∧ x ≤ traySize s
        ∧ (m = 1 ∧ s.tray.map1.getLsbD (x - 1) = true ∨ m = 2 ∧ s.tray.map2.getLsbD (x - 1) = true
          ∨ m = 3 ∧ s.tray.map3.getLsbD (x - 1) = true ∨ m = 0)
        ∧ (s.items.skipEmpties = false ∨ ∀ r, s.tray.slots[x - 1]? = some r → r.presence ≠ .absent))
    ∧ (walk s m c n = none ↔ ∀ x, eligible s m x = false)
    ∧ ∀ w, walk s m c n = some w →
      w.target ≤ traySize s
      ∧ (0 < w.counted → eligible s m w.target = true)
      ∧ (s.items.trayWrap = true → w.short = false ∧ w.counted = n.natAbs)
      ∧ (s.items.trayWrap = false →
        (w.short = decide (w.counted < n.natAbs)) ∧ w.counted ≤ n.natAbs
        ∧ (w.counted = 0 → w.target = c)
        ∧ (0 < n → c ≤ w.target
          ∧ ((List.range' (c + 1) (w.target - c)).filter (eligible s m)).length = w.counted
          ∧ (w.short = true → ∀ x, w.target < x → eligible s m x = false))
        ∧ (n < 0 → 0 < c → w.target ≤ c
          ∧ ((List.range' w.target (c - w.target)).filter (eligible s m)).length = w.counted
          ∧ (w.short = true → ∀ x, x < w.target → eligible s m x = false))
        ∧ (n < 0 → c = 0 →
          ((List.range' w.target (traySize s + 1 - w.target)).filter (eligible s m)).length = w.counted ∧ 0 < w.counted
          ∧ (w.short = true → ∀ x, x < w.target → eligible s m x = false)))
      ∧ (s.items.trayWrap = true → n = 1 →
        (c < w.target → ∀ x, c < x → x < w.target → eligible s m x = false)
        ∧ (w.target ≤ c → ∀ x, c < x ∨ x < w.target → eligible s m x = false))
      ∧ (s.items.trayWrap = true → 0 < n → ∃ v, walk s m c (n + 1) = some v ∧ walk s m w.target 1 = some { v with counted := 1 })
      ∧ (s.items.trayWrap = true → n = -1 →
        (w.target < c → ∀ x, w.target < x → x < c → eligible s m x = false)
        ∧ (c ≤ w.target → ∀ x, x < c ∨ w.target < x → eligible s m x = false))
      ∧ (s.items.trayWrap = true → n < 0 →
        ∃ v, walk s m c (n - 1) = some v ∧ walk s m w.target (-1) = some { v with counted := 1 })

/-- R18: the tray turns forward when the forward distance is no longer than the backward one, and a pulse moves the
position by one in its direction around the N + 1 positions (R5). R5, R6, R18, R30, R31, R40: an index pulse with the
motor at rest loses the position. In a rotation it moves the position by one, or to 0 under the home mark with TRAY
RESYNC, and at the target the motor stops and DROP starts, skipped at the gap with the gate EMPTY, an UNKNOWN one too by
the model's reading (log 41). R7: in a home search a pulse without the mark is counted, and the pulse after the N-th
raises ROTATE_STALL and ends the cycle, also with a pause PENDING by the model's choice (log 67); the mark makes the
position 0 and the rotation goes on to a known target the short way. The model's choices here: logs 1, 8, 16, 41, 67. -/
def Obligations.TrayTurnsAndFindsItsMark : Prop :=
  (∀ n p t k : Nat, p ≤ n → t ≤ n → k ≤ n → (p + k) % (n + 1) = t →
      (turnFor n p t = .forward ↔ 2 * k ≤ n + 1)
      ∧ (pulsed n p .forward = if p = n then 0 else p + 1) ∧ (pulsed n p .backward = if p = 0 then n else p - 1))
  ∧ (∀ (mark : Bool) (s : State),
      (s.changer.motor = none → Sys2Proof.Machine.exec (.indexPulse mark) s =
        .next { s with lines.homeMark := mark, tray.position := none })
      ∧ ∀ (dir : Turn) (p q : Nat) (c : Cycle), s.changer.motor = some dir → s.tray.position = some p →
        s.changer.stage = .rotate → s.changer.cycle = some c → c.stopAtPulse = false → pulsed (traySize s) p dir = q →
        (mark = false ∨ q = 0 →
          (c.target = some q → q ≠ 0 → Sys2Proof.Machine.exec (.indexPulse mark) s =
            .next { s with
              lines.homeMark := mark, tray.position := some q, tray.search := none, changer.motor := none
              changer.stage := .drop, changer.seatWindow := false, changer.window := some 0 })
          ∧ (c.target = some q → q = 0 → Sys2Proof.Machine.exec (.indexPulse mark) s =
            .next { s with
              lines.homeMark := mark, tray.position := some 0, tray.search := none, changer.motor := none
              changer.gate := .empty, changer.stage := .settle, changer.seatWindow := false, changer.window := some 0 })
          ∧ (c.target ≠ some q → s.changer.pause = .pending → Sys2Proof.Machine.exec (.indexPulse mark) s =
            .next { s with
              lines.homeMark := mark, tray.position := some q, changer.motor := none, changer.stage := .paused
              changer.pause := .paused, changer.window := none })
          ∧ (c.target ≠ some q → s.changer.pause ≠ .pending → Sys2Proof.Machine.exec (.indexPulse mark) s =
            .next { s with lines.homeMark := mark, tray.position := some q, changer.window := some 0 }))
        ∧ (mark = true → q ≠ 0 → c.target ≠ some 0 → s.changer.pause ≠ .pending →
          Sys2Proof.Machine.exec (.indexPulse mark) s =
            .next { report (.trayResync q) (.trayResync q) { s with lines.homeMark := true, tray.position := some 0 } with
              changer.window := some 0 }))
  ∧ (∀ (dir : Turn) (k : Nat) (c : Cycle) (s : State), s.changer.motor = some dir → s.tray.position = none →
      s.changer.stage = .rotate → s.changer.cycle = some c → s.tray.search.getD 0 = k →
      (k < traySize s → s.changer.pause ≠ .pending → Sys2Proof.Machine.exec (.indexPulse false) s =
        .next { s with lines.homeMark := false, tray.search := some (k + 1), changer.window := some 0 })
      ∧ (traySize s ≤ k → ∃ t, Sys2Proof.Machine.exec (.indexPulse false) s = .next t ∧ hasFault .rotateStall t = true
        ∧ t.changer.stage = .idle ∧ t.changer.motor = none ∧ t.changer.gate = .unknown ∧ t.changer.queue = []
        ∧ t.tray = { s.tray with search := none } ∧ t.items = s.items ∧ t.lamp = s.lamp ∧ t.transport = s.transport)
      ∧ (∀ g, c.target = some g → g ≠ 0 → s.changer.pause ≠ .pending → Sys2Proof.Machine.exec (.indexPulse true) s =
        .next { s with
          lines.homeMark := true, tray.position := some 0, tray.search := none, changer.stage := .rotate
          changer.motor := some (turnFor (traySize s) 0 g), changer.window := some 0 }))

/-- R1 to R4, R8: seating a tray makes N fresh records with the gap at the gate and gives TRAY IN; removing it gives
TRAY OUT, empties the map and ends a cycle with the queue; code 3 raises TRAY_CODE and another code clears it, before a
seating. A direct change between codes 1 and 2 removes the one tray and seats the other. The maps stay. The order of the
fault's reports beside TRAY IN and TRAY OUT is the model's choice (log 16). The model's choices here: logs 8, 16. -/
def Obligations.TrayCodeSeatsAndRemoves : Prop :=
  ∀ (code : Fin 4) (s : State),
    (s.tray.code = code → Sys2Proof.Machine.exec (.trayCodeChange code) s = .next s)
    ∧ (s.tray.code = 0 → code = 1 ∨ code = 2 → s.changer.queue = [] → hasFault .trayCode s = false →
      Sys2Proof.Machine.exec (.trayCodeChange code) s =
        .next (give (.trayIn (if code = 1 then 48 else 96)) { s with
          tray.code := code, tray.position := some 0, tray.search := none
          tray.slots := List.replicate (if code = 1 then 48 else 96)
            { presence := .unknown, source := .unset, shown := 0, hold := none }
          lines.homeMark := true }))
    ∧ (s.tray.code = 1 ∨ s.tray.code = 2 → code = 0 → s.changer.stage = .idle → s.changer.queue = [] →
      hasFault .trayCode s = false → Sys2Proof.Machine.exec (.trayCodeChange code) s =
        .next (give .trayOut { s with
          tray.code := 0, tray.position := none, tray.search := none, tray.slots := [], lines.homeMark := false }))
    ∧ (s.tray.code = 3 → code = 1 ∨ code = 2 → s.changer.queue = [] →
      Sys2Proof.Machine.exec (.trayCodeChange code) s =
        .next (give (.trayIn (if code = 1 then 48 else 96)) { clearFault .trayCode { s with tray.code := code } with
          tray := { s.tray with
            code := code, position := some 0, search := none
            slots := List.replicate (if code = 1 then 48 else 96)
              { presence := .unknown, source := .unset, shown := 0, hold := none } }
          lines.homeMark := true }))
    ∧ (s.tray.code = 1 ∧ code = 2 ∨ s.tray.code = 2 ∧ code = 1 → s.changer.stage = .idle → s.changer.queue = [] →
      hasFault .trayCode s = false → Sys2Proof.Machine.exec (.trayCodeChange code) s =
        .next (give (.trayIn (if code = 1 then 48 else 96)) (give .trayOut { s with
          tray.code := code, tray.position := some 0, tray.search := none
          tray.slots := List.replicate (if code = 1 then 48 else 96)
            { presence := .unknown, source := .unset, shown := 0, hold := none }
          lines.homeMark := true })))
    ∧ (s.tray.code = 1 ∨ s.tray.code = 2 → code ≠ s.tray.code →
      ∃ t, Sys2Proof.Machine.exec (.trayCodeChange code) s = .next t ∧ t.changer.stage = .idle ∧ t.changer.queue = []
        ∧ (s.changer.stage ≠ .idle → t.changer.cycle = none ∧ t.changer.motor = none ∧ t.changer.liftArm = false)
        ∧ t.changer.shutterOpen = s.changer.shutterOpen ∧ t.changer.claim = s.changer.claim
        ∧ t.changer.gate =
          (if s.changer.stage = .lift ∨ s.changer.stage = .drop then .unknown else s.changer.gate)
        ∧ t.tray = { s.tray with
            code := code, position := if code = 0 ∨ code = 3 then none else some 0, search := none
            slots := List.replicate (if code = 1 then 48 else if code = 2 then 96 else 0)
              { presence := .unknown, source := .unset, shown := 0, hold := none } }
        ∧ hasFault .trayCode t = decide (code = 3)
        ∧ t.items = s.items ∧ t.lamp = s.lamp ∧ t.transport = s.transport)
    ∧ (s.tray.code = 0 → code = 3 →
      Sys2Proof.Machine.exec (.trayCodeChange code) s = .next (raiseFault .trayCode none { s with tray.code := 3 }))
    ∧ (s.tray.code = 3 → code = 0 →
      Sys2Proof.Machine.exec (.trayCodeChange code) s = .next (clearFault .trayCode { s with tray.code := 0 }))

/-- R40, R41: PAUSE MOVE and CONTINUE MOVE are DONE with the pause state after; a running cycle that is not aborted
becomes PENDING, PENDING becomes NONE, and a PAUSED rotation starts again toward its target. R42, R43: ABORT MOVES is
DONE, clears the queue and the pause state, and redirects a cycle past DARK by its stage. A cycle in DARK ends at once:
the gate, the arm, the motor and the position stand, a LOADED gate opens its shutter and drops its claim. A queued entry
is answered MOVE FAILED. TARGET is over at once and stands in no state between commands. Stated for moves that no chase
waits on. The model's choices here: log 46. -/
def Obligations.MovesPauseContinueAndAbort : Prop :=
  (∀ (h : Hdr) (s : State), servable s → h.len = 0 →
      (s.changer.stage = .idle ∨ s.changer.stage = .paused ∨ (∃ c, s.changer.cycle = some c ∧ c.aborted = true) →
        Sys2Proof.Machine.exec (.pauseMove h) s =
          .next (replied 0x92 h.tag [0, BitVec.ofNat 8 (pauseCode s.changer.pause)] s))
      ∧ (∀ c, s.changer.stage ≠ .idle → s.changer.stage ≠ .paused → s.changer.cycle = some c → c.aborted = false →
        Sys2Proof.Machine.exec (.pauseMove h) s = .next { replied 0x92 h.tag [0, 1] s with changer.pause := .pending })
      ∧ (s.changer.pause = .clear → Sys2Proof.Machine.exec (.continueMove h) s = .next (replied 0x93 h.tag [0, 0] s))
      ∧ (s.changer.pause = .pending → Sys2Proof.Machine.exec (.continueMove h) s =
        .next { replied 0x93 h.tag [0, 0] s with changer.pause := .clear })
      ∧ (∀ c p t, s.changer.pause = .paused → s.changer.cycle = some c → c.skipRotate = false → c.target = some t →
        s.tray.position = some p → p ≠ t → Sys2Proof.Machine.exec (.continueMove h) s =
          .next { replied 0x93 h.tag [0, 0] s with
            changer.pause := .clear, changer.stage := .rotate, changer.motor := some (turnFor (traySize s) p t)
            changer.window := some 0 }))
  ∧ (∀ (h : Hdr) (s : State), servable s → h.len = 0 →
      (s.changer.queue = [] →
        (s.changer.cycle = none → Sys2Proof.Machine.exec (.abortMoves h) s =
          .next { replied 0x94 h.tag [0] s with changer.pause := .clear })
        ∧ ∀ c, s.changer.cycle = some c →
          (c.aborted = true → Sys2Proof.Machine.exec (.abortMoves h) s =
            .next { replied 0x94 h.tag [0] s with changer.pause := .clear })
          ∧ (c.aborted = false →
            (s.changer.stage = .dark → c.entry.owner = none →
              ∃ t, Sys2Proof.Machine.exec (.abortMoves h) s = .next t
                ∧ t.changer = { s.changer with
                    stage := .idle, cycle := none, pause := .clear, motor := none, liftArm := false, seatWindow := false
                    window := none, shutterOpen := s.changer.shutterOpen || decide (s.changer.gate = .loaded)
                    claim := if s.changer.gate = .loaded then .clear else s.changer.claim }
                ∧ t.tray = { s.tray with search := none } ∧ t.items = s.items ∧ t.transport = s.transport
                ∧ t.cueLog = s.cueLog)
            ∧ (s.changer.stage = .lift → Sys2Proof.Machine.exec (.abortMoves h) s =
              .next { replied 0x94 h.tag [0] s with
                changer.pause := .clear
                changer.cycle := some { c with aborted := true, target := s.tray.position, skipRotate := true } })
            ∧ (∀ p, s.changer.stage = .rotate → s.tray.position = some p → Sys2Proof.Machine.exec (.abortMoves h) s =
              .next { replied 0x94 h.tag [0] s with
                changer.pause := .clear, changer.cycle := some { c with aborted := true, stopAtPulse := true } })
            ∧ (s.changer.stage = .rotate → s.tray.position = none → Sys2Proof.Machine.exec (.abortMoves h) s =
              .next { replied 0x94 h.tag [0] s with
                changer.pause := .clear, changer.cycle := some { c with aborted := true, target := some 0 } })
            ∧ (s.changer.stage = .drop ∨ s.changer.stage = .settle → Sys2Proof.Machine.exec (.abortMoves h) s =
              .next { replied 0x94 h.tag [0] s with
                changer.pause := .clear, changer.cycle := some { c with aborted := true } })
            ∧ (∀ p, s.changer.stage = .paused → s.tray.position = some p → p ≠ 0 →
              Sys2Proof.Machine.exec (.abortMoves h) s =
                .next { replied 0x94 h.tag [0] s with
                  changer.pause := .clear, changer.cycle := some { c with aborted := true, target := some p }
                  changer.motor := none, tray.search := none, changer.stage := .drop, changer.seatWindow := false
                  changer.window := some 0 })))
      ∧ (∀ e, s.changer.queue = [e] → e.owner = none → s.changer.cycle = none →
        ∃ l, Sys2Proof.Machine.exec (.abortMoves h) s =
            .next { s with link := l, changer.queue := [], changer.pause := .clear }
          ∧ l.flags = s.link.flags ||| 2 ∧ l.mask = s.link.mask ∧ l.faults = s.link.faults))

/-- R10 to R12, R159: MARK SLOT, SET MAP, GET MAP and SELECT MAP, whole, and their refusals. The model's choices here:
logs 10, 12. -/
def Obligations.SlotAndMapRequests : Prop :=
  ∀ (h : Hdr) (slot pres hold num : Byte) (value : BitVec 16) (slots : SlotSet) (s : State), servable s →
    (h.len = 5 →
      (traySize s = 0 → Sys2Proof.Machine.exec (.markSlot h slot pres hold value) s =
        .next (replied 0x95 h.tag [2, 7] s))
      ∧ (0 < traySize s → slot = 0 ∨ s.tray.slots[slot.toNat - 1]? = none ∨ 3 < pres.toNat ∨ 2 < hold.toNat →
        Sys2Proof.Machine.exec (.markSlot h slot pres hold value) s = .next (replied 0x95 h.tag [2, 3] s))
      ∧ (∀ r, 0 < traySize s → slot ≠ 0 → s.tray.slots[slot.toNat - 1]? = some r → pres.toNat ≤ 3 → hold.toNat ≤ 2 →
        ∃ r', r' = ({
            presence := if pres = 0 then .present else if pres = 1 then .absent else if pres = 2 then .unknown else r.presence
            source := if pres = 0 ∨ pres = 1 then .declared else if pres = 2 then .unset else r.source
            shown := r.shown
            hold := if hold = 0 then some (clampTo 1 6000 value.toNat) else if hold = 1 then none else r.hold } : SlotRec)
          ∧ Sys2Proof.Machine.exec (.markSlot h slot pres hold value) s =
            .next { replied 0x95 h.tag (0 :: slotRecBytes r') s with
              tray.slots := s.tray.slots.set (slot.toNat - 1) r' }))
    ∧ (h.len = 13 →
      (num = 0 → Sys2Proof.Machine.exec (.setMap h num slots) s = .next (replied 0x96 h.tag [2, 6] s))
      ∧ (3 < num.toNat → Sys2Proof.Machine.exec (.setMap h num slots) s = .next (replied 0x96 h.tag [2, 3] s))
      ∧ (num = 1 ∧ s.program.protect1 = true ∨ num = 2 ∧ s.program.protect2 = true ∨ num = 3 ∧ s.program.protect3 = true →
        s.program.service = false → Sys2Proof.Machine.exec (.setMap h num slots) s = .next (replied 0x96 h.tag [2, 12] s))
      ∧ (num = 1 → s.program.protect1 = false ∨ s.program.service = true →
        Sys2Proof.Machine.exec (.setMap h num slots) s = .next { replied 0x96 h.tag [0] s with tray.map1 := slots })
      ∧ (num = 2 → s.program.protect2 = false ∨ s.program.service = true →
        Sys2Proof.Machine.exec (.setMap h num slots) s = .next { replied 0x96 h.tag [0] s with tray.map2 := slots })
      ∧ (num = 3 → s.program.protect3 = false ∨ s.program.service = true →
        Sys2Proof.Machine.exec (.setMap h num slots) s = .next { replied 0x96 h.tag [0] s with tray.map3 := slots }))
    ∧ (h.len = 1 →
      (num.toNat ≤ 3 → ∃ bits : SlotSet,
        (∀ i, i < 96 → bits.getLsbD i = (if num = 0 then decide (i < traySize s) else if num = 1 then s.tray.map1.getLsbD i
          else if num = 2 then s.tray.map2.getLsbD i else s.tray.map3.getLsbD i))
        ∧ Sys2Proof.Machine.exec (.getMap h num) s =
          .next (replied 0x97 h.tag (0 :: num :: (List.range 12).map (fun i => bits.extractLsb' (8 * i) 8)) s)
        ∧ Sys2Proof.Machine.exec (.selectMap h num) s =
          .next { replied 0x98 h.tag [0] s with program.activeMap := num.toNat })
      ∧ (3 < num.toNat → Sys2Proof.Machine.exec (.getMap h num) s = .next (replied 0x97 h.tag [2, 3] s)
        ∧ Sys2Proof.Machine.exec (.selectMap h num) s = .next (replied 0x98 h.tag [2, 3] s)))

/-- R28, R29, R31 to R34: the reports and windows of a cycle's stages. LIFT follows the closed shutter, ROTATE the
lift-done report, the seat window the drop-path report; a seated slide is learned PRESENT with its shown count raised,
and a drop window that runs out on a GOTO leaves an empty gate and ABSENT. Outside their stage, and with no cycle
running, the reports do nothing; a late drop makes the gate UNKNOWN. R33: a STEP whose slot proves empty goes on, with
SKIP_EMPTIES ON, to the next eligible slot of a walk of one. R34, R35, R26: at the end of SETTLE a LOADED gate opens the
shutter, MOVE DONE is given and recorded, and the Changer is IDLE. Stated with the queue empty, no dark claim, no chase,
a stopped timer and no sleep pending. The model's choices here: logs 1, 16, 24, 25. -/
def Obligations.CycleStagesRunToTheirEnd : Prop :=
  ((∀ s : State, s.changer.cycle = none → s.changer.stage = .idle →
      Sys2Proof.Machine.exec .dropPathReport s = .next { s with changer.gate := .unknown }
        ∧ Sys2Proof.Machine.exec .shutterCloseDone s = .next s ∧ Sys2Proof.Machine.exec .liftDone s = .next s
        ∧ Sys2Proof.Machine.exec .seatReport s = .next s ∧ Sys2Proof.Machine.exec .dropTimeout s = .next s)
    ∧ ∀ (c : Cycle) (s : State), s.changer.cycle = some c →
      (s.changer.stage = .dark → c.mode = .shutter → s.changer.gate ≠ .empty →
        Sys2Proof.Machine.exec .shutterCloseDone s =
          .next { s with changer.stage := .lift, changer.liftArm := true, changer.window := some 0 })
      ∧ (s.changer.stage ≠ .dark ∨ c.mode ≠ .shutter → Sys2Proof.Machine.exec .shutterCloseDone s = .next s)
      ∧ (∀ p t, s.changer.stage = .lift → c.skipRotate = false → s.tray.position = some p → c.target = some t → p ≠ t →
        s.changer.pause ≠ .pending → Sys2Proof.Machine.exec .liftDone s =
          .next { s with
            changer.gate := .empty, changer.liftArm := false, changer.stage := .rotate
            changer.motor := some (turnFor (traySize s) p t), changer.window := some 0 })
      ∧ (s.changer.stage ≠ .lift → Sys2Proof.Machine.exec .liftDone s = .next s)
      ∧ (s.changer.stage = .drop → s.changer.seatWindow = false → Sys2Proof.Machine.exec .dropPathReport s =
        .next { s with changer.seatWindow := true, changer.window := some 0 })
      ∧ (s.changer.stage ≠ .drop → Sys2Proof.Machine.exec .dropPathReport s = .next { s with changer.gate := .unknown })
      ∧ (s.changer.stage ≠ .drop → Sys2Proof.Machine.exec .seatReport s = .next s
        ∧ Sys2Proof.Machine.exec .dropTimeout s = .next s)
      ∧ ∀ p r, s.changer.stage = .drop → s.tray.position = some (p + 1) → s.tray.slots[p]? = some r →
        (s.changer.seatWindow = true → Sys2Proof.Machine.exec .seatReport s =
          .next { s with
            changer.gate := .loaded, changer.stage := .settle, changer.seatWindow := false, changer.window := some 0
            tray.slots := s.tray.slots.set p
              { r with presence := .present, source := .learned, shown := min 255 (r.shown + 1) } })
        ∧ (∀ g, s.changer.seatWindow = false → c.entry.move = .goto g → Sys2Proof.Machine.exec .dropTimeout s =
          .next { s with
            changer.gate := if s.changer.gate = .unknown then .unknown else .empty
            changer.stage := .settle, changer.seatWindow := false, changer.window := some 0
            tray.slots := s.tray.slots.set p { r with presence := .absent, source := .learned } }))
  ∧ (∀ (c : Cycle) (n : Int) (p t : Nat) (r : SlotRec) (w : WalkEnd) (s s1 : State), s.changer.cycle = some c →
      s.changer.stage = .drop → s.changer.seatWindow = false → s.changer.gate = .empty → c.entry.move = .step n →
      c.aborted = false → c.skipRotate = false → s.items.skipEmpties = true → s.tray.position = some (p + 1) →
      s.tray.slots[p]? = some r → s.changer.extension < traySize s → s.changer.pause ≠ .pending →
      s1 = { s with
        changer.extension := s.changer.extension + 1
        tray.slots := s.tray.slots.set p { r with presence := .absent, source := .learned } } →
      walk s1 s.program.activeMap (p + 1) (if 0 < n then 1 else -1) = some w → w.short = false → w.target = t → t ≠ p + 1 →
      Sys2Proof.Machine.exec .dropTimeout s =
        .next { s1 with
          changer.cycle := some { c with target := some t }, changer.stage := .rotate
          changer.motor := some (turnFor (traySize s) (p + 1) t), changer.window := some 0 })
  ∧ (∀ (c : Cycle) (tag : Byte) (s : State), s.changer.stage = .settle → s.changer.cycle = some c → c.entry.owner = none →
      c.entry.tags = [tag] → s.changer.queue = [] → s.changer.claim = .clear → s.program.timer = .stopped →
      s.heat.sleepPending = .clear →
      ∃ l t, Sys2Proof.Machine.exec .settleDone s = .next { s with
          link := l, trace := t, tray.search := none
          changer.stage := .idle, changer.cycle := none, changer.pause := .clear, changer.motor := none
          changer.liftArm := false, changer.seatWindow := false, changer.window := none
          changer.shutterOpen := s.changer.shutterOpen || decide (s.changer.gate = .loaded) }
        ∧ ∀ o, o = (if c.aborted then Reason.aborted else Reason.complete) →
          report (.moveDone c.entry.source c.entry.move s.tray.position (some tag) false o)
            (.moveDone s.tray.position c.entry.source c.entry.move o) s = { s with link := l, trace := t })

/-- R37, R29, R30, R31: the lift window, the stall time and the seat window raise their fault, stop motor and arm, leave
the gate UNKNOWN, end the cycle and clear the queue; a rotate stall loses the position. Outside their stage they do
nothing. Stated in ACTIVE for moves that no chase waits on. That a pause still pending lapses is the model's choice (log
55). The model's choices here: logs 1, 55. -/
def Obligations.ChangerFaultEndsTheCycle : Prop :=
  ∀ (c : Cycle) (s : State), s.changer.cycle = some c → c.entry.owner = none → (∀ e ∈ s.changer.queue, e.owner = none) →
    s.heat.power = .active →
    (∀ (cmd : Instr) (f : FaultKind),
      cmd = .liftTimeout ∧ f = .jamLift ∧ s.changer.stage = .lift
        ∨ cmd = .rotateStallTimeout ∧ f = .rotateStall ∧ s.changer.stage = .rotate
        ∨ cmd = .seatTimeout ∧ f = .jamDrop ∧ s.changer.stage = .drop ∧ s.changer.seatWindow = true →
      ∃ l t slots, Sys2Proof.Machine.exec cmd s = .next { s with
          link := l, trace := t, tray.slots := slots, tray.search := none
          tray.position := if f = .rotateStall then none else s.tray.position
          changer.stage := .idle, changer.cycle := none, changer.pause := .clear, changer.motor := none
          changer.liftArm := false, changer.seatWindow := false, changer.window := none, changer.queue := []
          changer.gate := .unknown }
        ∧ l.faults = s.link.faults ||| BitVec.twoPow 16 (faultCode f - 1)
        ∧ (f ≠ .jamDrop → slots = s.tray.slots)
        ∧ (∀ p r, f = .jamDrop → s.tray.position = some (p + 1) → s.tray.slots[p]? = some r →
          slots = s.tray.slots.set p { r with presence := .present, source := .learned }))
    ∧ (s.changer.stage ≠ .lift → Sys2Proof.Machine.exec .liftTimeout s = .next s)
    ∧ (s.changer.stage ≠ .rotate → Sys2Proof.Machine.exec .rotateStallTimeout s = .next s)
    ∧ (s.changer.stage ≠ .drop → Sys2Proof.Machine.exec .seatTimeout s = .next s)

/-! ### Lamp -/

/-- R48, R49, R79: LAMP ON accepted in OFF or FAILED enters PREHEAT at the preset level, which ends a pending cooldown,
or, with the active record FAILED and a swap possible, starts the swap whose re-strike makes it; in PREHEAT and LIT it
does nothing. The refusals come in their order. R56, R77: LAMP OFF is DONE. It takes a preheating or burning lamp OFF
with D = 0, starting the cooldown record; in a swap it cancels the re-strike; otherwise it does nothing. Stated with no
dark request waiting and no sleep pending. The model's choices here: logs 17, 28. -/
def Obligations.LampOnAndOff : Prop :=
  (∀ (h : Hdr) (s : State), servable s → h.len = 0 →
      (s.heat.power = .standby → Sys2Proof.Machine.exec (.lampOn h) s = .next (replied 0xA0 h.tag [2, 5] s))
      ∧ (s.heat.power = .active →
        (17920 < s.heat.estimate ∨ hasFault .tcoOpen s = true →
          Sys2Proof.Machine.exec (.lampOn h) s = .next (replied 0xA0 h.tag [2, 10] s))
        ∧ (s.heat.estimate ≤ 17920 → hasFault .tcoOpen s = false →
          (s.lamp.state = .swapping ∨ powerDownRuns s.lamp = true →
            Sys2Proof.Machine.exec (.lampOn h) s = .next (replied 0xA0 h.tag [2, 4] s))
          ∧ (powerDownRuns s.lamp = false →
            (s.lamp.state = .preheat ∨ s.lamp.state = .lit →
              Sys2Proof.Machine.exec (.lampOn h) s = .next (replied 0xA0 h.tag [0] s))
            ∧ (s.lamp.state = .off ∨ s.lamp.state = .failed →
              (hasFault .lampOpen s = true → Sys2Proof.Machine.exec (.lampOn h) s = .next (replied 0xA0 h.tag [2, 9] s))
              ∧ (hasFault .lampOpen s = false → lampRec s.lamp s.lamp.active = .failed →
                lampRec s.lamp (otherPos s.lamp.active) = .failed ∨ s.items.lampAutoChange = false →
                Sys2Proof.Machine.exec (.lampOn h) s = .next (replied 0xA0 h.tag [2, 11] s))
              ∧ (hasFault .lampOpen s = false → s.lamp.drive = 0 →
                (lampRec s.lamp s.lamp.active = .failed → lampRec s.lamp (otherPos s.lamp.active) ≠ .failed →
                  s.items.lampAutoChange = true →
                  ∃ l t, Sys2Proof.Machine.exec (.lampOn h) s = .next { s with
                      link := l, trace := t
                      lamp := { s.lamp with
                        state := .swapping, show_ := s.lamp.preset, ramp := 0, fade := none, restriking := false, openCount := 0
                        window := some 0
                        swap := some { newPos := otherPos s.lamp.active, auto := true, tag := none, restrike := true
                                       resume := .value s.lamp.preset } } }
                    ∧ l.replies.getLast? = some { kind := 0xA0, tag := h.tag, payload := [0], ready := false })
                ∧ (lampRec s.lamp s.lamp.active ≠ .failed →
                  ∃ t, Sys2Proof.Machine.exec (.lampOn h) s = .next t ∧ lastReply 0xA0 h.tag [0] t
                    ∧ t.lamp = { s.lamp with
                        state := .preheat, show_ := s.lamp.preset, swap := none, fade := none, restriking := false
                        ramp := if s.changer.claim = .clear then 120 else min 120 s.items.darkThreshold
                        drive := min (if s.changer.claim = .clear then 120 else min 120 s.items.darkThreshold) s.heat.ceiling
                        openCount := if t.lamp.drive < 120 then 0 else s.lamp.openCount
                        dest := if s.changer.claim = .clear then .value s.lamp.preset else .keepWarm
                        destRamp := .strikeRamp, window := some 0 }
                    ∧ t.heat = { s.heat with cooling := false, fan := t.heat.fan, stallTimer := t.heat.stallTimer }
                    ∧ t.tray = s.tray ∧ t.changer = s.changer ∧ sameShow s t ∧ sameRest s t ∧ sameFaults s t)))))))
  ∧ (∀ (h : Hdr) (s : State), servable s → h.len = 0 → s.lamp.darkWaiting = false → s.heat.sleepPending = .clear →
      (s.lamp.state = .off ∨ s.lamp.state = .failed →
        Sys2Proof.Machine.exec (.lampOff h) s = .next (replied 0xA1 h.tag [0] s))
      ∧ (∀ w, s.lamp.state = .swapping → s.lamp.swap = some w → Sys2Proof.Machine.exec (.lampOff h) s =
        .next { replied 0xA1 h.tag [0] s with lamp.swap := some { w with restrike := false } })
      ∧ (s.lamp.state = .preheat ∨ s.lamp.state = .lit →
        ∃ t, Sys2Proof.Machine.exec (.lampOff h) s = .next t ∧ lastReply 0xA1 h.tag [0] t
          ∧ t.lamp = { s.lamp with
              state := .off, ramp := 0, drive := 0, fade := none, swap := none, restriking := false, openCount := 0
              window := none }
          ∧ t.heat = { s.heat with
              cooling := s.heat.cooling || decide (0 < s.lamp.drive)
              elapsed := if 0 < s.lamp.drive then 0 else s.heat.elapsed
              fan := t.heat.fan, stallTimer := t.heat.stallTimer }
          ∧ t.tray = s.tray ∧ t.changer = s.changer ∧ sameShow s t ∧ sameRest s t ∧ sameFaults s t))

/-- R52: FADE with arguments in range is DONE and sets S; what else it sets goes by the lamp state and the dark claim.
R47, R61: SELECT LAMP starts the swap to the other position, ACCEPTED, when the lamp is dark and that lamp not FAILED;
MARK LAMP GOOD sets the named record. Their refusals, and the SELECT of the active lamp, change nothing. -/
def Obligations.FadeSelectAndMarkLamp : Prop :=
  (∀ (h : Hdr) (level duration : BitVec 16) (s : State), servable s → h.len = 4 → s.lamp.darkWaiting = false →
      (1000 < level.toNat ∨ 6000 < duration.toNat →
        Sys2Proof.Machine.exec (.fade h level duration) s = .next (replied 0xA2 h.tag [2, 3] s))
      ∧ (level.toNat ≤ 1000 → duration.toNat ≤ 6000 →
        (s.lamp.state = .lit → powerDownRuns s.lamp = false → s.changer.claim = .clear → duration ≠ 0 →
          Sys2Proof.Machine.exec (.fade h level duration) s =
            .next { replied 0xA2 h.tag [0] s with
              lamp.show_ := level.toNat, lamp.restriking := false
              lamp.fade := some { kind := .show_, a := s.lamp.ramp, b := level.toNat, n := duration.toNat, k := 0 } })
        ∧ (s.lamp.state = .lit → powerDownRuns s.lamp = false → s.changer.claim = .clear → duration = 0 →
          ∃ t, Sys2Proof.Machine.exec (.fade h level duration) s = .next t ∧ lastReply 0xA2 h.tag [0] t
            ∧ t.lamp = { s.lamp with
                show_ := level.toNat, ramp := level.toNat, drive := min level.toNat s.heat.ceiling, fade := none
                restriking := false, openCount := t.lamp.openCount }
            ∧ t.tray = s.tray ∧ t.changer = s.changer ∧ sameShow s t ∧ sameRest s t ∧ sameFaults s t)
        ∧ (s.lamp.state = .lit ∨ s.lamp.state = .preheat → powerDownRuns s.lamp = false → s.changer.claim ≠ .clear →
          Sys2Proof.Machine.exec (.fade h level duration) s =
            .next { replied 0xA2 h.tag [0] s with lamp.show_ := level.toNat })
        ∧ (s.lamp.state = .lit → powerDownRuns s.lamp = true → Sys2Proof.Machine.exec (.fade h level duration) s =
          .next { replied 0xA2 h.tag [0] s with lamp.show_ := level.toNat, lamp.preset := level.toNat })
        ∧ (s.lamp.state = .preheat → s.changer.claim = .clear → Sys2Proof.Machine.exec (.fade h level duration) s =
          .next { replied 0xA2 h.tag [0] s with
            lamp.show_ := level.toNat, lamp.dest := .value level.toNat, lamp.destRamp := .strikeRamp })
        ∧ (s.lamp.state = .off ∨ s.lamp.state = .failed → Sys2Proof.Machine.exec (.fade h level duration) s =
          .next { replied 0xA2 h.tag [0] s with lamp.show_ := level.toNat, lamp.preset := level.toNat })
        ∧ (∀ w, s.lamp.state = .swapping → s.lamp.swap = some w → Sys2Proof.Machine.exec (.fade h level duration) s =
          .next { replied 0xA2 h.tag [0] s with
            lamp.show_ := level.toNat, lamp.preset := level.toNat
            lamp.swap := some { w with resume := .value level.toNat } })))
  ∧ (∀ (h : Hdr) (pos cond : Byte) (s : State), servable s →
      (h.len = 1 →
        (1 < pos.toNat → Sys2Proof.Machine.exec (.selectLamp h pos) s = .next (replied 0xA3 h.tag [2, 3] s))
        ∧ (s.lamp.state = .preheat ∨ s.lamp.state = .lit ∨ s.lamp.state = .swapping → pos.toNat ≤ 1 →
          Sys2Proof.Machine.exec (.selectLamp h pos) s = .next (replied 0xA3 h.tag [2, 4] s))
        ∧ ∀ p : LampPos, s.lamp.state = .off ∨ s.lamp.state = .failed → (p = .a ∧ pos = 0 ∨ p = .b ∧ pos = 1) →
          (lampRec s.lamp p = .failed → Sys2Proof.Machine.exec (.selectLamp h pos) s = .next (replied 0xA3 h.tag [2, 11] s))
          ∧ (lampRec s.lamp p ≠ .failed → s.lamp.active = p →
            Sys2Proof.Machine.exec (.selectLamp h pos) s = .next (replied 0xA3 h.tag [0] s))
          ∧ (lampRec s.lamp p ≠ .failed → s.lamp.active ≠ p → s.lamp.drive = 0 →
            ∃ l t, Sys2Proof.Machine.exec (.selectLamp h pos) s = .next { s with
                link := l, trace := t
                lamp := { s.lamp with
                  state := .swapping, ramp := 0, fade := none, restriking := false, openCount := 0, window := some 0
                  swap := some { newPos := p, auto := false, tag := some h.tag, restrike := false, resume := .value 0 } } }
              ∧ l.replies.getLast? = some { kind := 0xA3, tag := h.tag, payload := [1], ready := false }))
      ∧ (h.len = 2 →
        (1 < pos.toNat ∨ cond ≠ 1 → Sys2Proof.Machine.exec (.markLamp h pos cond) s = .next (replied 0xA4 h.tag [2, 3] s))
        ∧ (pos.toNat ≤ 1 → cond = 1 → s.lamp.state = .preheat ∨ s.lamp.state = .lit ∨ s.lamp.state = .swapping →
          Sys2Proof.Machine.exec (.markLamp h pos cond) s = .next (replied 0xA4 h.tag [2, 4] s))
        ∧ (cond = 1 → s.lamp.state = .off ∨ s.lamp.state = .failed →
          (pos = 0 → Sys2Proof.Machine.exec (.markLamp h pos cond) s =
            .next { replied 0xA4 h.tag [0] s with lamp.recA := .good })
          ∧ (pos = 1 → Sys2Proof.Machine.exec (.markLamp h pos cond) s =
            .next { replied 0xA4 h.tag [0] s with lamp.recB := .good }))))

/-- R50: a fade of n steps starts at a, ends at b exactly, and never leaves the range between them nor turns back; each
step is a + trunc((b - a) * k / n). -/
def Obligations.FadeRunsFromStartToEnd : Prop :=
  ∀ (f : Fade) (k : Nat), 0 < f.n → k ≤ f.n →
    ((fadeLevel f k : Nat) : Int) = f.a + Int.tdiv (((f.b : Int) - f.a) * k) f.n
    ∧ fadeLevel f 0 = f.a ∧ fadeLevel f f.n = f.b
    ∧ min f.a f.b ≤ fadeLevel f k ∧ fadeLevel f k ≤ max f.a f.b
    ∧ (k < f.n → f.a ≤ f.b → fadeLevel f k ≤ fadeLevel f (k + 1))
    ∧ (k < f.n → f.b ≤ f.a → fadeLevel f (k + 1) ≤ fadeLevel f k)

/-- R50, R58, R59: at a step event a burning lamp's R takes the next step of its fade and D follows under the ceiling; a
sample with current sets an UNKNOWN record GOOD; the third sample without current in a row opens the filament, which
starts a swap, or with LAMP_AUTO_CHANGE OFF raises LAMP_OPEN. Stated with no dark request waiting, D at or above 120 and
no sleep pending. R49, R60, R61, R63: the end of PREHEAT lights the lamp and starts the strike fade to the destination;
the end of a swap makes the new position active, with LAMP SWAPPED, and leaves the lamp OFF or strikes it again to the
resume level. Outside their states the events do nothing. The model's choices here: logs 1, 16, 17. -/
def Obligations.LampEventsMoveTheLamp : Prop :=
  (∀ s : State, s.lamp.darkWaiting = false → s.heat.sleepPending = .clear →
      (s.lamp.state = .off ∨ s.lamp.state = .swapping ∨ s.lamp.state = .failed →
        ∀ current, Sys2Proof.Machine.exec (.fadeStep current) s = .next s)
      ∧ (s.lamp.state = .lit → 0 < s.lamp.drive →
        (∀ f, s.lamp.fade = some f → f.k + 1 < f.n → 120 ≤ min (fadeLevel f (f.k + 1)) s.heat.ceiling →
          Sys2Proof.Machine.exec (.fadeStep true) s =
            .next { s with
              lamp.ramp := fadeLevel f (f.k + 1), lamp.drive := min (fadeLevel f (f.k + 1)) s.heat.ceiling
              lamp.fade := some { f with k := f.k + 1 }, lamp.openCount := 0
              lamp.recA := if s.lamp.active = .a ∧ s.lamp.recA = .unknown then .good else s.lamp.recA
              lamp.recB := if s.lamp.active = .b ∧ s.lamp.recB = .unknown then .good else s.lamp.recB })
        ∧ (∀ f, s.lamp.fade = some f → f.n ≤ f.k + 1 → f.kind ≠ .powerDown → 120 ≤ min f.b s.heat.ceiling →
          Sys2Proof.Machine.exec (.fadeStep true) s =
            .next { s with
              lamp.ramp := f.b, lamp.drive := min f.b s.heat.ceiling, lamp.fade := none, lamp.restriking := false
              lamp.openCount := 0
              lamp.recA := if s.lamp.active = .a ∧ s.lamp.recA = .unknown then .good else s.lamp.recA
              lamp.recB := if s.lamp.active = .b ∧ s.lamp.recB = .unknown then .good else s.lamp.recB })
        ∧ (∀ f, s.lamp.fade = some f → f.n ≤ f.k + 1 → f.kind = .powerDown →
          ∃ t, Sys2Proof.Machine.exec (.fadeStep true) s = .next t ∧ t.lamp.state = .off ∧ t.lamp.ramp = 0 ∧ t.lamp.drive = 0
            ∧ t.lamp.fade = none ∧ t.heat.cooling = true ∧ t.heat.elapsed = 0 ∧ t.changer = s.changer ∧ sameShow s t
            ∧ sameRest s t ∧ sameFaults s t)
        ∧ (s.lamp.fade = none → 120 ≤ s.lamp.drive → s.lamp.openCount < 2 →
          Sys2Proof.Machine.exec (.fadeStep false) s = .next { s with lamp.openCount := s.lamp.openCount + 1 })
        ∧ (s.lamp.fade = none → 120 ≤ s.lamp.drive → s.lamp.openCount = 2 → s.items.lampAutoChange = true →
          lampRec s.lamp (otherPos s.lamp.active) ≠ .failed → s.heat.power = .active → s.lamp.restriking = false →
          ∃ t, Sys2Proof.Machine.exec (.fadeStep false) s = .next t
            ∧ t.lamp = { s.lamp with
                state := .swapping, ramp := 0, drive := 0, openCount := 0, window := some 0
                recA := if s.lamp.active = .a then .failed else s.lamp.recA
                recB := if s.lamp.active = .b then .failed else s.lamp.recB
                swap := some { newPos := otherPos s.lamp.active, auto := true, tag := none, restrike := true
                               resume := .value s.lamp.ramp } }
            ∧ t.heat.cooling = true ∧ t.heat.elapsed = 0 ∧ t.changer = s.changer ∧ sameShow s t ∧ sameRest s t
            ∧ sameFaults s t)
        ∧ (s.lamp.fade = none → 120 ≤ s.lamp.drive → s.lamp.openCount = 2 → s.items.lampAutoChange = false →
          ∃ t, Sys2Proof.Machine.exec (.fadeStep false) s = .next t ∧ t.lamp.state = .failed ∧ t.lamp.drive = 0
            ∧ lampRec t.lamp s.lamp.active = .failed ∧ t.lamp.active = s.lamp.active ∧ hasFault .lampOpen t = true
            ∧ t.heat.cooling = true ∧ t.changer = s.changer ∧ sameShow s t ∧ sameRest s t)))
  ∧ (∀ s : State,
      (s.lamp.state ≠ .preheat → Sys2Proof.Machine.exec .preheatEnd s = .next s)
      ∧ (s.lamp.state ≠ .swapping → Sys2Proof.Machine.exec .swapTravelEnd s = .next s)
      ∧ (∀ b n, s.lamp.state = .preheat →
        b = (match s.lamp.dest with | .value v => v | .keepWarm => s.items.keepWarm) →
        n = (match s.lamp.destRamp with
          | .strikeRamp => s.items.strikeRamp | .fadeOut => s.items.fadeOut | .fadeIn => s.items.fadeIn) → 0 < n →
        Sys2Proof.Machine.exec .preheatEnd s =
          .next (report (.lamp .lit s.lamp.active s.lamp.drive .strikeEnd) (.lamp s.lamp.drive .lit s.lamp.active .strikeEnd)
            { s with
              lamp.state := .lit, lamp.window := none
              lamp.fade := some { kind := .strike, a := s.lamp.ramp, b := b, n := n, k := 0 } }))
      ∧ ∀ w, s.lamp.state = .swapping → s.lamp.swap = some w → s.lamp.drive = 0 →
        (w.restrike = false → w.auto = true ∨ hasFault .lampOpen s = false → s.heat.sleepPending = .clear →
          ∃ l t, Sys2Proof.Machine.exec .swapTravelEnd s = .next { s with
              link := l, trace := t
              lamp := { s.lamp with
                state := .off, active := w.newPos, swap := none, fade := none, ramp := 0, restriking := false, openCount := 0
                window := none } }
            ∧ l.flags.getLsbD 10 = true ∧ l.flags.getLsbD 9 = true)
        ∧ (w.restrike = true → s.heat.power = .active → s.heat.estimate ≤ 17920 → hasFault .tcoOpen s = false →
          s.changer.claim = .clear →
          ∃ t, Sys2Proof.Machine.exec .swapTravelEnd s = .next t ∧ t.lamp.state = .preheat ∧ t.lamp.active = w.newPos
            ∧ t.lamp.ramp = 120 ∧ t.lamp.drive = min 120 s.heat.ceiling ∧ t.lamp.dest = w.resume ∧ t.lamp.restriking = true
            ∧ t.heat.cooling = false ∧ t.changer = s.changer ∧ sameShow s t ∧ sameRest s t ∧ sameFaults s t))

/-! ### Heat, fan, cut-out -/

/-- R65 to R68, R72, R73, R75: a heat-model update outside SLEEP takes the reading, computes H by the formula or the
wake rule, moves the trip latch with OVERTEMP, and decides zone, ceiling and strike permission by the new H; D follows
the ceiling, and a trip turns the lamp off. In SLEEP there is none. Stated with no sleep pending and no dark request
waiting, and for an ambient value and a latch in the law of the heat model, which every step keeps
(HeatEstimateChangesOnlyAtUpdates). R78: with the lamp dark the record counts one step of 0.25 s an update, and is
complete once COOLDOWN_MIN has passed and H is within COOL_MARGIN of A or COOLDOWN_LIMIT has passed too (log 20). -/
def Obligations.HeatUpdateAndCooldown : Prop :=
  (∀ (reading : Option Int) (s : State), s.heat.sleepPending = .clear → s.lamp.darkWaiting = false →
      s.heat.ambient ≤ 20480 → (21760 ≤ s.heat.estimate → s.heat.latch = true) →
      (s.heat.power = .sleep → Sys2Proof.Machine.exec (.heatUpdate reading) s = .next s)
      ∧ (s.heat.power ≠ .sleep → ∀ (a k hNew : Nat),
        a = (match reading with
          | some v => if 0 ≤ v ∧ v ≤ 20480 then v.toNat else s.heat.ambient
          | none => s.heat.ambient) →
        k = (if hasFault .fanStall s then 3
          else match s.heat.fan with | .off => 3 | .low => 12 | .medium => 24 | .high => 40) →
        hNew = (if s.heat.wakeDue then max s.heat.estimate a
          else min 65535 ((s.heat.estimate : Int) + ((s.lamp.drive * s.items.heatKin / 1000 : Nat) : Int)
            - Int.tdiv (((s.heat.estimate : Int) - a) * k) 16384).toNat) →
        ∃ t, Sys2Proof.Machine.exec (.heatUpdate reading) s = .next t
          ∧ t.heat.estimate = hNew ∧ t.heat.ambient = a ∧ t.heat.wakeDue = false ∧ t.heat.updateTimer = some 0
          ∧ hasFault .ambientSensor t = (match reading with | some v => !decide (0 ≤ v ∧ v ≤ 20480) | none => true)
          ∧ t.heat.latch = (if 21760 ≤ hNew then true else s.heat.latch && decide (17920 < hNew))
          ∧ (s.heat.latch = false → 21760 ≤ hNew → hasFault .overtemp t = true ∧ t.lamp.drive = 0 ∧ t.heat.ceiling = 0
            ∧ t.lamp.state ≠ .preheat ∧ t.lamp.state ≠ .lit ∧ t.heat.cooling = true)
          ∧ (hNew < 19200 → t.heat.zone = .full) ∧ (19200 ≤ hNew → hNew < 21760 → t.heat.zone = .derate)
          ∧ (21760 ≤ hNew → t.heat.zone = .trip)
          ∧ t.heat.allowed = (decide (hNew ≤ 17920) && !hasFault .tcoOpen s)
          ∧ (hasFault .overtemp t = true ∨ hasFault .tcoOpen s = true ∨ 21760 ≤ hNew → t.heat.ceiling = 0)
          ∧ (hasFault .overtemp t = false → hasFault .tcoOpen s = false →
            (hNew < 19200 → t.heat.ceiling = if hasFault .fanStall s then 400 else 1000)
            ∧ (19200 ≤ hNew → hNew < 21760 → t.heat.ceiling =
              if hasFault .fanStall s then 400 else 1000 - (hNew - 19200) * 600 / 2560))
          ∧ t.lamp.drive = (if t.lamp.state = .lit ∨ t.lamp.state = .preheat then min t.lamp.ramp t.heat.ceiling else 0)
          ∧ t.heat.power = s.heat.power ∧ sameShow s t ∧ sameRest s t ∧ t.tray.slots = s.tray.slots))
  ∧ (∀ (reading : Option Int) (s : State), s.heat.power ≠ .sleep → s.heat.sleepPending = .clear → s.heat.cooling = true →
      s.lamp.state = .off → s.lamp.drive = 0 → s.lamp.darkWaiting = false → s.heat.latch = false →
      ∃ t, Sys2Proof.Machine.exec (.heatUpdate reading) s = .next t ∧ sameShow s t
        ∧ (t.heat.estimate < 21760 →
          t.heat.elapsed = min 7200 (s.heat.elapsed + 1)
          ∧ t.heat.cooling = !(decide (4 * s.items.cooldownMin ≤ t.heat.elapsed)
              && (decide (t.heat.estimate ≤ t.heat.ambient + s.items.coolMargin)
                || decide (4 * s.items.cooldownLimit ≤ t.heat.elapsed)))))

/-- R71, R72, R74: the fan stall timer's end raises FAN_STALL and limits the ceiling to 400; a tach pulse restarts the
timer and clears FAN_STALL. An opened cut-out raises TCO_OPEN, wakes the part, turns the lamp off and starts the
cooldown; a closed one clears TCO_OPEN. Stated with no dark request waiting. That a tach pulse which clears FAN_STALL
computes the ceiling anew in SLEEP too is the model's choice (log 58). The model's choices here: logs 1, 17, 58. -/
def Obligations.FanAndCutOutReport : Prop :=
  ∀ s : State, s.lamp.darkWaiting = false →
    (s.heat.stallTimer = none → Sys2Proof.Machine.exec .fanStallTimeout s = .next s)
    ∧ (∀ n, s.heat.stallTimer = some n → ∃ t, Sys2Proof.Machine.exec .fanStallTimeout s = .next t
      ∧ hasFault .fanStall t = true ∧ t.heat.ceiling ≤ 400 ∧ t.lamp.drive ≤ 400 ∧ t.heat.estimate = s.heat.estimate
      ∧ t.tray.slots = s.tray.slots ∧ sameShow s t ∧ sameRest s t)
    ∧ (hasFault .fanStall s = false → Sys2Proof.Machine.exec .fanTachPulse s =
      .next { s with heat.stallTimer := if s.heat.fan = .off then none else some 0 })
    ∧ (hasFault .fanStall s = true → ∃ t, Sys2Proof.Machine.exec .fanTachPulse s = .next t
      ∧ hasFault .fanStall t = false ∧ t.heat.ceiling = heatCeiling s.heat.estimate (hasFault .overtemp s || hasFault .tcoOpen s)
      ∧ t.heat.estimate = s.heat.estimate ∧ sameShow s t ∧ sameRest s t)
    ∧ Sys2Proof.Machine.exec (.tcoLineChange s.lines.tcoOpen) s = .next s
    ∧ (s.lines.tcoOpen = false → ∃ t, Sys2Proof.Machine.exec (.tcoLineChange true) s = .next t
      ∧ hasFault .tcoOpen t = true ∧ t.lines = { s.lines with tcoOpen := true } ∧ t.lamp.drive = 0
      ∧ t.lamp.state ≠ .preheat ∧ t.lamp.state ≠ .lit ∧ t.heat.ceiling = 0 ∧ t.heat.cooling = true ∧ t.heat.fan = .high
      ∧ t.heat.allowed = false ∧ t.heat.power = (if s.heat.power = .sleep then .standby else s.heat.power)
      ∧ t.heat.estimate = s.heat.estimate ∧ sameShow s t ∧ t.items = s.items ∧ t.remote = s.remote)
    ∧ (s.lines.tcoOpen = true → s.heat.sleepPending = .clear → ∃ t, Sys2Proof.Machine.exec (.tcoLineChange false) s = .next t
      ∧ hasFault .tcoOpen t = false ∧ t.lines = { s.lines with tcoOpen := false }
      ∧ t.heat.allowed = decide (s.heat.estimate ≤ 17920) ∧ (s.heat.cooling = true → t.heat.cooling = true)
      ∧ t.heat.estimate = s.heat.estimate ∧ t.heat.power = s.heat.power ∧ sameShow s t ∧ t.items = s.items
      ∧ t.remote = s.remote)

/-! ### Tape -/

/-- R91: the refusals of the motion requests in their order, and STOP, which is never refused and does nothing without a
tape or after a stall (log 42); SEEK COUNT is refused by the same checks. Stated with no loop armed. -/
def Obligations.MotionRequestsAreChecked : Prop :=
  (∀ (h : Hdr) (s : State), servable s → h.len = 0 → s.cueLog.armed = false →
    (s.heat.power = .standby →
      Sys2Proof.Machine.exec (.play h) s = .next (replied 0xA8 h.tag [2, 5] s)
        ∧ Sys2Proof.Machine.exec (.pause h) s = .next (replied 0xAA h.tag [2, 5] s)
        ∧ Sys2Proof.Machine.exec (.rewind h) s = .next (replied 0xAB h.tag [2, 5] s)
        ∧ Sys2Proof.Machine.exec (.wind h) s = .next (replied 0xAC h.tag [2, 5] s))
    ∧ (s.heat.power = .active → s.transport.state = .noTape →
      Sys2Proof.Machine.exec (.play h) s = .next (replied 0xA8 h.tag [2, 6] s)
        ∧ Sys2Proof.Machine.exec (.pause h) s = .next (replied 0xAA h.tag [2, 6] s)
        ∧ Sys2Proof.Machine.exec (.rewind h) s = .next (replied 0xAB h.tag [2, 6] s)
        ∧ Sys2Proof.Machine.exec (.wind h) s = .next (replied 0xAC h.tag [2, 6] s))
    ∧ (s.heat.power = .active → s.transport.state ≠ .noTape → hasFault .tapeStall s = true →
      Sys2Proof.Machine.exec (.play h) s = .next (replied 0xA8 h.tag [2, 9] s)
        ∧ Sys2Proof.Machine.exec (.pause h) s = .next (replied 0xAA h.tag [2, 9] s)
        ∧ Sys2Proof.Machine.exec (.rewind h) s = .next (replied 0xAB h.tag [2, 9] s)
        ∧ Sys2Proof.Machine.exec (.wind h) s = .next (replied 0xAC h.tag [2, 9] s))
    ∧ (s.heat.power = .active → hasFault .tapeStall s = false → s.transport.state = .stopped ∨ s.transport.state = .stopping
        ∨ s.transport.state = .rewinding ∨ s.transport.state = .winding →
      Sys2Proof.Machine.exec (.pause h) s = .next (replied 0xAA h.tag [2, 6] s))
    ∧ (s.transport.state = .noTape ∨ hasFault .tapeStall s = true →
      Sys2Proof.Machine.exec (.stop h) s = .next (replied 0xA9 h.tag [0] s)))
  ∧ ∀ (h : Hdr) (count : BitVec 16) (s : State), servable s → h.len = 2 → s.cueLog.armed = false →
    (s.heat.power = .standby → Sys2Proof.Machine.exec (.seekCount h count) s = .next (replied 0xAD h.tag [2, 5] s))
    ∧ (s.heat.power = .active → s.transport.state = .noTape →
      Sys2Proof.Machine.exec (.seekCount h count) s = .next (replied 0xAD h.tag [2, 6] s))
    ∧ (s.heat.power = .active → s.transport.state ≠ .noTape → hasFault .tapeStall s = true →
      Sys2Proof.Machine.exec (.seekCount h count) s = .next (replied 0xAD h.tag [2, 9] s))

/-- R92, R89, R95, R98, R104: from STOPPED, PLAY, REWIND and WIND start their motion at once, DONE, with the stall timer
running; PLAY sets the gain to VOLUME, REWIND sets the backward mark; STOP does nothing. Stated with no seek, no loop,
no leader and no backward mark. R133, R136: the PLAY that starts at tape zero is a play from tape zero, stated with or
without a loop, a seek and a leader, with no backward mark and no armed loop REWINDING: the start map is the active map,
and with the phase IDLE loops remaining is loaded from LOOP_COUNT and SHOW_LOOP ON arms the loop; no entry is met. A
PLAY from elsewhere leaves them. R92, R93, R104, R109: from a motion state a request for another state brakes to it,
ACCEPTED with its tag, whatever the backward mark, which REWINDING has set and the brake keeps; PAUSE from PLAYING and
PLAY from PAUSED are entered at once, DONE, stated with no backward mark, and PLAY with no leader. Leaving PLAYING mutes
the audio and quiets the decoder. Stated with no seek, loop, hold or end fade. -/
def Obligations.MotionStartsAndBrakes : Prop :=
  ((∀ (h : Hdr) (s : State), servable s → h.len = 0 → s.heat.power = .active → hasFault .tapeStall s = false →
      s.transport.state = .stopped → s.transport.backMark = false → s.transport.reel = 0 → s.transport.zeroKnown = true →
      s.cueLog.phase ≠ .rewinding ∨ s.cueLog.armed = false →
      ∃ t, Sys2Proof.Machine.exec (.play h) s = .next t ∧ lastReply 0xA8 h.tag [0] t
        ∧ t.transport = { s.transport with
            state := .playing, dest := none, dir := .forward, brakeTimer := none, stallTimer := some 0, seek := none
            gain := s.items.volume, endFade := .idle }
        ∧ t.cueLog = { s.cueLog with
            entries := t.cueLog.entries, seekCue := none, startMap := some s.program.activeMap
            armed := s.cueLog.armed || (decide (s.cueLog.phase = .idle) && s.items.showLoop) }
        ∧ t.program = { s.program with loops := if s.cueLog.phase = .idle then s.items.loopCount else s.program.loops }
        ∧ t.cueLog.entries = s.cueLog.entries.map (fun e => { e with met := false })
        ∧ t.decoder = s.decoder ∧ sameSlides s t ∧ t.heat = s.heat ∧ sameRest s t ∧ sameFaults s t)
    ∧ ∀ (h : Hdr) (s : State), servable s → h.len = 0 → s.heat.power = .active → hasFault .tapeStall s = false →
      s.transport.state = .stopped → s.transport.seek = none → s.transport.backMark = false → s.cueLog.armed = false →
      s.lines.leader = false →
      (∃ t, Sys2Proof.Machine.exec (.play h) s = .next t ∧ lastReply 0xA8 h.tag [0] t
        ∧ t.transport = { s.transport with
            state := .playing, dest := none, dir := .forward, brakeTimer := none, stallTimer := some 0
            gain := s.items.volume, endFade := .idle }
        ∧ t.cueLog.entries.map (fun e => (e.reel, e.kind, e.index, e.seen))
            = s.cueLog.entries.map (fun e => (e.reel, e.kind, e.index, e.seen))
        ∧ (∀ e ∈ t.cueLog.entries, e.met = decide (e.reel + s.items.matchWindow < s.transport.reel))
        ∧ (s.transport.reel ≠ 0 ∨ s.transport.zeroKnown = false →
          t.cueLog = { s.cueLog with entries := t.cueLog.entries, seekCue := none } ∧ t.program = s.program)
        ∧ t.cueLog.seekCue = none ∧ t.decoder = s.decoder ∧ sameSlides s t ∧ t.heat = s.heat ∧ sameRest s t ∧ sameFaults s t)
      ∧ (∃ t, Sys2Proof.Machine.exec (.rewind h) s = .next t ∧ lastReply 0xAB h.tag [0] t
        ∧ t.transport = { s.transport with
            state := .rewinding, dest := none, dir := .backward, brakeTimer := none, stallTimer := some 0, backMark := true }
        ∧ t.cueLog = { s.cueLog with seekCue := none } ∧ t.decoder = s.decoder ∧ t.program = s.program ∧ sameSlides s t
        ∧ t.heat = s.heat ∧ sameRest s t ∧ sameFaults s t)
      ∧ (∃ t, Sys2Proof.Machine.exec (.wind h) s = .next t ∧ lastReply 0xAC h.tag [0] t
        ∧ t.transport = { s.transport with
            state := .winding, dest := none, dir := .forward, brakeTimer := none, stallTimer := some 0 }
        ∧ t.cueLog = { s.cueLog with seekCue := none } ∧ t.decoder = s.decoder ∧ t.program = s.program ∧ sameSlides s t
        ∧ t.heat = s.heat ∧ sameRest s t ∧ sameFaults s t)
      ∧ Sys2Proof.Machine.exec (.stop h) s = .next { replied 0xA9 h.tag [0] s with cueLog.seekCue := none })
  ∧ (∀ (h : Hdr) (s : State), servable s → h.len = 0 → s.heat.power = .active → hasFault .tapeStall s = false →
      s.transport.seek = none → s.cueLog.armed = false → s.program.hold = none → s.transport.endFade = .idle →
      (∀ (cmd : Instr) (kind : Byte) (d : Dest),
        (cmd = .stop h ∧ kind = 0xA9 ∧ d = .stopped ∧ (s.transport.state = .playing ∨ s.transport.state = .rewinding
              ∨ s.transport.state = .winding ∨ s.transport.state = .paused)
          ∨ cmd = .play h ∧ kind = 0xA8 ∧ d = .playing ∧ (s.transport.state = .rewinding ∨ s.transport.state = .winding)
          ∨ cmd = .rewind h ∧ kind = 0xAB ∧ d = .rewinding
              ∧ (s.transport.state = .playing ∨ s.transport.state = .winding ∨ s.transport.state = .paused)
          ∨ cmd = .wind h ∧ kind = 0xAC ∧ d = .winding
              ∧ (s.transport.state = .playing ∨ s.transport.state = .rewinding ∨ s.transport.state = .paused)) →
        ∃ t, Sys2Proof.Machine.exec cmd s = .next t ∧ lastReply kind h.tag [1] t
          ∧ t.transport = { s.transport with
              state := .stopping, dest := some { dest := d, source := .host, tag := some h.tag }
              dir := if s.transport.state = .rewinding then .backward else .forward
              brakeTimer := some 0, stallTimer := none
              gain := if s.transport.state = .playing then 0 else s.transport.gain }
          ∧ (s.transport.state = .playing → t.decoder.recogniser = .quiet ∧ hasFault .stuckTone t = false)
          ∧ (s.transport.state ≠ .playing → t.decoder = s.decoder)
          ∧ t.cueLog = { s.cueLog with seekCue := none } ∧ t.program = s.program ∧ sameSlides s t ∧ t.heat = s.heat
          ∧ sameRest s t)
      ∧ (s.transport.state = .playing → s.transport.backMark = false →
        ∃ t, Sys2Proof.Machine.exec (.pause h) s = .next t ∧ lastReply 0xAA h.tag [0] t ∧ t.transport = { s.transport with
            state := .paused, dest := none, dir := .still, brakeTimer := none, stallTimer := none, gain := 0 }
        ∧ t.decoder.recogniser = .quiet ∧ t.cueLog = { s.cueLog with seekCue := none } ∧ t.program = s.program
        ∧ sameSlides s t ∧ t.heat = s.heat ∧ sameRest s t)
      ∧ (s.transport.state = .paused → s.transport.backMark = false → s.lines.leader = false →
        ∃ t, Sys2Proof.Machine.exec (.play h) s = .next t ∧ lastReply 0xA8 h.tag [0] t
        ∧ t.transport = { s.transport with
            state := .playing, dest := none, dir := .forward, brakeTimer := none, stallTimer := some 0
            gain := s.items.volume }
        ∧ t.decoder = s.decoder ∧ t.cueLog.seekCue = none ∧ t.program = { s.program with loops := t.program.loops }
        ∧ sameSlides s t ∧ t.heat = s.heat ∧ sameRest s t ∧ sameFaults s t))

/-- R101, R102: a SEEK COUNT taken in STOPPED winds or rewinds toward its count, ACCEPTED, and its record holds target,
tag and direction; at its count already it ends REACHED, DONE. Stated with no seek, loop, leader or backward mark, and
SEEK_PLAY OFF. R137: the refusals of SEEK CUE in their order; a taken one is DONE and seeks the entry's reel count less
SEEK_PREROLL for the chase that follows. The start is stated from STOPPED below the target, with no seek, loop or
leader. -/
def Obligations.SeeksByCountAndByCue : Prop :=
  (∀ (h : Hdr) (count : BitVec 16) (s : State), servable s → h.len = 2 → s.heat.power = .active →
      hasFault .tapeStall s = false → s.transport.state = .stopped → s.transport.seek = none →
      s.transport.backMark = false → s.cueLog.armed = false → s.lines.leader = false → s.items.seekPlay = false →
      (s.transport.reel ≠ count.toNat → ∃ t, Sys2Proof.Machine.exec (.seekCount h count) s = .next t
        ∧ lastReply 0xAD h.tag [1] t
        ∧ t.transport = { s.transport with
            state := if s.transport.reel < count.toNat then .winding else .rewinding
            dir := if s.transport.reel < count.toNat then .forward else .backward
            backMark := decide (count.toNat < s.transport.reel)
            dest := none, brakeTimer := none, stallTimer := some 0
            seek := some { target := count.toNat, byCue := false, tag := some h.tag, playAfter := false
                           moved := if s.transport.reel < count.toNat then .forward else .backward } }
        ∧ t.cueLog = { s.cueLog with seekCue := none } ∧ t.decoder = s.decoder ∧ t.program = s.program ∧ sameSlides s t
        ∧ t.heat = s.heat ∧ sameRest s t ∧ sameFaults s t)
      ∧ (s.transport.reel = count.toNat → s.heat.sleepPending = .clear →
        ∃ t, Sys2Proof.Machine.exec (.seekCount h count) s = .next t ∧ lastReply 0xAD h.tag [0] t
          ∧ t.transport = { s.transport with
              dest := none, dir := .still, brakeTimer := none, stallTimer := none }
          ∧ t.cueLog = { s.cueLog with seekCue := none } ∧ t.decoder = s.decoder ∧ t.program = s.program ∧ sameSlides s t
          ∧ t.heat = s.heat ∧ sameRest s t ∧ sameFaults s t))
  ∧ (∀ (h : Hdr) (index : BitVec 16) (s : State), servable s → h.len = 2 →
      (999 < index.toNat → Sys2Proof.Machine.exec (.seekCue h index) s = .next (replied 0xAE h.tag [2, 3] s))
      ∧ (index.toNat ≤ 999 →
        (s.heat.power = .standby → Sys2Proof.Machine.exec (.seekCue h index) s = .next (replied 0xAE h.tag [2, 5] s))
        ∧ (s.heat.power = .active →
          (s.transport.state = .noTape → Sys2Proof.Machine.exec (.seekCue h index) s = .next (replied 0xAE h.tag [2, 6] s))
          ∧ (s.transport.state ≠ .noTape →
            (hasFault .tapeStall s = true → Sys2Proof.Machine.exec (.seekCue h index) s = .next (replied 0xAE h.tag [2, 9] s))
            ∧ (hasFault .tapeStall s = false →
              (traySize s = 0 → Sys2Proof.Machine.exec (.seekCue h index) s = .next (replied 0xAE h.tag [2, 7] s))
              ∧ (0 < traySize s →
                ((∀ e ∈ s.cueLog.entries, e.index ≠ some index.toNat) →
                  Sys2Proof.Machine.exec (.seekCue h index) s = .next (replied 0xAE h.tag [2, 14] s))
                ∧ ∀ e ∈ s.cueLog.entries, e.index = some index.toNat →
                  (∀ e' ∈ s.cueLog.entries, e'.index = some index.toNat → e' = e) →
                  s.transport.state = .stopped → s.transport.seek = none → s.cueLog.armed = false → s.lines.leader = false →
                  s.transport.reel < e.reel - s.items.seekPreroll →
                  ∃ t, Sys2Proof.Machine.exec (.seekCue h index) s = .next t ∧ lastReply 0xAE h.tag [0] t
                    ∧ t.transport = { s.transport with
                        state := .winding, dir := .forward, dest := none, brakeTimer := none, stallTimer := some 0
                        seek := some { target := e.reel - s.items.seekPreroll, byCue := true, tag := none
                                       playAfter := false, moved := .forward } }
                    ∧ t.cueLog = { s.cueLog with
                        seekCue := some { chasing := false, target := index.toNat, playAfter := s.items.seekPlay } }
                    ∧ t.decoder = s.decoder ∧ t.program = s.program ∧ sameSlides s t ∧ t.heat = s.heat ∧ sameRest s t
                    ∧ sameFaults s t))))))

/-- R93, R94, R95, R98, R135: the end of the brake enters the pending destination, with a host's request REACHED. The
first rest or PLAYING after a rewind clears the backward mark and sets the cue index to the number of counted entries
below the reel count, stated outside a loop's rewind; entries into motion are stated with no leader at the sensor. A
reel pulse moves the count by one in its direction within 0..65535 and restarts a running stall timer; a stall stops the
tape with TAPE_STALL. Outside their states the brake and the stall do nothing. R90, R96, R97, R127: an inserted cassette
starts at count 0 with tape zero unknown and an empty log; a removed one leaves NO_TAPE at once. A leader report in
REWINDING sets tape zero and brakes; in forward motion at or below count 200 it does nothing; at rest it only changes
the line. Stated with no seek, loop, hold or sleep pending. The model's choices here: logs 1, 16, 19, 21, 37. -/
def Obligations.TapeEventsByTheirRules : Prop :=
  (∀ s : State,
      (s.transport.state ≠ .stopping → Sys2Proof.Machine.exec .brakeEnd s = .next s)
      ∧ (∀ tag, s.transport.state = .stopping → s.transport.dest = some { dest := .stopped, source := .host, tag := some tag } →
        s.transport.seek = none → (s.transport.backMark = true → s.cueLog.phase ≠ .rewinding) →
        s.heat.sleepPending = .clear → ∀ r : TapeReport,
        r = { state := .stopped, reel := s.transport.reel, zeroKnown := s.transport.zeroKnown, cause := .request
              tag := some tag, outcome := some .reached, reason := none, target := none } →
        Sys2Proof.Machine.exec .brakeEnd s =
          .next (report (.tape r) (.tape r) { s with
            transport.state := .stopped, transport.dest := none, transport.dir := .still, transport.brakeTimer := none
            transport.stallTimer := none, transport.backMark := false
            program.cueIndex := if s.transport.backMark
              then ((s.cueLog.entries.filter (fun e => e.index.isSome)).filter (fun e => decide (e.reel < s.transport.reel))).length
              else s.program.cueIndex }))
      ∧ (∀ tag, s.transport.state = .stopping → s.transport.dest = some { dest := .playing, source := .host, tag := some tag } →
        (s.transport.backMark = true → s.cueLog.phase ≠ .rewinding) → s.lines.leader = false →
        ∃ t, Sys2Proof.Machine.exec .brakeEnd s = .next t
          ∧ t.transport = { s.transport with
              state := .playing, dest := none, dir := .forward, brakeTimer := none, stallTimer := some 0, backMark := false
              gain := s.items.volume, endFade := .idle }
          ∧ t.program = { s.program with
              loops := t.program.loops
              cueIndex := if s.transport.backMark
                then ((s.cueLog.entries.filter (fun e => e.index.isSome)).filter (fun e => decide (e.reel < s.transport.reel))).length
                else s.program.cueIndex }
          ∧ t.cueLog = { s.cueLog with entries := t.cueLog.entries, startMap := t.cueLog.startMap, armed := t.cueLog.armed }
          ∧ t.cueLog.entries.map (fun e => (e.reel, e.kind, e.index, e.seen))
              = s.cueLog.entries.map (fun e => (e.reel, e.kind, e.index, e.seen))
          ∧ (∀ e ∈ t.cueLog.entries, e.met = decide (e.reel + s.items.matchWindow < s.transport.reel))
          ∧ t.link.flags.getLsbD 14 = true ∧ t.decoder = s.decoder ∧ sameSlides s t ∧ t.heat = s.heat ∧ sameRest s t
          ∧ sameFaults s t)
      ∧ (∀ tag, s.transport.state = .stopping →
        s.transport.dest = some { dest := .winding, source := .host, tag := some tag } → s.lines.leader = false →
        ∀ r : TapeReport,
        r = { state := .winding, reel := s.transport.reel, zeroKnown := s.transport.zeroKnown, cause := .request
              tag := some tag, outcome := some .reached, reason := none, target := none } →
        Sys2Proof.Machine.exec .brakeEnd s =
          .next (report (.tape r) (.tape r) { s with
            transport.state := .winding, transport.dest := none, transport.dir := .forward, transport.brakeTimer := none
            transport.stallTimer := some 0 }))
      ∧ (∀ tag, s.transport.state = .stopping →
        s.transport.dest = some { dest := .rewinding, source := .host, tag := some tag } → s.lines.leader = false →
        ∀ r : TapeReport,
        r = { state := .rewinding, reel := s.transport.reel, zeroKnown := s.transport.zeroKnown, cause := .request
              tag := some tag, outcome := some .reached, reason := none, target := none } →
        Sys2Proof.Machine.exec .brakeEnd s =
          .next (report (.tape r) (.tape r) { s with
            transport.state := .rewinding, transport.dest := none, transport.dir := .backward, transport.brakeTimer := none
            transport.stallTimer := some 0, transport.backMark := true }))
      ∧ (s.transport.seek = none → s.transport.state ≠ .playing ∨ s.items.cueSource ≠ .tape →
        Sys2Proof.Machine.exec .reelTachPulse s =
          .next { s with
            transport.reel := match s.transport.dir with
              | .forward => min 65535 (s.transport.reel + 1)
              | .backward => s.transport.reel - 1
              | .still => s.transport.reel
            transport.stallTimer := s.transport.stallTimer.map (fun _ => 0) })
      ∧ (s.transport.state = .noTape ∨ s.transport.state = .stopped ∨ s.transport.state = .paused ∨ s.transport.state = .stopping →
        Sys2Proof.Machine.exec .tapeStallTimeout s = .next s)
      ∧ (s.transport.state = .rewinding ∨ s.transport.state = .winding → s.cueLog.armed = false →
        s.heat.sleepPending = .clear → s.cueLog.phase = .idle →
        ∃ t, Sys2Proof.Machine.exec .tapeStallTimeout s = .next t ∧ hasFault .tapeStall t = true
          ∧ t.transport = { s.transport with
              state := .stopped, dest := none, dir := .still, brakeTimer := none, stallTimer := none, seek := none
              backMark := false }
          ∧ t.cueLog = { s.cueLog with seekCue := none } ∧ t.decoder = s.decoder
          ∧ t.program.cueIndex = (if s.transport.backMark
              then ((s.cueLog.entries.filter (fun e => e.index.isSome)).filter (fun e => decide (e.reel < s.transport.reel))).length
              else s.program.cueIndex)
          ∧ sameSlides s t ∧ t.heat = s.heat ∧ sameRest s t))
  ∧ (∀ (present : Bool) (s : State), s.transport.seek = none → s.cueLog.armed = false → s.program.hold = none →
      s.heat.sleepPending = .clear →
      (s.transport.state = .noTape → ∃ l t, Sys2Proof.Machine.exec (.cassetteChange true) s =
        .next { s with
          link := l, trace := t, cueLog.entries := [], cueLog.full := false
          transport := { s.transport with
            state := .stopped, cassette := true, reel := 0, zeroKnown := false, dest := none, dir := .still
            brakeTimer := none, stallTimer := none } } ∧ l.flags.getLsbD 14 = true)
      ∧ (s.transport.state ≠ .noTape → s.transport.state ≠ .playing → ∃ l t,
        Sys2Proof.Machine.exec (.cassetteChange false) s =
          .next { s with
            link := l, trace := t, cueLog.seekCue := none
            transport := { s.transport with
              state := .noTape, cassette := false, reel := 0, zeroKnown := false, dest := none, dir := .still
              brakeTimer := none, stallTimer := none, backMark := false } } ∧ l.flags.getLsbD 14 = true)
      ∧ (s.transport.state = .rewinding → ∀ r : TapeReport,
        r = { state := .stopping, reel := 0, zeroKnown := true, cause := .leader, tag := none, outcome := none
              reason := none, target := none } →
        Sys2Proof.Machine.exec (.leaderChange true) s =
          .next (report (.tape r) (.tape r) { s with
            lines.leader := true
            transport := { s.transport with
              state := .stopping, reel := 0, zeroKnown := true, dir := .backward, brakeTimer := some 0, stallTimer := none
              dest := some { dest := .stopped, source := .leader, tag := none } } }))
      ∧ (s.transport.state = .winding → 200 < s.transport.reel → s.lamp.state = .off → s.program.timer = .stopped →
        s.cueLog.phase = .idle → s.cueLog.restart = false → s.lamp.darkWaiting = false →
        ∃ t, Sys2Proof.Machine.exec (.leaderChange true) s = .next t
          ∧ t.lines = { s.lines with leader := true } ∧ t.link.flags.getLsbD 15 = true
          ∧ t.transport = { s.transport with
              state := .stopping, dir := .forward, brakeTimer := some 0, stallTimer := none
              dest := some { dest := .stopped, source := .tapeEnd, tag := none } }
          ∧ t.cueLog = { s.cueLog with seekCue := none } ∧ t.program = s.program ∧ t.decoder = s.decoder ∧ sameSlides s t
          ∧ t.heat = s.heat ∧ t.items = s.items ∧ t.remote = s.remote)
      ∧ (present = false ∨ s.transport.state ≠ .rewinding ∧ s.transport.state ≠ .playing ∧ s.transport.state ≠ .winding
          ∨ s.transport.state ≠ .rewinding ∧ s.transport.reel ≤ 200 →
        Sys2Proof.Machine.exec (.leaderChange present) s = .next { s with lines.leader := present }))

/-- R104, R105, R111, R117: SET VOLUME writes VOLUME clamped to 0..63 and acts on the gain in PLAYING outside an end
fade; an end-fade step moves the gain by the fade formula to 0; REFERENCE asks for a snap in PLAYING; SET CUE SOURCE
writes the source. R118, R145: INJECT CUE's refusals, and an accepted MARK without a table entry: the cue index moves to
the next, at most 999, the CUE notice is given, and nothing else happens (log 13: the codes of the kinds). The model's
choices here: logs 1, 12, 13. -/
def Obligations.AudioSourceAndInjectedCues : Prop :=
  (∀ (h : Hdr) (x : Byte) (s : State),
      (servable s → h.len = 1 →
        (∀ v, v = min 63 x.toNat → Sys2Proof.Machine.exec (.setVolume h x) s =
          .next { replied 0xAF h.tag [0, BitVec.ofNat 8 v] s with
            items.volume := v
            transport.gain := if s.transport.state = .playing ∧ s.transport.endFade = .idle then v else s.transport.gain })
        ∧ (x = 0 → Sys2Proof.Machine.exec (.setCueSource h x) s =
          .next { replied 0xB0 h.tag [0] s with items.cueSource := .tape })
        ∧ (x = 1 → Sys2Proof.Machine.exec (.setCueSource h x) s =
          .next { replied 0xB0 h.tag [0] s with items.cueSource := .line })
        ∧ (x = 2 → Sys2Proof.Machine.exec (.setCueSource h x) s =
          .next { replied 0xB0 h.tag [0] s with items.cueSource := .host })
        ∧ (2 < x.toNat → Sys2Proof.Machine.exec (.setCueSource h x) s = .next (replied 0xB0 h.tag [2, 3] s)))
      ∧ (servable s → h.len = 0 →
        (s.transport.state = .playing → Sys2Proof.Machine.exec (.reference h) s =
          .next { replied 0xB2 h.tag [0] s with decoder.snap := true })
        ∧ (s.transport.state ≠ .playing → Sys2Proof.Machine.exec (.reference h) s = .next (replied 0xB2 h.tag [2, 6] s)))
      ∧ (∀ g0 n k, s.transport.state = .playing → s.transport.endFade = .running g0 n k →
        (k + 1 < n → Sys2Proof.Machine.exec .endFadeStep s =
          .next { s with
            transport.gain := ((g0 : Int) + Int.tdiv (-(g0 : Int) * (k + 1)) n).toNat
            transport.endFade := .running g0 n (k + 1) })
        ∧ (n ≤ k + 1 → s.cueLog.phase ≠ .ending → Sys2Proof.Machine.exec .endFadeStep s =
          .next { s with transport.gain := 0, transport.endFade := .held }))
      ∧ (s.transport.state ≠ .playing ∨ s.transport.endFade = .idle ∨ s.transport.endFade = .held →
        Sys2Proof.Machine.exec .endFadeStep s = .next s))
  ∧ (∀ (h : Hdr) (kind : Byte) (s : State), servable s → h.len = 1 →
      (kind = 0 ∨ 5 < kind.toNat → Sys2Proof.Machine.exec (.injectCue h kind) s = .next (replied 0xB1 h.tag [2, 3] s))
      ∧ (1 ≤ kind.toNat → kind.toNat ≤ 5 →
        (s.items.cueSource ≠ .host → Sys2Proof.Machine.exec (.injectCue h kind) s = .next (replied 0xB1 h.tag [2, 6] s))
        ∧ (s.items.cueSource = .host → s.heat.power = .standby →
          Sys2Proof.Machine.exec (.injectCue h kind) s = .next (replied 0xB1 h.tag [2, 5] s)))
      ∧ (kind = BitVec.ofNat 8 (cueKindCode .mark) → s.items.cueSource = .host → s.heat.power = .active →
        s.items.relayOut = false → (∀ e ∈ s.program.table, e.index ≠ min 999 (s.program.cueIndex + 1)) →
        ∃ l t, Sys2Proof.Machine.exec (.injectCue h kind) s =
            .next { s with link := l, trace := t, program.cueIndex := min 999 (s.program.cueIndex + 1) }
          ∧ l.flags.getLsbD 2 = true
          ∧ l.replies.getLast? = some { kind := 0xB1, tag := h.tag, payload := [0], ready := false }))

/-! ### Cues and relay -/

/-- R109 to R116: an analysis frame acts in PLAYING only. Tone i is on when its level is at or above floor plus
threshold; the recogniser takes its candidate, counts it to CUE_QUALIFY and recognises it, and hands a tape cue to the
Cue Log; a burst counts its frames and raises STUCK_TONE past CUE_MAX_BURST; CUE_GAP silent frames end it and clear
STUCK_TONE; 64 silent frames adapt the floors. A snap pending sets the floors to the frame's levels first. The one
THERMAL report at the end of the command, and the order of a fault's notice and record, are the model's choices (logs 17
and 16). The model's choices here: logs 12, 16, 17, 52. -/
def Obligations.AnalysisFrameFindsTones : Prop :=
  ∀ (l1 l2 l3 : Byte) (tones : BitVec 3) (s : State),
    (s.transport.state ≠ .playing → Sys2Proof.Machine.exec (.analysisFrame l1 l2 l3) s = .next s)
    ∧ (s.transport.state = .playing → s.decoder.snap = true → Sys2Proof.Machine.exec (.analysisFrame l1 l2 l3) s =
      Sys2Proof.Machine.exec (.analysisFrame l1 l2 l3) { s with
        decoder.snap := false, decoder.quietFrames := 0, decoder.floor1 := l1.toNat, decoder.floor2 := l2.toNat
        decoder.floor3 := l3.toNat })
    ∧ (s.transport.state = .playing → s.decoder.snap = false →
      tones.getLsbD 0 = decide (s.decoder.floor1 + s.items.threshold1 ≤ l1.toNat) →
      tones.getLsbD 1 = decide (s.decoder.floor2 + s.items.threshold2 ≤ l2.toNat) →
      tones.getLsbD 2 = decide (s.decoder.floor3 + s.items.threshold3 ≤ l3.toNat) →
      (tones ≠ 0 → s.decoder.recogniser = .quiet ∨ (∃ u n, s.decoder.recogniser = .candidate u n ∧ u ≠ tones) →
        Sys2Proof.Machine.exec (.analysisFrame l1 l2 l3) s =
          .next { s with
            decoder.level1 := l1.toNat, decoder.level2 := l2.toNat, decoder.level3 := l3.toNat
            decoder.recogniser := .candidate tones 1 })
      ∧ (∀ n, tones ≠ 0 → s.decoder.recogniser = .candidate tones n →
        (n + 1 < s.items.cueQualify → Sys2Proof.Machine.exec (.analysisFrame l1 l2 l3) s =
          .next { s with
            decoder.level1 := l1.toNat, decoder.level2 := l2.toNat, decoder.level3 := l3.toNat
            decoder.recogniser := .candidate tones (n + 1) })
        ∧ (s.items.cueQualify ≤ n + 1 → tones = 5 ∨ tones = 7 →
          Sys2Proof.Machine.exec (.analysisFrame l1 l2 l3) s =
            .next (offer (.invalid s.transport.reel tones) { s with
              decoder.level1 := l1.toNat, decoder.level2 := l2.toNat, decoder.level3 := l3.toNat
              decoder.recogniser := .burst, decoder.burstLen := n + 1, decoder.rejects := min 65535 (s.decoder.rejects + 1) }))
        ∧ (s.items.cueQualify ≤ n + 1 → tones ≠ 5 → tones ≠ 7 → s.items.cueSource ≠ .tape →
          Sys2Proof.Machine.exec (.analysisFrame l1 l2 l3) s =
            .next { s with
              decoder.level1 := l1.toNat, decoder.level2 := l2.toNat, decoder.level3 := l3.toNat
              decoder.recogniser := .burst, decoder.burstLen := n + 1 })
        ∧ (∀ kind, s.items.cueQualify ≤ n + 1 → s.items.cueSource = .tape →
          (tones, kind) ∈ ([(1, .advance), (2, .reverse), (3, .mark), (4, .ending), (6, .hold)] : List (BitVec 3 × CueKind)) →
          Sys2Proof.Machine.exec (.analysisFrame l1 l2 l3) s =
            .next (withThermal (fun u => logCue kind { u with
              decoder.level1 := l1.toNat, decoder.level2 := l2.toNat, decoder.level3 := l3.toNat
              decoder.recogniser := .burst, decoder.burstLen := n + 1 }) s)))
      ∧ (∀ len, tones ≠ 0 → s.decoder.recogniser = .burst ∨ s.decoder.recogniser = .gap →
        len = min 65535 (s.decoder.burstLen + 1) →
        (len ≤ s.items.cueMaxBurst → Sys2Proof.Machine.exec (.analysisFrame l1 l2 l3) s =
          .next { s with
            decoder.level1 := l1.toNat, decoder.level2 := l2.toNat, decoder.level3 := l3.toNat
            decoder.recogniser := .burst, decoder.gapCount := 0, decoder.burstLen := len })
        ∧ (s.items.cueMaxBurst < len → Sys2Proof.Machine.exec (.analysisFrame l1 l2 l3) s =
          .next (raiseFault .stuckTone none { s with
            decoder.level1 := l1.toNat, decoder.level2 := l2.toNat, decoder.level3 := l3.toNat
            decoder.recogniser := .burst, decoder.gapCount := 0, decoder.burstLen := len })))
      ∧ (tones = 0 → s.decoder.quietFrames < 63 →
        (∀ u n, s.decoder.recogniser = .candidate u n → Sys2Proof.Machine.exec (.analysisFrame l1 l2 l3) s =
          .next { s with
            decoder.level1 := l1.toNat, decoder.level2 := l2.toNat, decoder.level3 := l3.toNat
            decoder.recogniser := .quiet, decoder.quietFrames := s.decoder.quietFrames + 1 })
        ∧ (s.decoder.recogniser = .burst → Sys2Proof.Machine.exec (.analysisFrame l1 l2 l3) s =
          .next { s with
            decoder.level1 := l1.toNat, decoder.level2 := l2.toNat, decoder.level3 := l3.toNat
            decoder.recogniser := .gap, decoder.gapCount := 1, decoder.quietFrames := s.decoder.quietFrames + 1 })
        ∧ (s.decoder.recogniser = .gap → s.decoder.gapCount + 1 < s.items.cueGap →
          Sys2Proof.Machine.exec (.analysisFrame l1 l2 l3) s =
            .next { s with
              decoder.level1 := l1.toNat, decoder.level2 := l2.toNat, decoder.level3 := l3.toNat
              decoder.gapCount := s.decoder.gapCount + 1, decoder.quietFrames := s.decoder.quietFrames + 1 })
        ∧ (s.decoder.recogniser = .gap → s.items.cueGap ≤ s.decoder.gapCount + 1 →
          Sys2Proof.Machine.exec (.analysisFrame l1 l2 l3) s =
            .next (clearFault .stuckTone { s with
              decoder.level1 := l1.toNat, decoder.level2 := l2.toNat, decoder.level3 := l3.toNat
              decoder.recogniser := .quiet, decoder.gapCount := s.decoder.gapCount + 1
              decoder.quietFrames := s.decoder.quietFrames + 1 })))
      ∧ (tones = 0 → s.decoder.recogniser = .quiet →
        (s.decoder.quietFrames < 63 → Sys2Proof.Machine.exec (.analysisFrame l1 l2 l3) s =
          .next { s with
            decoder.level1 := l1.toNat, decoder.level2 := l2.toNat, decoder.level3 := l3.toNat
            decoder.quietFrames := s.decoder.quietFrames + 1 })
        ∧ (s.decoder.quietFrames = 63 → Sys2Proof.Machine.exec (.analysisFrame l1 l2 l3) s =
          .next { s with
            decoder.level1 := l1.toNat, decoder.level2 := l2.toNat, decoder.level3 := l3.toNat, decoder.quietFrames := 0
            decoder.floor1 := ((s.decoder.floor1 : Int) + Int.tdiv ((l1.toNat : Int) - s.decoder.floor1) 16).toNat
            decoder.floor2 := ((s.decoder.floor2 : Int) + Int.tdiv ((l2.toNat : Int) - s.decoder.floor2) 16).toNat
            decoder.floor3 := ((s.decoder.floor3 : Int) + Int.tdiv ((l3.toNat : Int) - s.decoder.floor3) 16).toNat })))

/-- R129 to R132, R134, R144: a tape cue that matches no entry is inserted behind the entries at or below the reel
count, a counted one numbered after those before it, and the counted ones behind it move up by one; one that matches
raises the nearest entry's seen count, held at 255, and marks it met, its reel count standing. In a full log the cue is
not logged and LOG_FULL set. Each is handed on with its entry's index, a counted one with the slip test. In PLAYING a
count that moves past an unmet entry's window marks it met, with a MISSED record, or with CUE_FILL_IN ON a SYNTH record
and the entry's cue (log 60). That CUE SLIP's notice stands before its record is the model's choice (log 16). The
model's choices here: logs 16, 17, 60. -/
def Obligations.TapeCueIsMatchedOrInserted : Prop :=
  ∀ (kind : CueKind) (c : Nat) (log : List LogEntry), logLaw log →
    (logLaw (insertEntry kind c log) ∨ 512 ≤ log.length)
    ∧ (insertEntry kind c log).length = log.length + 1
    ∧ (∃ i, (insertEntry kind c log)[i]? = some
        { reel := c, kind := kind, seen := 1, met := true
          index := if kind = .advance ∨ kind = .mark
            then some (((log.take i).filter (fun e => e.index.isSome)).length + 1) else none }
      ∧ (∀ j e, j < i → log[j]? = some e → e.reel ≤ c ∧ (insertEntry kind c log)[j]? = some e)
      ∧ (∀ j e, i ≤ j → log[j]? = some e → c < e.reel
        ∧ (insertEntry kind c log)[j + 1]? =
          some { e with index := if kind = .advance ∨ kind = .mark then e.index.map (· + 1) else e.index }))
    ∧ ∀ s : State, s.cueLog.entries = log → s.transport.reel = c →
      (matchPosition kind c s = none ↔ ∀ e ∈ log, e.kind = kind → e.met = false →
        e.reel + s.items.matchWindow < c ∨ c + s.items.matchWindow < e.reel)
      ∧ (∀ i, matchPosition kind c s = some i → ∃ e, log[i]? = some e ∧ e.kind = kind ∧ e.met = false
        ∧ e.reel ≤ c + s.items.matchWindow ∧ c ≤ e.reel + s.items.matchWindow
        ∧ ∀ j e', log[j]? = some e' → e'.kind = kind → e'.met = false →
          reelDistance e.reel c < reelDistance e'.reel c ∨ reelDistance e.reel c = reelDistance e'.reel c ∧ i ≤ j)
      ∧ (∀ i e, matchPosition kind c s = some i → log[i]? = some e →
        logCue kind s = handCue kind .tape e.index c { s with
          cueLog.entries := log.set i { e with seen := min 255 (e.seen + 1), met := true } })
      ∧ (matchPosition kind c s = none → log.length < 512 → ∀ i e, (insertEntry kind c log)[i]? = some e →
        (∀ j e', log[j]? = some e' → (j < i ↔ e'.reel ≤ c)) → i ≤ log.length →
        logCue kind s = handCue kind .tape e.index c { s with cueLog.entries := insertEntry kind c log })
      ∧ (matchPosition kind c s = none → 512 ≤ log.length →
        logCue kind s = takeCue kind .tape none (some c) { s with cueLog.full := true })
      ∧ (∀ origin, handCue kind origin none c s = takeCue kind origin none (some c) s
        ∧ ∀ i, (i = s.program.cueIndex + 1 → handCue kind origin (some i) c s = takeCue kind origin (some i) (some c) s)
          ∧ (i ≠ s.program.cueIndex + 1 → handCue kind origin (some i) c s = takeCue kind origin (some i) (some c)
            (report (.cueSlip (s.program.cueIndex + 1) i origin (some c))
              (.cueSlip i (some c) (s.program.cueIndex + 1) origin) s)))
      ∧ ∀ (missed : List LogEntry) (s1 : State), s.transport.state = .playing → s.items.cueSource = .tape →
        s.transport.seek = none → s.transport.dir = .forward → c < 65535 →
        missed = log.filter (fun e => !e.met && decide (e.reel + s.items.matchWindow < c + 1)) →
        s1 = { s with
          transport.reel := c + 1, transport.stallTimer := s.transport.stallTimer.map (fun _ => 0)
          cueLog.entries :=
            log.map (fun e => if e.reel + s.items.matchWindow < c + 1 then { e with met := true } else e) } →
        (s.items.cueFillIn = false → Sys2Proof.Machine.exec .reelTachPulse s =
          .next (missed.foldl (fun u e => offer (.missed e.index e.reel e.kind) u) s1))
        ∧ (s.items.cueFillIn = true → missedTest { s with
            transport.reel := c + 1, transport.stallTimer := s.transport.stallTimer.map (fun _ => 0) } =
          missed.foldl (fun u e => handCue e.kind .synth e.index (c + 1)
            (offer (.synth e.index (c + 1) e.kind e.reel) u)) s1)
        ∧ (∀ e i, s.items.cueFillIn = true → missed = [e] → e.kind = .mark → e.index = some i →
          i = s.program.cueIndex + 1 → i ≤ 999 → (∀ x ∈ s.program.table, x.index ≠ i) → s.items.relayOut = false →
          Sys2Proof.Machine.exec .reelTachPulse s =
            .next (give (.cue .mark i .synth (some (c + 1)))
              { offer (.synth (some i) (c + 1) .mark e.reel) s1 with program.cueIndex := i }))

/-- R119 to R124: the relay. A transmission's end releases the line for its gap, and the gap's end starts the oldest
queued frame. A start pulse begins reception; a timing error, bad parity or a code without a kind drops the frame with
its record; a good frame is ignored by a part that neither originates nor takes its cues from the line; with CUE_SOURCE
LINE in ACTIVE it is a cue, its index held at 999, with the slip test of a counted one (log 39). A frame sent has the
code of its kind in bits 1 to 3, its index in bits 4 to 13 and an even number of ones, and lasts as long as its bits
take. The THERMAL report at the command's end (log 17) and the order of notice and record (log 16) are the model's
choices. The model's choices here: logs 1, 4, 13, 16, 17, 39. -/
def Obligations.RelayFramesComeAndGo : Prop :=
  ∀ (w : BitVec 14) (s : State),
    (∀ f, s.decoder.relaySending = some f → Sys2Proof.Machine.exec .relayOutFrameSent s =
      .next { s with decoder.relaySending := none, decoder.releaseTimer := some 0 })
    ∧ (s.decoder.relaySending = none → Sys2Proof.Machine.exec .relayOutFrameSent s = .next s)
    ∧ (∀ n f fs, s.decoder.releaseTimer = some n → s.decoder.relayQueue = f :: fs →
      Sys2Proof.Machine.exec .relayOutGapEnd s =
        .next { s with decoder.releaseTimer := none, decoder.relaySending := some f, decoder.relayQueue := fs })
    ∧ (∀ n, s.decoder.releaseTimer = some n → s.decoder.relayQueue = [] → Sys2Proof.Machine.exec .relayOutGapEnd s =
      .next { s with decoder.releaseTimer := none })
    ∧ (s.decoder.releaseTimer = none → Sys2Proof.Machine.exec .relayOutGapEnd s = .next s)
    ∧ (s.heat.power = .sleep → Sys2Proof.Machine.exec .relayInStartPulse s = .next s
      ∧ Sys2Proof.Machine.exec (.relayInFrame w) s = .next s)
    ∧ (s.heat.power ≠ .sleep →
      (s.decoder.relayIn = .idle → Sys2Proof.Machine.exec .relayInStartPulse s =
        .next { s with decoder.relayIn := .receiving [] })
      ∧ (∀ bits, s.decoder.relayIn = .receiving bits → Sys2Proof.Machine.exec .relayInStartPulse s =
        .next (offer (.relayDrop .timing) { s with decoder.relayIn := .receiving [] }))
      ∧ (((List.range 14).filter (fun i => w.getLsbD i)).length % 2 = 1 → Sys2Proof.Machine.exec (.relayInFrame w) s =
        .next (offer (.relayDrop .parity) { s with decoder.relayIn := .idle }))
      ∧ (((List.range 14).filter (fun i => w.getLsbD i)).length % 2 = 0 →
        ((w.extractLsb' 11 3).toNat = 0 ∨ 5 < (w.extractLsb' 11 3).toNat → Sys2Proof.Machine.exec (.relayInFrame w) s =
          .next (offer (.relayDrop .kind) { s with decoder.relayIn := .idle }))
        ∧ (1 ≤ (w.extractLsb' 11 3).toNat → (w.extractLsb' 11 3).toNat ≤ 5 →
          (s.items.relayOut = false → s.items.cueSource ≠ .line → Sys2Proof.Machine.exec (.relayInFrame w) s =
            .next { s with decoder.relayIn := .idle })
          ∧ (s.items.relayOut = true → s.items.cueSource ≠ .line → s.decoder.relayQueue = [] →
            ∃ l t, Sys2Proof.Machine.exec (.relayInFrame w) s =
                .next { s with link := l, trace := t, decoder.relayIn := .idle, decoder.conflictTimer := some 0 }
              ∧ l.faults.getLsbD (faultCode .relayConflict - 1) = true)
          ∧ (s.items.cueSource = .line → s.heat.power = .standby → Sys2Proof.Machine.exec (.relayInFrame w) s =
            .next (offer (.relayDrop .notActive) { s with decoder.relayIn := .idle }))
          ∧ (∀ kind index, s.items.cueSource = .line → s.heat.power = .active → index = (w.extractLsb' 1 10).toNat →
            (w.extractLsb' 11 3).toNat = cueKindCode kind →
            (kind ≠ .advance ∧ kind ≠ .mark ∨ index = s.program.cueIndex + 1 →
              Sys2Proof.Machine.exec (.relayInFrame w) s =
                .next (withThermal (fun u => takeCue kind .line (some (min 999 index)) none
                  { u with decoder.relayIn := .idle }) s))
            ∧ (kind = .advance ∨ kind = .mark → index ≠ s.program.cueIndex + 1 →
              Sys2Proof.Machine.exec (.relayInFrame w) s =
                .next (withThermal (fun u => takeCue kind .line (some (min 999 index)) none
                  (report (.cueSlip (s.program.cueIndex + 1) index .line none)
                    (.cueSlip (min 999 index) none (s.program.cueIndex + 1) .line)
                    { u with decoder.relayIn := .idle })) s))))))
    ∧ (∀ f : RelayFrame, f.index ≤ 999 →
      ((relayWord f).extractLsb' 11 3).toNat = cueKindCode f.kind ∧ ((relayWord f).extractLsb' 1 10).toNat = f.index
      ∧ ((List.range 14).filter (fun i => (relayWord f).getLsbD i)).length % 2 = 0
      ∧ (relayBits f).length = 14 ∧ (∀ i, i < 14 → (relayBits f)[i]? = some ((relayWord f).getLsbD (13 - i)))
      ∧ relayPulses f = (8, 1) :: (relayBits f).map (fun b => if b then (2, 1) else (1, 1))
      ∧ relayFrameMs f = 37 + ((relayBits f).filter (fun b => b)).length)
    ∧ (s.decoder.relayIn = .idle → Sys2Proof.Machine.exec .relayInTimingError s = .next s)
    ∧ (∀ bits, s.decoder.relayIn = .receiving bits → Sys2Proof.Machine.exec .relayInTimingError s =
      .next (offer (.relayDrop .timing) { s with decoder.relayIn := .idle }))
    ∧ (s.decoder.conflictTimer = none → Sys2Proof.Machine.exec .relayConflictTimeout s = .next s)
    ∧ (∀ n, s.decoder.conflictTimer = some n → Sys2Proof.Machine.exec .relayConflictTimeout s =
      .next (clearFault .relayConflict { s with decoder.conflictTimer := none }))

/-! ### Cue log, cue table, show -/

/-- R127, R128: READ CUE LOG returns the entry count, the start position and up to eight entries of six bytes from it,
and changes nothing; a start above 511 is refused. CLEAR CUE LOG empties the log and its full flag. R150, R159: DELETE
ENTRY removes the entry of its index and CLEAR TABLE all, unless the table is protected; READ ENTRY answers the entry of
its index or of the next above, in chapter 11's layout, with the table's counts, and changes nothing. R155 to R157:
CHASE's refusals; a taken one sets the map and the cue index and offers a GOTO to the slot the simulated show ends on,
after the queued moves have ended MOVE FAILED: behind a running cycle it is the queue's one entry, else its cycle
starts. The show starts on SHOW_START_SLOT and map; the entries below the counted entry of the next index are walked,
then the indices above the log as ADVANCEs; a table entry acts by its STEP, GOTO and SELECT MAP only. The model's
choices here: logs 13, 23. -/
def Obligations.CueLogAndTableRequests : Prop :=
  (∀ (h : Hdr) (start : BitVec 16) (s : State), servable s →
      (h.len = 2 → 511 < start.toNat → Sys2Proof.Machine.exec (.readCueLog h start) s = .next (replied 0xB7 h.tag [2, 3] s))
      ∧ (h.len = 2 → start.toNat ≤ 511 → ∃ bytes : List Byte,
        Sys2Proof.Machine.exec (.readCueLog h start) s = .next (replied 0xB7 h.tag (0 :: bytes) s)
        ∧ bytes.take 4 = [BitVec.ofNat 8 (s.cueLog.entries.length / 256), BitVec.ofNat 8 s.cueLog.entries.length,
            BitVec.ofNat 8 (start.toNat / 256), BitVec.ofNat 8 start.toNat]
        ∧ bytes.length = 4 + 6 * min 8 (s.cueLog.entries.length - start.toNat)
        ∧ ∀ i e, i < 8 → s.cueLog.entries[start.toNat + i]? = some e →
          (bytes.drop (4 + 6 * i)).take 6 =
            [BitVec.ofNat 8 (e.reel / 256), BitVec.ofNat 8 e.reel, BitVec.ofNat 8 (cueKindCode e.kind + if e.met then 8 else 0),
              BitVec.ofNat 8 (e.index.getD 0 / 256), BitVec.ofNat 8 (e.index.getD 0), BitVec.ofNat 8 e.seen])
      ∧ (h.len = 0 → Sys2Proof.Machine.exec (.clearCueLog h) s =
        .next { replied 0xB8 h.tag [0] s with cueLog.entries := [], cueLog.full := false }))
  ∧ (∀ (h : Hdr) (index : BitVec 16) (s : State), servable s →
      (h.len = 2 →
        (index = 0 ∨ 999 < index.toNat → Sys2Proof.Machine.exec (.deleteEntry h index) s = .next (replied 0xB4 h.tag [2, 3] s))
        ∧ (1 ≤ index.toNat → index.toNat ≤ 999 →
          (s.program.protectTable = true → s.program.service = false →
            Sys2Proof.Machine.exec (.deleteEntry h index) s = .next (replied 0xB4 h.tag [2, 12] s))
          ∧ (s.program.protectTable = false ∨ s.program.service = true →
            ((∀ e ∈ s.program.table, e.index ≠ index.toNat) →
              Sys2Proof.Machine.exec (.deleteEntry h index) s = .next (replied 0xB4 h.tag [2, 14] s))
            ∧ ((∃ e ∈ s.program.table, e.index = index.toNat) → Sys2Proof.Machine.exec (.deleteEntry h index) s =
              .next { replied 0xB4 h.tag [0] s with
                program.table := s.program.table.filter (fun e => e.index != index.toNat) }))))
      ∧ (h.len = 3 → ∀ mode : Byte,
        (999 < index.toNat ∨ 1 < mode.toNat →
          Sys2Proof.Machine.exec (.readEntry h index mode) s = .next (replied 0xB5 h.tag [2, 3] s))
        ∧ (index.toNat ≤ 999 → tableLaw s.program.table →
          ∀ wanted : TableEntry → Prop,
            (mode = 0 ∧ wanted = (fun e => e.index = index.toNat)
              ∨ mode = 1 ∧ wanted = (fun e => index.toNat < e.index ∧ ∀ e' ∈ s.program.table, index.toNat < e'.index → e.index ≤ e'.index)) →
            ((∀ e ∈ s.program.table, ¬ wanted e) →
              Sys2Proof.Machine.exec (.readEntry h index mode) s = .next (replied 0xB5 h.tag [2, 14] s))
            ∧ ∀ e ∈ s.program.table, wanted e → Sys2Proof.Machine.exec (.readEntry h index mode) s =
              .next (replied 0xB5 h.tag
                (0 :: tableEntryBytes e ++ [BitVec.ofNat 8 s.program.table.length,
                  BitVec.ofNat 8 (poolUsed s.program.table / 256), BitVec.ofNat 8 (poolUsed s.program.table)]) s)))
      ∧ (∀ (two : Nat → List Byte) (row : Action → List Byte), (∀ n, two n = [BitVec.ofNat 8 (n / 256), BitVec.ofNat 8 n]) →
        (∀ n, row (.step n) = [1, (BitVec.ofInt 16 n).extractLsb' 8 8, BitVec.ofInt 8 n, 0, 0]) →
        (∀ t, row (.goto t) = 2 :: two t ++ [0, 0]) → (∀ l d, row (.fade l d) = 3 :: two l ++ two d) →
        (∀ m, row (.selectMap m) = 4 :: two m ++ [0, 0]) → (∀ p, row (.timerStart p) = 5 :: two p ++ [0, 0]) →
        row .timerStop = [6, 0, 0, 0, 0] → row .hold = [7, 0, 0, 0, 0] → (∀ tag, row (.notify tag) = 8 :: two tag ++ [0, 0]) →
        ∀ e, tableEntryBytes e = two e.index ++ BitVec.ofNat 8 e.actions.length :: e.actions.flatMap row)
      ∧ (h.len = 0 →
        (s.program.protectTable = true → s.program.service = false →
          Sys2Proof.Machine.exec (.clearTable h) s = .next (replied 0xB6 h.tag [2, 12] s))
        ∧ (s.program.protectTable = false ∨ s.program.service = true →
          Sys2Proof.Machine.exec (.clearTable h) s = .next { replied 0xB6 h.tag [0] s with program.table := [] })))
  ∧ (∀ (h : Hdr) (index : BitVec 16) (s : State), servable s → h.len = 2 →
      (999 < index.toNat → Sys2Proof.Machine.exec (.chase h index) s = .next (replied 0xB9 h.tag [2, 3] s))
      ∧ (index.toNat ≤ 999 →
        (s.heat.power = .standby → Sys2Proof.Machine.exec (.chase h index) s = .next (replied 0xB9 h.tag [2, 5] s))
        ∧ (s.heat.power = .active → traySize s = 0 →
          Sys2Proof.Machine.exec (.chase h index) s = .next (replied 0xB9 h.tag [2, 7] s))
        ∧ (s.heat.power = .active → 0 < traySize s → changerFault s = true →
          Sys2Proof.Machine.exec (.chase h index) s = .next (replied 0xB9 h.tag [2, 9] s))
        ∧ (movesOpen s → ∀ r, r = chaseResult index.toNat s →
          (s.changer.stage ≠ .idle → s.changer.queue = [] → Sys2Proof.Machine.exec (.chase h index) s =
            .next { replied 0xB9 h.tag [0] s with
              program.activeMap := r.map, program.cueIndex := index.toNat
              changer.queue := [{ source := .chase, move := .goto r.slot, tags := [], owner := none }] })
          ∧ (s.changer.stage ≠ .idle → ∃ t, Sys2Proof.Machine.exec (.chase h index) s = .next t ∧ lastReply 0xB9 h.tag [0] t
            ∧ t.changer = { s.changer with
                queue := [{ source := .chase, move := .goto r.slot, tags := [], owner := none }] }
            ∧ (s.changer.queue ≠ [] → t.link.flags.getLsbD 1 = true)
            ∧ t.program = { s.program with activeMap := r.map, cueIndex := index.toNat } ∧ t.cueLog.entries = s.cueLog.entries
            ∧ t.tray = s.tray ∧ t.lamp = s.lamp ∧ t.heat = s.heat ∧ t.transport = s.transport ∧ sameRest s t ∧ sameFaults s t)
          ∧ (s.changer.stage = .idle → ∃ t, Sys2Proof.Machine.exec (.chase h index) s = .next t ∧ lastReply 0xB9 h.tag [0] t
            ∧ t.program.activeMap = r.map ∧ t.program.cueIndex = index.toNat ∧ t.changer.queue = [])))
      ∧ (tableLaw s.program.table → logLaw s.cueLog.entries →
        ∀ (step : Int → Sim → Sim) (act : Action → Sim → Sim) (cue : CueKind → Nat → Sim → Sim) (start : Sim),
        (∀ n m, step n m = match walk s m.map m.slot n with
          | some w => { m with slot := w.target }
          | none => m) →
        (∀ a m, act a m = match a with
          | .step n => step n m
          | .goto t => if t ≤ traySize s then { m with slot := t } else m
          | .selectMap k => { m with map := k }
          | _ => m) →
        (∀ kind i m, (∀ e ∈ s.program.table, e.index = i → cue kind i m = e.actions.foldl (fun m a => act a m) m)
          ∧ ((∀ e ∈ s.program.table, e.index ≠ i) → cue kind i m = if kind = .advance then step 1 m else m)) →
        start = { slot := if s.items.showStartSlot ≤ traySize s then s.items.showStartSlot else 0
                  map := s.cueLog.startMap.getD s.program.activeMap } →
        ∀ (i k : Nat) (walked : List LogEntry), k = (s.cueLog.entries.filter (fun e => e.index.isSome)).length →
          (∀ e ∈ s.cueLog.entries, e.index = some (i + 1) →
            walked = s.cueLog.entries.filter (fun e' => decide (e'.reel < e.reel))) →
          ((∀ e ∈ s.cueLog.entries, e.index ≠ some (i + 1)) → walked = s.cueLog.entries) →
          chaseResult i s = (List.range' (k + 1) (i - k)).foldl (fun m j => cue .advance j m)
            (walked.foldl (fun m e => match e.index with
              | some j => cue e.kind j m
              | none => if e.kind = .reverse then step (-1) m else m) start)))

/-- R148, R149: WRITE ENTRY with every argument in range, an open lock and room, in the table for a new entry and in the
pool less what a replaced entry holds, writes exactly its entry and answers the table's two counts; its refusals, in
their order, write nothing. The model's choices here: log 36. -/
def Obligations.WriteEntryWritesOneEntry : Prop :=
  ∀ (h : Hdr) (index : BitVec 16) (raw : List RawAction) (s : State), servable s → h.len.toNat = 3 + 5 * raw.length →
    (index = 0 ∨ 999 < index.toNat ∨ raw = [] ∨ 4 < raw.length ∨ (∃ r ∈ raw, ∀ a, ¬ rawMeans r a) →
      Sys2Proof.Machine.exec (.writeEntry h index raw) s = .next (replied 0xB3 h.tag [2, 3] s))
    ∧ ∀ actions, List.Forall₂ rawMeans raw actions → 1 ≤ index.toNat → index.toNat ≤ 999 → raw ≠ [] → raw.length ≤ 4 →
      (s.program.protectTable = true → s.program.service = false →
        Sys2Proof.Machine.exec (.writeEntry h index raw) s = .next (replied 0xB3 h.tag [2, 12] s))
      ∧ (s.program.protectTable = false ∨ s.program.service = true →
        (240 ≤ s.program.table.length → (∀ e ∈ s.program.table, e.index ≠ index.toNat) →
          Sys2Proof.Machine.exec (.writeEntry h index raw) s = .next (replied 0xB3 h.tag [2, 13] s))
        ∧ (240 > s.program.table.length ∨ (∃ e ∈ s.program.table, e.index = index.toNat) → tableLaw s.program.table →
          480 < poolUsed (s.program.table.filter (fun e => e.index != index.toNat)) + raw.length →
          Sys2Proof.Machine.exec (.writeEntry h index raw) s = .next (replied 0xB3 h.tag [2, 13] s))
        ∧ (tableLaw s.program.table → s.program.table.length < 240 ∨ (∃ e ∈ s.program.table, e.index = index.toNat) →
          poolUsed (s.program.table.filter (fun e => e.index != index.toNat)) + raw.length ≤ 480 →
          ∃ table, Sys2Proof.Machine.exec (.writeEntry h index raw) s =
              .next { replied 0xB3 h.tag
                  [0, BitVec.ofNat 8 table.length, BitVec.ofNat 8 (poolUsed table / 256), BitVec.ofNat 8 (poolUsed table)] s with
                program.table := table }
            ∧ tableEntry table index.toNat = some { index := index.toNat, actions := actions }
            ∧ ∀ j, j ≠ index.toNat → tableEntry table j = tableEntry s.program.table j))

/-- R121, R144 to R147: a cue sets the cue index if it is counted, is offered to the relay-out queue, gives CUE with its
record (no record from SYNTH), and acts by its kind: an ADVANCE or MARK hands out the actions of the table entry of the
index acted on, in list order, and without one steps +1 or does nothing; REVERSE steps back, HOLD takes the show hold,
END starts the end sequence. R139 to R142: the end sequence starts with the phase IDLE only: an armed loop with one pass
left ends COMPLETE, another armed one is to restart; the timer stops, the hold is cleared, the lamp is led to keep-warm
by its state, and the audio fade begins in PLAYING; in another state its end is handed on at once, stated without a
restart outside PAUSED and with one in STOPPING. The fade's end stops the tape and rewinds it for a restart; a rest at
tape zero asks for the chase to 0, another rest ends the loop; the chase's MOVE DONE plays on. A HOST STOP ends an armed
loop and acts on the tape by its state, an end fade cut short ending the phase ENDING; without a tape it is DONE; stated
with no seek and no TAPE_STALL. The model's choices here: logs 1, 14, 16, 23, 29, 42. -/
def Obligations.CuesActAndShowLoops : Prop :=
  (∀ (kind : CueKind) (origin : Origin) (index reel : Option Nat) (i : Nat) (s s1 s2 : State),
      (kind = .advance ∨ kind = .mark → i = min 999 (index.getD (s.program.cueIndex + 1))) →
      (kind = .reverse ∨ kind = .hold ∨ kind = .ending → i = s.program.cueIndex) →
      s1 = give (.cue kind i origin reel) (offerRelay { kind := kind, index := i } { s with program.cueIndex := i }) →
      s2 = (if origin = .synth then s1 else offer (.cue i reel kind origin) s1) →
      (∀ e, tableLaw s.program.table → e ∈ s.program.table → e.index = i → kind = .advance ∨ kind = .mark →
        takeCue kind origin index reel s = e.actions.foldl (fun u a => takeAction kind i a u) s2)
      ∧ ((∀ e ∈ s.program.table, e.index ≠ i) →
        (kind = .advance → takeCue kind origin index reel s = offerCueMove i (.step 1) s2)
        ∧ (kind = .mark → takeCue kind origin index reel s = s2))
      ∧ (kind = .reverse → takeCue kind origin index reel s = offerCueMove i (.step (-1)) s2)
      ∧ (kind = .hold → takeCue kind origin index reel s = takeHold s2)
      ∧ (kind = .ending → takeCue kind origin index reel s = endSequence s2)
      ∧ (∀ (f : RelayFrame) (u : State), (u.items.relayOut = false → offerRelay f u = u)
        ∧ (u.items.relayOut = true → hasFault .relayConflict u = true →
          offerRelay f u = offer (.relayLost f.index f.kind .conflict) u)
        ∧ (u.items.relayOut = true → hasFault .relayConflict u = false →
          (u.decoder.relaySending = none → u.decoder.relayQueue = [] → u.decoder.releaseTimer = none →
            offerRelay f u = { u with decoder.relaySending := some f })
          ∧ (u.decoder.relaySending ≠ none ∨ u.decoder.relayQueue ≠ [] ∨ u.decoder.releaseTimer ≠ none →
            (u.decoder.relayQueue.length < 4 →
              offerRelay f u = { u with decoder.relayQueue := u.decoder.relayQueue ++ [f] })
            ∧ (4 ≤ u.decoder.relayQueue.length → offerRelay f u = offer (.relayLost f.index f.kind .full) u))))
      ∧ ∀ u : State,
        (∀ m, (∃ n, m = Move.step n) ∨ (∃ t, m = Move.goto t) →
          (u.heat.power = .standby → offerCueMove i m u = report (.cueLost i .notActive) (.cueLost i .notActive) u)
          ∧ (movesOpen u → u.changer.stage ≠ .idle → u.changer.queue = [] → ∀ t, m = .goto t → offerCueMove i m u =
            { u with changer.queue := [{ source := .cue, move := .goto t, tags := [], owner := none }] })
          ∧ (movesOpen u → u.changer.stage ≠ .idle → u.changer.queue = [] → ∀ n, m = .step n → offerCueMove i m u =
            { u with changer.queue :=
                [{ source := .cue, move := .step (clampSigned (traySize u) n), tags := [], owner := none }] }))
        ∧ (∀ n, takeAction kind i (.step n) u = offerCueMove i (.step n) u)
        ∧ (∀ t, takeAction kind i (.goto t) u = offerCueMove i (.goto t) u)
        ∧ (∀ m, takeAction kind i (.selectMap m) u = { u with program.activeMap := m })
        ∧ (∀ tag, takeAction kind i (.notify tag) u = give (.notify tag i kind) u)
        ∧ (∀ level n, u.lamp.darkWaiting = false → u.items.autoStrike = false → u.lamp.state = .off ∨ u.lamp.state = .failed →
          takeAction kind i (.fade level n) u = { u with lamp.show_ := level, lamp.preset := level })
        ∧ (∀ p, u.heat.power ≠ .active → takeAction kind i (.timerStart p) u = { u with program.period := some p })
        ∧ (∀ p, u.heat.power = .active → u.program.timer = .stopped → u.program.hold = none →
          takeAction kind i (.timerStart p) u =
            { u with program.period := some p, program.remaining := periodMs (some p) u, program.timer := .running })
        ∧ (u.program.timer ≠ .stopped → takeAction kind i .timerStop u =
          { u with
            program.timer := .stopped, program.hold := u.program.hold.map (fun m => { m with timerHeld := false }) })
        ∧ (u.program.hold = none → u.transport.state ≠ .playing → takeAction kind i .hold u =
          { u with
            program.hold := some { tapeHeld := false, timerHeld := decide (u.program.timer = .running) }
            program.timer := if u.program.timer = .running then .paused else u.program.timer })
        ∧ (u.program.hold ≠ none → takeAction kind i .hold u = u))
  ∧ ((∀ s : State, s.cueLog.phase ≠ .idle → endSequence s = s)
    ∧ (∀ (s : State) (l : Lamp), s.cueLog.phase = .idle → s.lamp.darkWaiting = false →
      (s.lamp.state = .off ∨ s.lamp.state = .failed ∨ s.lamp.state = .lit ∧ powerDownRuns s.lamp = true → l = s.lamp) →
      (s.lamp.state = .preheat → l = { s.lamp with dest := .keepWarm, destRamp := .fadeOut }) →
      (s.lamp.state = .swapping → l = { s.lamp with swap := s.lamp.swap.map (fun w => { w with resume := .keepWarm }) }) →
      (s.lamp.state = .lit → powerDownRuns s.lamp = false → 0 < s.items.fadeOut ∧ l = { s.lamp with
        fade := some { kind := .endFade, a := s.lamp.ramp, b := s.items.keepWarm, n := s.items.fadeOut, k := 0 }
        restriking := false }) →
      (s.transport.state = .playing → s.transport.endFade = .idle → 0 < s.items.endFade →
        (s.cueLog.armed = false → endSequence s = { s with
          lamp := l, cueLog.phase := .ending, program.hold := none, program.timer := .stopped
          transport.endFade := .running s.transport.gain s.items.endFade 0 })
        ∧ (s.cueLog.armed = true → s.program.loops ≠ 1 → endSequence s = { s with
          lamp := l, cueLog.phase := .ending, cueLog.restart := true, program.hold := none, program.timer := .stopped
          program.loops := s.program.loops - 1, transport.endFade := .running s.transport.gain s.items.endFade 0 })
        ∧ (s.cueLog.armed = true → s.program.loops = 1 → endSequence s =
          { give (.loopEnded .complete none 1 s.transport.reel) s with
            lamp := l, cueLog.armed := false, cueLog.restart := false, cueLog.phase := .ending, program.hold := none
            program.timer := .stopped, transport.endFade := .running s.transport.gain s.items.endFade 0 }))
      ∧ (s.transport.state ≠ .playing → s.transport.state ≠ .paused → s.cueLog.armed = false → s.cueLog.restart = false →
        endSequence s = { s with lamp := l, program.hold := none, program.timer := .stopped })
      ∧ (s.transport.state = .stopping → (∀ d, s.transport.dest = some d → d.tag = none) → s.transport.seek = none →
        s.heat.power = .active → hasFault .tapeStall s = false → s.cueLog.armed = true → s.program.loops ≠ 1 →
        endSequence s = { s with
          lamp := l, program.hold := none, program.timer := .stopped, program.loops := s.program.loops - 1
          cueLog.phase := .rewinding, cueLog.restart := true, cueLog.seekCue := none
          transport.dest := some { dest := .rewinding, source := .show_, tag := none } }))
    ∧ (∀ s : State, s.cueLog.phase = .idle → s.lamp.darkWaiting = false → s.transport.state = .playing →
      s.transport.endFade = .idle → 0 < s.items.endFade → s.lamp.state = .lit → powerDownRuns s.lamp = false →
      s.items.fadeOut = 0 → (endSequence s).lamp = { s.lamp with
        ramp := s.items.keepWarm, drive := min s.items.keepWarm s.heat.ceiling, fade := none, restriking := false
        openCount := if min s.items.keepWarm s.heat.ceiling < 120 then 0 else s.lamp.openCount })
    ∧ (∀ (s : State) (g0 n k : Nat), s.transport.state = .playing → s.transport.endFade = .running g0 n k → n ≤ k + 1 →
      s.cueLog.phase = .ending → s.heat.power = .active → hasFault .tapeStall s = false → s.transport.seek = none →
      ∃ t, Sys2Proof.Machine.exec .endFadeStep s = .next t
        ∧ t.transport = { s.transport with
            state := .stopping, dir := .forward, brakeTimer := some 0, stallTimer := none, gain := 0, endFade := .idle
            dest := some { dest := if s.cueLog.restart then .rewinding else .stopped, source := .show_, tag := none } }
        ∧ t.cueLog = { s.cueLog with seekCue := none, phase := if s.cueLog.restart then .rewinding else .idle }
        ∧ sameSlides s t ∧ t.heat = s.heat ∧ t.program = s.program ∧ sameRest s t)
    ∧ (∀ s : State, s.transport.state = .stopping →
      s.transport.dest = some { dest := .stopped, source := .leader, tag := none } → s.transport.backMark = true →
      s.transport.seek = none → s.cueLog.phase = .rewinding → s.heat.sleepPending = .clear →
      (s.transport.reel = 0 → s.transport.zeroKnown = true → movesOpen s → s.changer.stage ≠ .idle →
        s.changer.queue = [] → ∃ t, Sys2Proof.Machine.exec .brakeEnd s = .next t
          ∧ t.transport.state = .stopped ∧ t.transport.backMark = false ∧ t.cueLog.phase = .chasing
          ∧ t.cueLog.armed = s.cueLog.armed ∧ t.program.cueIndex = 0 ∧ t.program.activeMap = (chaseResult 0 s).map
          ∧ t.changer.queue = [{ source := .chase, move := .goto (chaseResult 0 s).slot, tags := [], owner := some .loop }])
      ∧ (s.transport.reel ≠ 0 ∨ s.transport.zeroKnown = false → s.cueLog.armed = true →
        ∃ t, Sys2Proof.Machine.exec .brakeEnd s = .next t ∧ t.transport.state = .stopped ∧ t.transport.backMark = false
          ∧ t.cueLog = { s.cueLog with armed := false, restart := false, phase := .idle }
          ∧ t.link.flags.getLsbD 16 = true ∧ t.changer = s.changer))
    ∧ (∀ (c : Cycle) (s : State), s.changer.stage = .settle → s.changer.cycle = some c → c.entry.owner = some .loop →
      c.aborted = false → s.changer.queue = [] → s.cueLog.phase = .chasing → s.lamp.state = .off → s.lamp.darkWaiting = false →
      s.heat.power = .active → s.transport.state = .stopped → s.transport.seek = none → hasFault .tapeStall s = false →
      s.lines.leader = false → s.heat.sleepPending = .clear →
      ∃ t, Sys2Proof.Machine.exec .settleDone s = .next t ∧ t.changer.stage = .idle ∧ t.transport.state = .playing
        ∧ t.transport.gain = s.items.volume ∧ t.cueLog.phase = .idle ∧ t.cueLog.restart = false
        ∧ t.cueLog.armed = s.cueLog.armed ∧ t.program.loops = s.program.loops)
    ∧ (∀ (h : Hdr) (s : State) (phase : LoopPhase), servable s → h.len = 0 → s.cueLog.armed = true →
      s.transport.seek = none → hasFault .tapeStall s = false →
      phase = (if s.cueLog.phase = .ending ∧ fadeRuns s = false then .ending else .idle) →
      ∃ t, Sys2Proof.Machine.exec (.stop h) s = .next t ∧ t.link.flags.getLsbD 16 = true
        ∧ t.cueLog = { s.cueLog with
            armed := false, restart := false, phase := phase
            seekCue := if s.transport.state = .noTape then s.cueLog.seekCue else none }
        ∧ sameSlides s t ∧ t.heat = s.heat ∧ sameRest s t
        ∧ (s.transport.state = .playing ∨ s.transport.state = .paused ∨ s.transport.state = .rewinding
            ∨ s.transport.state = .winding →
          lastReply 0xA9 h.tag [1] t ∧ t.transport = { s.transport with
            state := .stopping, dest := some { dest := .stopped, source := .host, tag := some h.tag }
            dir := if s.transport.state = .rewinding then .backward else .forward
            brakeTimer := some 0, stallTimer := none
            gain := if s.transport.state = .playing then 0 else s.transport.gain
            endFade := if s.transport.state = .playing then .idle else s.transport.endFade }
          ∧ t.program = { s.program with
              hold := s.program.hold.map (fun m => { m with tapeHeld := m.tapeHeld && s.transport.state != .paused }) })
        ∧ (s.transport.state = .stopping → lastReply 0xA9 h.tag [1] t ∧ t.program = s.program
          ∧ t.transport = { s.transport with dest := some { dest := .stopped, source := .host, tag := some h.tag } })
        ∧ (s.transport.state = .stopped ∨ s.transport.state = .noTape →
          lastReply 0xA9 h.tag [0] t ∧ t.transport = s.transport ∧ t.program = s.program)))

/-- R153, R151: TIMER START's refusals, and a taken one: the period is set, the remaining time loaded, and a STOPPED
timer becomes RUNNING, or PAUSED with the timer-held mark under a show hold. TIMER STOP stops it and clears the mark.
R151, R152, R154: HOLD pauses a running timer and a playing tape and marks each, CONTINUE runs them again; each is DONE
without effect when the hold is on, or off, already. At its expiry a running timer offers STEP +1 and is loaded again:
with a cycle running the step joins the queue or merges with a TIMER step; without a tray, at a changer fault and at a
full queue it is dropped with TIMER_LOST and its reason. The model's choices here: logs 1, 29. -/
def Obligations.TimerAndHoldByTheirRules : Prop :=
  (∀ (h : Hdr) (period : BitVec 16) (s : State), servable s →
      (h.len = 2 →
        (period.toNat < 10 ∨ 6000 < period.toNat →
          Sys2Proof.Machine.exec (.timerStart h period) s = .next (replied 0xBA h.tag [2, 3] s))
        ∧ (10 ≤ period.toNat → period.toNat ≤ 6000 →
          (s.heat.power = .standby → Sys2Proof.Machine.exec (.timerStart h period) s = .next (replied 0xBA h.tag [2, 5] s))
          ∧ (s.heat.power = .active →
            (s.program.timer = .stopped → s.program.hold = none → Sys2Proof.Machine.exec (.timerStart h period) s =
              .next { replied 0xBA h.tag [0] s with
                program.period := some period.toNat, program.remaining := periodMs (some period.toNat) s
                program.timer := .running })
            ∧ (∀ m, s.program.timer = .stopped → s.program.hold = some m →
              Sys2Proof.Machine.exec (.timerStart h period) s =
                .next { replied 0xBA h.tag [0] s with
                  program.period := some period.toNat, program.remaining := periodMs (some period.toNat) s
                  program.timer := .paused, program.hold := some { m with timerHeld := true } })
            ∧ (s.program.timer ≠ .stopped → Sys2Proof.Machine.exec (.timerStart h period) s =
              .next { replied 0xBA h.tag [0] s with
                program.period := some period.toNat, program.remaining := periodMs (some period.toNat) s }))))
      ∧ (h.len = 0 →
        (s.program.timer = .stopped → Sys2Proof.Machine.exec (.timerStop h) s = .next (replied 0xBB h.tag [0] s))
        ∧ (s.program.timer ≠ .stopped → Sys2Proof.Machine.exec (.timerStop h) s =
          .next { replied 0xBB h.tag [0] s with
            program.timer := .stopped
            program.hold := s.program.hold.map (fun m => { m with timerHeld := false }) })))
  ∧ (∀ (h : Hdr) (s : State),
      (servable s → h.len = 0 →
        (s.program.hold ≠ none → Sys2Proof.Machine.exec (.hold h) s = .next (replied 0xBC h.tag [0] s))
        ∧ (s.program.hold = none → s.transport.state ≠ .playing → Sys2Proof.Machine.exec (.hold h) s =
          .next { replied 0xBC h.tag [0] s with
            program.hold := some { tapeHeld := false, timerHeld := decide (s.program.timer = .running) }
            program.timer := if s.program.timer = .running then .paused else s.program.timer })
        ∧ (s.program.hold = none → Sys2Proof.Machine.exec (.continueShow h) s = .next (replied 0xBD h.tag [0] s))
        ∧ (∀ m, s.program.hold = some m → m.tapeHeld = false ∨ s.transport.state ≠ .paused →
          Sys2Proof.Machine.exec (.continueShow h) s =
            .next { replied 0xBD h.tag [0] s with
              program.hold := none
              program.timer := if m.timerHeld ∧ s.program.timer = .paused then .running else s.program.timer })
        ∧ (s.heat.power = .active → hasFault .tapeStall s = false → s.transport.seek = none → s.transport.backMark = false →
          (s.program.hold = none → s.transport.state = .playing → s.transport.endFade = .idle →
            ∃ t, Sys2Proof.Machine.exec (.hold h) s = .next t ∧ lastReply 0xBC h.tag [0] t
              ∧ t.transport = { s.transport with
                  state := .paused, dest := none, dir := .still, brakeTimer := none, stallTimer := none, gain := 0 }
              ∧ t.program = { s.program with
                  hold := some { tapeHeld := true, timerHeld := decide (s.program.timer = .running) }
                  timer := if s.program.timer = .running then .paused else s.program.timer }
              ∧ t.decoder.recogniser = .quiet ∧ hasFault .stuckTone t = false
              ∧ t.cueLog = { s.cueLog with seekCue := none } ∧ sameSlides s t ∧ t.heat = s.heat ∧ sameRest s t)
          ∧ (∀ m, s.program.hold = some m → m.tapeHeld = true → s.transport.state = .paused → s.lines.leader = false →
            ∃ t, Sys2Proof.Machine.exec (.continueShow h) s = .next t ∧ lastReply 0xBD h.tag [0] t
              ∧ t.transport = { s.transport with
                  state := .playing, dest := none, dir := .forward, brakeTimer := none, stallTimer := some 0
                  gain := s.items.volume, endFade := .idle }
              ∧ t.program = { s.program with
                  hold := none, loops := t.program.loops
                  timer := if m.timerHeld ∧ s.program.timer = .paused then .running else s.program.timer }
              ∧ (s.transport.reel ≠ 0 ∨ s.transport.zeroKnown = false → t.program.loops = s.program.loops)
              ∧ t.decoder = s.decoder ∧ sameSlides s t ∧ t.heat = s.heat ∧ sameRest s t ∧ sameFaults s t)))
      ∧ (s.program.timer ≠ .running → Sys2Proof.Machine.exec .autoAdvanceExpiry s = .next s)
      ∧ (s.program.timer = .running → movesOpen s → s.changer.stage ≠ .idle → s.changer.queue = [] →
        Sys2Proof.Machine.exec .autoAdvanceExpiry s =
          .next { s with
            program.remaining := periodMs s.program.period s
            changer.queue := [{ source := .timer, move := .step 1, tags := [], owner := none }] })
      ∧ (∀ (rest : List MoveEntry) (last : MoveEntry) (a : Int), s.program.timer = .running → movesOpen s →
        s.changer.stage ≠ .idle → s.changer.queue = rest ++ [last] → last.source = .timer → last.move = .step a →
        clampSigned (traySize s) (a + 1) ≠ 0 → Sys2Proof.Machine.exec .autoAdvanceExpiry s =
          .next { s with
            program.remaining := periodMs s.program.period s
            changer.queue := rest ++ [{ last with move := .step (clampSigned (traySize s) (a + 1)) }] })
      ∧ (∀ r, s.program.timer = .running →
        (s.heat.power ≠ .active ∧ r = .notActive ∨ s.heat.power = .active ∧ traySize s = 0 ∧ r = .noTray
          ∨ s.heat.power = .active ∧ 0 < traySize s ∧ changerFault s = true ∧ r = .faultActive
          ∨ movesOpen s ∧ 6 ≤ s.changer.queue.length ∧ r = .queueFull
            ∧ (∀ e, s.changer.queue.getLast? = some e → e.source = .timer → ∃ t, e.move = .goto t)) →
        ∃ l t, Sys2Proof.Machine.exec .autoAdvanceExpiry s =
            .next { s with link := l, trace := t, program.remaining := periodMs s.program.period s }
          ∧ offer (.timerLost r) s = { s with link := l, trace := t }))

/-- R158, R159: PROTECT sets one flag; UNPROTECT clears all four, LOCKED while the SERVICE line is released; LOCK sets
the state, OPEN from EXHIBIT LOCKED while the line is released; the line follows its level. The model's choices here:
log 12. -/
def Obligations.LockAndProtect : Prop :=
  ∀ (h : Hdr) (x : Byte) (s : State),
    (∀ b, Sys2Proof.Machine.exec (.serviceLineChange b) s = .next { s with program.service := b })
    ∧ (servable s → h.len = 1 →
      (x = 0 → Sys2Proof.Machine.exec (.protect h x) s =
        .next { replied 0xE2 h.tag [0] s with program.protectTable := true })
      ∧ (x = 1 → Sys2Proof.Machine.exec (.protect h x) s = .next { replied 0xE2 h.tag [0] s with program.protect1 := true })
      ∧ (x = 2 → Sys2Proof.Machine.exec (.protect h x) s = .next { replied 0xE2 h.tag [0] s with program.protect2 := true })
      ∧ (x = 3 → Sys2Proof.Machine.exec (.protect h x) s = .next { replied 0xE2 h.tag [0] s with program.protect3 := true })
      ∧ (3 < x.toNat → Sys2Proof.Machine.exec (.protect h x) s = .next (replied 0xE2 h.tag [2, 3] s))
      ∧ (x = 1 → Sys2Proof.Machine.exec (.lock h x) s = .next { replied 0xE4 h.tag [0] s with program.lock := .exhibit })
      ∧ (x = 0 → s.program.lock = .opened ∨ s.program.service = true → Sys2Proof.Machine.exec (.lock h x) s =
        .next { replied 0xE4 h.tag [0] s with program.lock := .opened })
      ∧ (x = 0 → s.program.lock = .exhibit → s.program.service = false →
        Sys2Proof.Machine.exec (.lock h x) s = .next (replied 0xE4 h.tag [2, 12] s))
      ∧ (1 < x.toNat → Sys2Proof.Machine.exec (.lock h x) s = .next (replied 0xE4 h.tag [2, 3] s)))
    ∧ (servable s → h.len = 0 →
      (s.program.service = false → Sys2Proof.Machine.exec (.unprotect h) s = .next (replied 0xE3 h.tag [2, 12] s))
      ∧ (s.program.service = true → Sys2Proof.Machine.exec (.unprotect h) s =
        .next { replied 0xE3 h.tag [0] s with
          program.protectTable := false, program.protect1 := false, program.protect2 := false
          program.protect3 := false }))

/-! ### Trace -/

/-- R175, R177, R179 to R181: SET TRACE MODE empties the buffer and its flags and sets mode, trigger set, post count and
the phase the trigger condition asks for; with a post count of 0 and a condition that holds the buffer is FROZEN at
once; READ TRACE returns and removes at most two of the oldest records and answers the count left. The 24 bytes of a
record hold its fields at chapter 11's offsets, absent ones as 0, stated for a record of each kind of field. The model's
choices here: logs 11, 12, 43, 47. -/
def Obligations.TraceModeAndRead : Prop :=
  ∀ (h : Hdr) (mode : TraceMode) (code post k : Byte) (trigger : BitVec 16) (s : State), servable s →
    (h.len = 4 →
      (4 < code.toNat ∨ trigger &&& 0xF000 ≠ 0 →
        Sys2Proof.Machine.exec (.setTraceMode h code trigger post) s = .next (replied 0xE0 h.tag [2, 3] s))
      ∧ (post = 0 → mode = .ringFreeze → code = BitVec.ofNat 8 (traceModeCode mode) → trigger &&& 0xF000 = 0 →
        trigger &&& s.link.faults ≠ 0 → s.link.sending ≠ none →
        Sys2Proof.Machine.exec (.setTraceMode h code trigger post) s =
          .next { give (.frozen 0) (replied 0xE0 h.tag
              [0, code, BitVec.ofNat 8 (trigger.toNat / 256), BitVec.ofNat 8 trigger.toNat, 0] s) with
            trace := {
              records := [], mode := .ringFreeze, trigger := trigger, post := 0
              full := false, overwritten := false, frozen := true, watermark := false, phase := .frozen, postLeft := 0 } })
      ∧ (code = BitVec.ofNat 8 (traceModeCode mode) → trigger &&& 0xF000 = 0 →
        ∀ (p : Nat) (holds : Bool), p = min 32 post.toNat → holds = (trigger &&& s.link.faults != 0) →
        ¬ (mode = .ringFreeze ∧ holds = true ∧ p = 0) →
        Sys2Proof.Machine.exec (.setTraceMode h code trigger post) s =
          .next { replied 0xE0 h.tag
              [0, code, BitVec.ofNat 8 (trigger.toNat / 256), BitVec.ofNat 8 trigger.toNat, BitVec.ofNat 8 p] s with
            trace := {
              records := [], mode := mode, trigger := trigger, post := p
              full := false, overwritten := false, frozen := false, watermark := false
              phase := if mode = .ringFreeze then (if holds then .posting else .ringing)
                else if mode = .waitRing then (if holds then .ringing else .waiting) else .unused
              postLeft := if mode = .ringFreeze ∧ holds = true then p else 0 } }))
    ∧ (h.len = 1 →
      (k = 0 ∨ 16 < k.toNat → Sys2Proof.Machine.exec (.readTrace h k) s = .next (replied 0xE1 h.tag [2, 3] s))
      ∧ (1 ≤ k.toNat → k.toNat ≤ 16 → ∀ n, n = min k.toNat (min 2 s.trace.records.length) →
        (n = 0 → Sys2Proof.Machine.exec (.readTrace h k) s =
          .next (replied 0xE1 h.tag [0, BitVec.ofNat 8 (traceFlagBits s.trace), 0] s))
        ∧ (0 < n → Sys2Proof.Machine.exec (.readTrace h k) s =
          .next { replied 0xE1 h.tag
              (0 :: BitVec.ofNat 8 (traceFlagBits s.trace) :: BitVec.ofNat 8 (s.trace.records.length - n)
                :: (s.trace.records.take n).flatMap traceBytes) s with
            trace.records := s.trace.records.drop n, trace.full := false, trace.overwritten := false
            trace.watermark := decide (s.items.traceWatermark ≤ s.trace.records.length - n) })))
    ∧ (∀ (r : TraceRec) (two : Nat → List Byte)
        (row : Byte → Byte → List Byte → Byte → List Byte → Byte → List Byte → List Byte → List Byte → List Byte),
      (∀ n, two n = [BitVec.ofNat 8 (n / 256), BitVec.ofNat 8 n]) →
      (∀ code present index slot reel fault level heat detail, row code present index slot reel fault level heat detail =
        two (r.stamp.toNat / 65536) ++ two r.stamp.toNat ++ [code, present] ++ index ++ [slot] ++ reel ++ [fault] ++ level
          ++ heat ++ detail ++ List.replicate (8 - detail.length) 0) →
      (traceBytes r).length = 24
      ∧ (∀ i c kind origin, r.body = .cue i (some c) kind origin → traceBytes r = row 0 5 (two i) 0 (two c) 0 (two 0) (two 0)
          [BitVec.ofNat 8 (cueKindCode kind), BitVec.ofNat 8 (originCode origin)])
      ∧ (∀ slot source n outcome, r.body = .moveDone (some slot) source (.goto n) outcome → traceBytes r =
        row 6 2 (two 0) (BitVec.ofNat 8 slot) (two 0) 0 (two 0) (two 0)
          [BitVec.ofNat 8 (moveSourceCode source), 1, BitVec.ofNat 8 n, BitVec.ofNat 8 (reasonCode outcome)])
      ∧ (∀ d cause, r.body = .lamp d .failed .b cause → traceBytes r =
        row 10 16 (two 0) 0 (two 0) 0 (two d) (two 0) [4, 1, BitVec.ofNat 8 (reasonCode cause)])
      ∧ (∀ a b c, r.body = .thermal a b c .high .trip false → traceBytes r =
        row 11 48 (two 0) 0 (two 0) 0 (two b) (two a) (two c ++ [3, 2, 1]))
      ∧ (∀ f, r.body = .faultRaised f none → traceBytes r =
        row 12 8 (two 0) 0 (two 0) (BitVec.ofNat 8 (faultCode f)) (two 0) (two 0) [])
      ∧ (∀ c, r.body = .tapeRefused c .rewind .faultActive → traceBytes r =
        row 14 4 (two 0) 0 (two c) 0 (two 0) (two 0) [3, 9])
      ∧ (r.body = .timerLost .queueFull → traceBytes r = row 15 0 (two 0) 0 (two 0) 0 (two 0) (two 0) [8]))

/-! ### Remotes and focus -/

/-- R162, R163, R165, R166, R170: the infrared decoder's leader and errors; a frame with a wrong check field or channel
is discarded, a repeat frame restarts the release timer, another key or toggle releases the held key (POWER only with
its release done with) and then presses, and a USER1 press from an idle key state holds the key and gives KEY, or under
the lock is ignored with its record. In SLEEP only POWER is taken, which wakes. A release lets the held key go; the
entry window's end discards the entry with AUTO_GO OFF and commits it with AUTO_GO ON. R166 to R171, R86: what a key
does at its press, for a good infrared frame of the key out of SLEEP with no key held and the lock open: digits gather
an entry of up to three, GOTO commits or is refused, CLEAR discards, any other key discards and acts: ADV and REV step,
HOLD and PLAY take, continue or, from STOPPED, play, STOP brakes, LAMP goes off or strikes, BRIGHT fades by 50, USER2
gives KEY, FOCUS_IN and FOCUS_OUT take the drive, over a nudge too, and end at once at their limit. Their refusals write
KEY_IGNORED, ENTRY_REFUSED or LAMP. In STANDBY the keys that need it bring the part ACTIVE. The release of POWER toggles
unless its hold was taken; a focus key's stops the motor it owns. R164, R167, R86: the ladder counts six samples of a
band before it becomes the stable band; a band without a key releases the wired key, a key's band presses it, and in
SLEEP wakes; a repeat of a held ADV or REV steps once more; the 2000 ms mark of a held POWER asks for SLEEP. The model's
choices here: logs 1, 4, 16, 44. -/
def Obligations.RemoteKeysPressAndHold : Prop :=
  (∀ (w : BitVec 16) (s : State),
      (s.remote.irDecoder = .idle → Sys2Proof.Machine.exec .irLeader s = .next { s with remote.irDecoder := .receiving [] }
        ∧ ∀ mark, Sys2Proof.Machine.exec (.irTimingError mark) s = .next s)
      ∧ (∀ bits, s.remote.irDecoder = .receiving bits → Sys2Proof.Machine.exec .irLeader s = .next s
        ∧ Sys2Proof.Machine.exec (.irTimingError true) s = .next { s with remote.irDecoder := .receiving [] }
        ∧ Sys2Proof.Machine.exec (.irTimingError false) s = .next { s with remote.irDecoder := .idle })
      ∧ (w.extractLsb' 0 6 ≠ ~~~ (w.extractLsb' 7 6)
          ∨ s.items.irChannel ≠ 0 ∧ (w.extractLsb' 13 3).toNat ≠ s.items.irChannel →
        Sys2Proof.Machine.exec (.irFrame w) s = .next { s with remote.irDecoder := .idle })
      ∧ (w.extractLsb' 0 6 = ~~~ (w.extractLsb' 7 6) →
        s.items.irChannel = 0 ∨ (w.extractLsb' 13 3).toNat = s.items.irChannel → s.heat.power ≠ .sleep →
        (∀ held, s.remote.irKey = some held → (w.extractLsb' 7 6).toNat = irKeyCode held.key → w.getLsbD 6 = held.toggle →
          Sys2Proof.Machine.exec (.irFrame w) s =
            .next { s with remote.irDecoder := .idle, remote.irKey := some { held with releaseMs := 0 } })
        ∧ (s.remote.irKey = none → (w.extractLsb' 7 6).toNat = 48 →
          (s.program.lock = .opened ∨ s.program.service = true → Sys2Proof.Machine.exec (.irFrame w) s =
            .next (give (.key .user1 (w.extractLsb' 13 3).toNat) { s with
              remote.irDecoder := .idle, remote.irKey := some (freshHeld .user1 (w.getLsbD 6)), remote.entry := none }))
          ∧ (s.program.lock = .exhibit → s.program.service = false → ∃ l t, Sys2Proof.Machine.exec (.irFrame w) s =
              .next { s with
                link := l, trace := t, remote.irDecoder := .idle, remote.entry := none
                remote.irKey := some { freshHeld .user1 (w.getLsbD 6) with ignored := true } }
            ∧ offer (.keyIgnored .user1 .ir .locked) s = { s with link := l, trace := t }))
        ∧ (∀ held key, s.remote.irKey = some held → (w.extractLsb' 7 6).toNat = irKeyCode key →
          key ≠ held.key ∨ w.getLsbD 6 ≠ held.toggle →
          held.key ≠ .power ∨ held.usedUp = true ∨ held.ignored = true ∨ held.holdTaken = true →
          ∃ t, Sys2Proof.Machine.exec .irReleaseTimeout s = .next t
            ∧ Sys2Proof.Machine.exec (.irFrame w) s = Sys2Proof.Machine.exec (.irFrame w) t))
      ∧ (s.heat.power = .sleep →
        ((w.extractLsb' 7 6).toNat ≠ 40 → Sys2Proof.Machine.exec (.irFrame w) s = .next { s with remote.irDecoder := .idle })
        ∧ (w.extractLsb' 0 6 = ~~~ (w.extractLsb' 7 6) →
          s.items.irChannel = 0 ∨ (w.extractLsb' 13 3).toNat = s.items.irChannel → (w.extractLsb' 7 6).toNat = 40 →
          s.remote.irKey = none → ∃ t, Sys2Proof.Machine.exec (.irFrame w) s = .next t ∧ t.heat.power = .standby
            ∧ t.link.flags.getLsbD 13 = true
            ∧ t.remote = { s.remote with
                irDecoder := .idle, irKey := some { freshHeld .power (w.getLsbD 6) with usedUp := true } }
            ∧ sameSlides s t ∧ sameShow s t ∧ t.items = s.items))
      ∧ (s.remote.irKey = none → Sys2Proof.Machine.exec .irReleaseTimeout s = .next s)
      ∧ (∀ held, s.remote.irKey = some held → held.key ≠ .power → held.key ≠ .focusIn → held.key ≠ .focusOut →
        Sys2Proof.Machine.exec .irReleaseTimeout s = .next { s with remote.irKey := none })
      ∧ (s.items.autoGo = false ∨ s.remote.entry = none →
        Sys2Proof.Machine.exec .entryWindowExpiry s = .next { s with remote.entry := none })
      ∧ (∀ e b, s.items.autoGo = true → s.remote.entry = some e → b = { s with remote.entry := none } →
        (traySize s = 0 → Sys2Proof.Machine.exec .entryWindowExpiry s =
          .next (report (.entryRefused e.value .noTray) (.entryRefused e.value .noTray) b))
        ∧ (0 < traySize s → traySize s < e.value → Sys2Proof.Machine.exec .entryWindowExpiry s =
          .next (report (.entryRefused e.value .range) (.entryRefused e.value .range) b))
        ∧ (0 < traySize s → e.value ≤ traySize s → s.heat.power ≠ .active →
          ∃ l t, Sys2Proof.Machine.exec .entryWindowExpiry s = .next { b with link := l, trace := t }
            ∧ offer (.keyIgnored .goto .ir .notActive) s = { s with link := l, trace := t })
        ∧ (movesOpen s → e.value ≤ traySize s → s.changer.queue.length < 6 → s.changer.stage ≠ .idle →
          Sys2Proof.Machine.exec .entryWindowExpiry s = .next { b with
            changer.queue := s.changer.queue ++ [{ source := .remote, move := .goto e.value, tags := [], owner := none }] })))
  ∧ ((∀ (w : BitVec 16) (key : Key) (s b : State) (next : State → Prop) (ignored : Reason → Prop),
      w.extractLsb' 0 6 = ~~~ (w.extractLsb' 7 6) → s.items.irChannel = 0 ∨ (w.extractLsb' 13 3).toNat = s.items.irChannel →
      (w.extractLsb' 7 6).toNat = irKeyCode key → s.heat.power ≠ .sleep → s.remote.irKey = none →
      s.program.lock = .opened ∨ s.program.service = true →
      b = { s with
        remote.irDecoder := .idle, remote.irKey := some (freshHeld key (w.getLsbD 6))
        remote.entry := none } →
      (∀ t, next t ↔ Sys2Proof.Machine.exec (.irFrame w) s = .next t) →
      (∀ r, ignored r ↔ ∃ l t, next { b with link := l, trace := t }
        ∧ offer (.keyIgnored key .ir r) s = { s with link := l, trace := t }) →
      (∀ d : Fin 10, key = .digit d →
        (s.remote.entry = none → next { b with remote.entry := some { value := d.val, digits := 1, windowMs := 0 } })
        ∧ ∀ e, s.remote.entry = some e →
          (e.digits < 3 →
            next { b with remote.entry := some { value := e.value * 10 + d.val, digits := e.digits + 1, windowMs := 0 } })
          ∧ (3 ≤ e.digits → ∃ l t, next { b with link := l, trace := t, remote.entry := some e }
            ∧ offer (.keyIgnored key .ir .entryFull) s = { s with link := l, trace := t }))
      ∧ (key = .clear → next b) ∧ (key = .power → next b)
      ∧ (key = .user2 → next (give (.key .user2 (w.extractLsb' 13 3).toNat) b))
      ∧ (key = .goto → (s.remote.entry = none → ignored .noEntry)
        ∧ ∀ e, s.remote.entry = some e → s.heat.power = .active →
          (traySize s = 0 → next (report (.entryRefused e.value .noTray) (.entryRefused e.value .noTray) b))
          ∧ (0 < traySize s → traySize s < e.value →
            next (report (.entryRefused e.value .range) (.entryRefused e.value .range) b))
          ∧ (0 < traySize s → e.value ≤ traySize s → changerFault s = true → ignored .faultActive)
          ∧ (movesOpen s → e.value ≤ traySize s →
            (6 ≤ s.changer.queue.length → ignored .queueFull)
            ∧ (s.changer.queue.length < 6 → s.changer.stage ≠ .idle → next { b with
              changer.queue := s.changer.queue ++ [{ source := .remote, move := .goto e.value, tags := [], owner := none }] })))
      ∧ (∀ n : Int, key = .adv ∧ n = 1 ∨ key = .rev ∧ n = -1 →
        (s.heat.power = .active → traySize s = 0 → ignored .noTray)
        ∧ (s.heat.power = .active → 0 < traySize s → changerFault s = true → ignored .faultActive)
        ∧ (movesOpen s → s.changer.stage ≠ .idle →
          (s.changer.queue = [] →
            next { b with changer.queue := [{ source := .remote, move := .step n, tags := [], owner := none }] })
          ∧ ∀ (rest : List MoveEntry) (last : MoveEntry) (a : Int), s.changer.queue = rest ++ [last] → last.source = .remote →
            last.move = .step a → clampSigned (traySize s) (a + n) ≠ 0 →
            next { b with changer.queue := rest ++ [{ last with move := .step (clampSigned (traySize s) (a + n)) }] }))
      ∧ (key = .hold → s.program.hold = none → s.transport.state ≠ .playing → next { b with
          program.hold := some { tapeHeld := false, timerHeld := decide (s.program.timer = .running) }
          program.timer := if s.program.timer = .running then .paused else s.program.timer })
      ∧ (∀ m, key = .hold ∨ key = .play ∧ s.heat.power = .active → s.program.hold = some m →
        m.tapeHeld = false ∨ s.transport.state ≠ .paused → next { b with
          program.hold := none
          program.timer := if m.timerHeld ∧ s.program.timer = .paused then .running else s.program.timer })
      ∧ (s.heat.power = .active → hasFault .tapeStall s = false → s.transport.seek = none → s.transport.backMark = false →
        (key = .hold → s.program.hold = none → s.transport.state = .playing → s.transport.endFade = .idle →
          ∃ t, next t ∧ t.transport.state = .paused ∧ t.transport.gain = 0 ∧ t.remote = b.remote
            ∧ t.program.hold = some { tapeHeld := true, timerHeld := decide (s.program.timer = .running) })
        ∧ (∀ m, key = .hold ∨ key = .play → s.program.hold = some m → m.tapeHeld = true → s.transport.state = .paused →
          s.lines.leader = false → ∃ t, next t ∧ t.transport.state = .playing ∧ t.transport.gain = s.items.volume
            ∧ t.program.hold = none ∧ t.remote = b.remote))
      ∧ (key = .play → s.program.hold = none → s.heat.power = .active →
        (s.transport.state = .noTape → ignored .notPermitted)
        ∧ (s.transport.state ≠ .noTape → hasFault .tapeStall s = true → ignored .faultActive)
        ∧ (s.transport.state = .stopped → hasFault .tapeStall s = false → s.transport.seek = none →
          s.transport.backMark = false → s.lines.leader = false →
          ∃ t, next t ∧ t.transport = { s.transport with
              state := .playing, dest := none, dir := .forward, brakeTimer := none, stallTimer := some 0
              gain := s.items.volume, endFade := .idle }
            ∧ t.remote = b.remote ∧ sameSlides s t ∧ t.heat = s.heat ∧ t.items = s.items ∧ sameFaults s t))
      ∧ (key = .stop →
        (s.transport.state = .noTape ∨ hasFault .tapeStall s = true → next b)
        ∧ (hasFault .tapeStall s = false → s.transport.seek = none →
          (s.transport.state = .stopped → s.cueLog.armed = false → next { b with cueLog.seekCue := none })
          ∧ (s.transport.state = .playing ∧ s.transport.endFade = .idle ∨ s.transport.state = .paused
              ∨ s.transport.state = .rewinding ∨ s.transport.state = .winding →
            ∃ t, next t ∧ t.transport = { s.transport with
                state := .stopping, dest := some { dest := .stopped, source := .remote, tag := none }
                dir := if s.transport.state = .rewinding then .backward else .forward
                brakeTimer := some 0, stallTimer := none
                gain := if s.transport.state = .playing then 0 else s.transport.gain }
              ∧ t.cueLog = { s.cueLog with
                  armed := false, seekCue := none, restart := !s.cueLog.armed && s.cueLog.restart
                  phase := if s.cueLog.armed = true ∧ s.cueLog.phase ≠ .ending then .idle else s.cueLog.phase }
              ∧ (s.cueLog.armed = true → t.link.flags.getLsbD 16 = true)
              ∧ t.remote = b.remote ∧ sameSlides s t ∧ t.heat = s.heat ∧ t.items = s.items)))
      ∧ (key = .lamp → s.heat.power = .active → s.lamp.darkWaiting = false →
        (s.lamp.state = .preheat ∨ s.lamp.state = .lit → powerDownRuns s.lamp = false →
          ∃ t, next t ∧ t.lamp = { s.lamp with
              state := .off, ramp := 0, drive := 0, fade := none, swap := none, restriking := false, openCount := 0
              window := none }
            ∧ t.remote = b.remote ∧ t.tray = s.tray ∧ t.changer = s.changer ∧ sameShow s t ∧ t.items = s.items)
        ∧ (s.lamp.state = .off ∨ s.lamp.state = .failed ∨ s.lamp.state = .swapping →
          (17920 < s.heat.estimate ∨ hasFault .tcoOpen s = true → ∃ l t, next { b with link := l, trace := t }
            ∧ offer (.lamp s.lamp.drive s.lamp.state s.lamp.active .tooHot) s = { s with link := l, trace := t })
          ∧ (s.heat.estimate ≤ 17920 → hasFault .tcoOpen s = false → s.lamp.state = .off → powerDownRuns s.lamp = false →
            hasFault .lampOpen s = false → lampRec s.lamp s.lamp.active ≠ .failed →
            ∃ t, next t ∧ t.lamp.state = .preheat ∧ t.lamp.show_ = s.lamp.preset ∧ t.lamp.window = some 0
              ∧ t.heat.cooling = false ∧ t.remote = b.remote ∧ t.tray = s.tray ∧ t.changer = s.changer ∧ sameShow s t
              ∧ t.items = s.items)))
      ∧ (∀ level, key = .brightUp ∧ level = min 1000 (s.lamp.show_ + 50) ∨ key = .brightDown ∧ level = s.lamp.show_ - 50 →
        (s.lamp.state = .off ∨ s.lamp.state = .failed → next { b with lamp.show_ := level, lamp.preset := level })
        ∧ (s.lamp.state = .lit → powerDownRuns s.lamp = false → s.changer.claim = .clear → next { b with
          lamp.show_ := level, lamp.restriking := false
          lamp.fade := some { kind := .show_, a := s.lamp.ramp, b := level, n := 10, k := 0 } })
        ∧ (s.lamp.state = .lit → powerDownRuns s.lamp = true → next { b with lamp.show_ := level, lamp.preset := level })
        ∧ (s.lamp.state = .lit ∧ powerDownRuns s.lamp = false ∨ s.lamp.state = .preheat → s.changer.claim ≠ .clear →
          next { b with lamp.show_ := level })
        ∧ (s.lamp.state = .preheat → s.changer.claim = .clear →
          next { b with lamp.show_ := level, lamp.dest := .value level, lamp.destRamp := .strikeRamp })
        ∧ (∀ v, s.lamp.state = .swapping → s.lamp.swap = some v → next { b with
          lamp.show_ := level, lamp.preset := level, lamp.swap := some { v with resume := .value level } }))
      ∧ (∀ (d : FocusDir) (lim : Bool) (v : State),
        key = .focusIn ∧ d = .inward ∧ lim = s.lines.limitIn ∨ key = .focusOut ∧ d = .outward ∧ lim = s.lines.limitOut →
        (∀ nd tag left, s.remote.focus = .nudge nd tag left → v = give (.focusEnd nd .host .takenOver (some tag)) b) →
        ((∀ nd tag left, s.remote.focus ≠ .nudge nd tag left) → v = b) →
        (lim = false → next { v with remote.focus := .key .ir d false })
        ∧ (lim = true → next (give (.focusEnd d .ir .limit none) { v with remote.focus := .idle })))
      ∧ (s.heat.power = .standby → key = .adv ∨ key = .rev ∨ key = .lamp ∨ key = .play ∨ key = .goto ∧ s.remote.entry ≠ none →
        ∃ t, next t ∧ t.heat.power = .active ∧ t.heat.sleepPending = .clear ∧ t.link.flags.getLsbD 13 = true
          ∧ t.remote = b.remote))
    ∧ (∀ (held : Held) (s : State), s.remote.irKey = some held →
      (held.key = .power →
        (held.usedUp = true ∨ held.ignored = true ∨ held.holdTaken = true →
          Sys2Proof.Machine.exec .irReleaseTimeout s = .next { s with remote.irKey := none })
        ∧ (held.usedUp = false → held.ignored = false → held.holdTaken = false →
          (s.heat.power = .standby → ∃ t, Sys2Proof.Machine.exec .irReleaseTimeout s = .next t ∧ t.heat.power = .active
            ∧ t.heat.sleepPending = .clear ∧ t.link.flags.getLsbD 13 = true ∧ t.remote = { s.remote with irKey := none })
          ∧ (s.heat.power = .active → s.heat.sleepPending = .clear →
            ∃ t, Sys2Proof.Machine.exec .irReleaseTimeout s = .next t ∧ t.heat.power = .standby ∧ t.changer.queue = []
              ∧ t.program.timer = .stopped ∧ t.program.hold = none ∧ t.link.flags.getLsbD 13 = true
              ∧ t.remote = { s.remote with irKey := none })))
      ∧ (∀ d fast, held.key = .focusIn ∨ held.key = .focusOut → held.usedUp = false → held.ignored = false →
        s.remote.focus = .key .ir d fast →
        Sys2Proof.Machine.exec .irReleaseTimeout s = .next { s with remote.irKey := none, remote.focus := .idle })
      ∧ (held.key = .focusIn ∨ held.key = .focusOut → (∀ d fast, s.remote.focus ≠ .key .ir d fast) →
        Sys2Proof.Machine.exec .irReleaseTimeout s = .next { s with remote.irKey := none })))
  ∧ (∀ (v : BitVec 10) (b : Band) (s : State),
      (bandOf v.toNat = none → Sys2Proof.Machine.exec (.ladderSample v) s = .next s)
      ∧ (bandOf v.toNat = some b →
        (b = s.remote.stableBand → Sys2Proof.Machine.exec (.ladderSample v) s = .next { s with remote.candidate := none })
        ∧ (b ≠ s.remote.stableBand →
          ((∀ n, s.remote.candidate ≠ some (b, n)) →
            Sys2Proof.Machine.exec (.ladderSample v) s = .next { s with remote.candidate := some (b, 1) })
          ∧ (∀ n, s.remote.candidate = some (b, n) → n < 5 →
            Sys2Proof.Machine.exec (.ladderSample v) s = .next { s with remote.candidate := some (b, n + 1) })
          ∧ (∀ n, s.remote.candidate = some (b, n) → 5 ≤ n →
            Sys2Proof.Machine.exec (.ladderSample v) s = Sys2Proof.Machine.exec (.ladderBandChange b) s)))
      ∧ Sys2Proof.Machine.exec (.ladderBandChange s.remote.stableBand) s = .next s
      ∧ (∀ held, s.remote.stableBand ≠ .noKey → s.remote.wiredKey = some held → held.key = .adv ∨ held.key = .rev ∨ held.key = .hold →
        Sys2Proof.Machine.exec (.ladderBandChange .noKey) s =
          .next { s with remote.stableBand := .noKey, remote.candidate := none, remote.wiredKey := none })
      ∧ (∀ (band : Band) (key : Key) (p : State) (next : State → Prop),
        s.remote.wiredKey = none → band ≠ s.remote.stableBand → bandKey band = some key →
        p = { s with
          remote.stableBand := band, remote.candidate := none, remote.wiredKey := some (freshHeld key false)
          remote.entry := none } →
        (∀ t, next t ↔ Sys2Proof.Machine.exec (.ladderBandChange band) s = .next t) →
        (s.heat.power = .sleep → ∃ t, next t ∧ t.heat.power = .standby ∧ t.link.flags.getLsbD 13 = true
          ∧ t.remote = { s.remote with
              stableBand := band, candidate := none, wiredKey := some { freshHeld key false with usedUp := true } }
          ∧ sameSlides s t ∧ sameShow s t ∧ t.items = s.items)
        ∧ (s.heat.power ≠ .sleep →
          (∀ n : Int, key = .adv ∧ n = 1 ∨ key = .rev ∧ n = -1 → movesOpen s → s.changer.stage ≠ .idle → s.changer.queue = [] →
            next { p with changer.queue := [{ source := .remote, move := .step n, tags := [], owner := none }] })
          ∧ (key = .hold → s.program.hold = none → s.transport.state ≠ .playing → next { p with
            program.hold := some { tapeHeld := false, timerHeld := decide (s.program.timer = .running) }
            program.timer := if s.program.timer = .running then .paused else s.program.timer })
          ∧ (∀ (d : FocusDir) (lim : Bool) (v : State),
            key = .focusIn ∧ d = .inward ∧ lim = s.lines.limitIn ∨ key = .focusOut ∧ d = .outward ∧ lim = s.lines.limitOut →
            (∀ nd tag left, s.remote.focus = .nudge nd tag left → v = give (.focusEnd nd .host .takenOver (some tag)) p) →
            ((∀ nd tag left, s.remote.focus ≠ .nudge nd tag left) → v = p) →
            (lim = false → next { v with remote.focus := .key .wired d false })
            ∧ (lim = true → next (give (.focusEnd d .wired .limit none) { v with remote.focus := .idle })))))
      ∧ (∀ r : Remote, r = .wired ∧ s.remote.wiredKey = none ∨ r = .ir ∧ s.remote.irKey = none →
        Sys2Proof.Machine.exec (.keyRepeat r) s = .next s)
      ∧ (∀ (r : Remote) (held : Held), r = .wired ∧ s.remote.wiredKey = some held ∨ r = .ir ∧ s.remote.irKey = some held →
        (held.usedUp = true ∨ held.ignored = true ∨ held.key ≠ .adv ∧ held.key ≠ .rev →
          Sys2Proof.Machine.exec (.keyRepeat r) s = .next s)
        ∧ (∀ n : Int, held.key = .adv ∧ n = 1 ∨ held.key = .rev ∧ n = -1 → held.usedUp = false → held.ignored = false →
          (s.heat.power ≠ .active → ∃ l t, Sys2Proof.Machine.exec (.keyRepeat r) s = .next { s with link := l, trace := t }
            ∧ offer (.keyIgnored held.key r .notActive) s = { s with link := l, trace := t })
          ∧ (movesOpen s → s.changer.stage ≠ .idle → s.changer.queue = [] → Sys2Proof.Machine.exec (.keyRepeat r) s =
            .next { s with changer.queue := [{ source := .remote, move := .step n, tags := [], owner := none }] })))
      ∧ (s.remote.irKey = none → Sys2Proof.Machine.exec .powerHoldTimeout s = .next s)
      ∧ (∀ held, s.remote.irKey = some held → held.key = .power → held.usedUp = false → held.ignored = false →
        held.holdTaken = false → s.heat.power = .standby → s.heat.sleepPending = .clear → sleepConditions s = false →
        Sys2Proof.Machine.exec .powerHoldTimeout s =
          .next { s with remote.irKey := some { held with holdTaken := true }, heat.sleepPending := .set none }))

/-- R171 to R173: FOCUS NUDGE is refused or starts in its direction, IN coded 0 and OUT 1 (log 12), and at an asserted
limit of that direction ends LIMIT at once; the end of its time stops it COMPLETE. A held key's motor changes to fast.
The limit switch in the direction of motion stops a nudge and a key's motor with FOCUS END; the other end's switch
changes its line alone, as any switch does at rest or when it is released. The model's choices here: logs 1, 12. -/
def Obligations.FocusMovesAndStops : Prop :=
  ∀ (h : Hdr) (dir : Byte) (duration : BitVec 16) (s : State),
    (servable s → h.len = 3 →
      (1 < dir.toNat ∨ duration.toNat < 10 ∨ 2000 < duration.toNat →
        Sys2Proof.Machine.exec (.focusNudge h dir duration) s = .next (replied 0xA5 h.tag [2, 3] s))
      ∧ (dir.toNat ≤ 1 → 10 ≤ duration.toNat → duration.toNat ≤ 2000 →
        (s.remote.focus ≠ .idle → Sys2Proof.Machine.exec (.focusNudge h dir duration) s = .next (replied 0xA5 h.tag [2, 4] s))
        ∧ (∀ (d : FocusDir) (lim : Bool),
          dir = 0 ∧ d = .inward ∧ lim = s.lines.limitIn ∨ dir = 1 ∧ d = .outward ∧ lim = s.lines.limitOut →
          s.remote.focus = .idle →
          (lim = false → Sys2Proof.Machine.exec (.focusNudge h dir duration) s =
            .next { replied 0xA5 h.tag [1] s with remote.focus := .nudge d h.tag duration.toNat })
          ∧ (lim = true → ∃ l, Sys2Proof.Machine.exec (.focusNudge h dir duration) s = .next { s with link := l }
            ∧ l.flags = s.link.flags ||| BitVec.twoPow 24 20
            ∧ l.replies.getLast? = some { kind := 0xA5, tag := h.tag, payload := [1], ready := false }))))
    ∧ (∀ (d : FocusDir) (on off : State),
      d = .inward ∧ on = { s with lines.limitIn := true } ∧ off = { s with lines.limitIn := false }
        ∨ d = .outward ∧ on = { s with lines.limitOut := true } ∧ off = { s with lines.limitOut := false } →
      Sys2Proof.Machine.exec (.focusLimit d false) s = .next off
      ∧ (∀ tag left, s.remote.focus = .nudge d tag left → Sys2Proof.Machine.exec (.focusLimit d true) s =
        .next (give (.focusEnd d .host .limit (some tag)) { on with remote.focus := .idle }))
      ∧ (∀ owner fast, s.remote.focus = .key owner d fast → Sys2Proof.Machine.exec (.focusLimit d true) s =
        .next (give (.focusEnd d (ownerOf owner) .limit none) { on with remote.focus := .idle }))
      ∧ ((∀ tag left, s.remote.focus ≠ .nudge d tag left) → (∀ owner fast, s.remote.focus ≠ .key owner d fast) →
        Sys2Proof.Machine.exec (.focusLimit d true) s = .next on))
    ∧ (∀ d tag left, s.remote.focus = .nudge d tag left →
      Sys2Proof.Machine.exec .nudgeEnd s = .next (give (.focusEnd d .host .complete (some tag)) { s with remote.focus := .idle })
      ∧ Sys2Proof.Machine.exec .focusFast s = .next s)
    ∧ (∀ owner d fast, s.remote.focus = .key owner d fast → Sys2Proof.Machine.exec .nudgeEnd s = .next s
      ∧ Sys2Proof.Machine.exec .focusFast s = .next { s with remote.focus := .key owner d true })
    ∧ (s.remote.focus = .idle → Sys2Proof.Machine.exec .nudgeEnd s = .next s ∧ Sys2Proof.Machine.exec .focusFast s = .next s)

/-! ### Laws every step keeps -/

/-- R176, R181: a record offered is kept, discarded or takes the place of the oldest as the mode and phase say. Every
step keeps the trace law, at most 64 records and WATERMARK set exactly at or above TRACE_WATERMARK; and but for a READ
TRACE, a mode write or a reset, a step in FILL keeps every record in its place, and a step once FROZEN in RING_FREEZE
changes none. -/
def Obligations.EveryStepKeepsTheTraceLaw : Prop :=
  (∀ (b : TraceBody) (s : State), s.trace.records.length ≤ 64 →
      (s.trace.mode = .off ∨ s.trace.mode = .ringFreeze ∧ s.trace.phase = .frozen
          ∨ s.trace.mode = .waitRing ∧ s.trace.phase = .waiting →
        offer b s = s)
      ∧ (s.trace.mode = .fill →
        (s.trace.records.length < 64 →
          (offer b s).trace.records = s.trace.records ++ [{ stamp := s.link.clock, body := b }])
        ∧ (s.trace.records.length = 64 →
          (offer b s).trace.records = s.trace.records ∧ (offer b s).trace.full = true))
      ∧ (s.trace.mode = .ring ∨ s.trace.mode = .ringFreeze ∧ (s.trace.phase = .ringing ∨ s.trace.phase = .posting)
          ∨ s.trace.mode = .waitRing ∧ s.trace.phase = .ringing →
        (s.trace.records.length < 64 →
          (offer b s).trace.records = s.trace.records ++ [{ stamp := s.link.clock, body := b }])
        ∧ (s.trace.records.length = 64 →
          (offer b s).trace.records = s.trace.records.drop 1 ++ [{ stamp := s.link.clock, body := b }]
            ∧ (offer b s).trace.overwritten = true)))
  ∧ ∀ s t : State, traceLaw s → Sys2Proof.Machine.step s = .next t →
    traceLaw t
    ∧ ∀ (c : Instr) (rest : List Instr), s.pending = c :: rest → ¬ takesRecords c s →
      (s.trace.mode = .fill → s.trace.records <+: t.trace.records)
      ∧ (s.trace.mode = .ringFreeze → s.trace.phase = .frozen → t.trace.records = s.trace.records)

/-- R190, R185, R191: every step keeps the link law: at most 16 notices queued, at most four requests awaiting replies,
and no bit of the fault word but those of the twelve kinds. -/
def Obligations.EveryStepKeepsTheLinkLaw : Prop :=
  ∀ s t : State, linkLaw s → Sys2Proof.Machine.step s = .next t → linkLaw t

/-- R189, R53: every step keeps every configuration item in its range, KEEP_WARM below DARK_THRESHOLD. -/
def Obligations.EveryStepKeepsTheItemsInRange : Prop :=
  ∀ s t : State, itemsLaw s.items → Sys2Proof.Machine.step s = .next t → itemsLaw t.items

/-- R46 to R48, R59 to R61, R70, R72 to R75: every step leaves D, ceiling, zone, permission and fan as the Heat Monitor
and the Lamp Drive decide them, and lights no lamp and swaps none in whose record is FAILED. That the ceiling agrees
with H in SLEEP too, after a coasting fan has cleared FAN_STALL, is the model's choice (log 58). The model's choices
here: logs 17, 58. -/
def Obligations.EveryStepKeepsLampAndHeatInAgreement : Prop :=
  ∀ s t : State, Sys2Proof.Machine.step s = .next t → (lampLaw s → lampLaw t) ∧ (thermalLaw s → thermalLaw t)

/-- R70, R46, R77: after every step the fan is at the level of the table of R70, so it runs while D is above 0 and at
HIGH while the cooldown is pending; D is at most the ceiling, and 0 under OVERTEMP or TCO_OPEN or with the active record
FAILED; and a fall of D to 0 leaves the cooldown pending. -/
def Obligations.DriveAndFanObeyTheirLaws : Prop :=
  ∀ s t : State, thermalLaw s → lampLaw s → Sys2Proof.Machine.step s = .next t →
    t.heat.fan =
      (if t.heat.power = .sleep then .off
        else if t.heat.cooling = true ∨ hasFault .overtemp t = true ∨ hasFault .tcoOpen t = true then .high
        else if 0 < t.lamp.drive then
          (match t.heat.floor with
            | .low => .low
            | .medium => .medium
            | .high => .high)
        else .off)
    ∧ driveLaw t
    ∧ (0 < s.lamp.drive → t.lamp.drive = 0 → t.heat.cooling = true)
    ∧ (sleepLaw s → changerLaw s → fanLaw t)

/-- R81, R82: after every step the part is in SLEEP only with the cooldown not pending, D = 0, the transport STOPPED or
NO_TAPE and the Changer IDLE; and a sleep is pending in STANDBY only. -/
def Obligations.SleepOnlyWhenAllIsAtRest : Prop :=
  ∀ s t : State, sleepLaw s → changerLaw s → Sys2Proof.Machine.step s = .next t → sleepLaw t

/-- R104, R105, R89: after every step program audio is muted and no end fade stands unless the transport is PLAYING; the
reel count stays in 0..65535. -/
def Obligations.AudioIsMutedUnlessPlaying : Prop :=
  ∀ s t : State, Sys2Proof.Machine.step s = .next t →
    (mutedLaw s → mutedLaw t) ∧ (s.transport.reel ≤ 65535 → t.transport.reel ≤ 65535)

/-- R148: every step keeps the law of the cue table. -/
def Obligations.EveryStepKeepsTheTableLaw : Prop :=
  ∀ s t : State, tableLaw s.program.table → Sys2Proof.Machine.step s = .next t → tableLaw t.program.table

/-- R126: every step keeps the law of the cue log; and a step that does not empty the log keeps every entry in it, in
order and at its reel count and kind. -/
def Obligations.EveryStepKeepsTheLogLaw : Prop :=
  ∀ s t : State, logLaw s.cueLog.entries → Sys2Proof.Machine.step s = .next t →
    logLaw t.cueLog.entries
    ∧ (t.cueLog.entries = []
      ∨ (s.cueLog.entries.map (fun e => (e.reel, e.kind))).Sublist (t.cueLog.entries.map (fun e => (e.reel, e.kind))))

/-- R5, R8, R20, R21, R36, R40: every step keeps a record for each slot and a known position in the tray, and the law of
the Changer: nothing moves in the gate but behind a closed shutter or a held dark. -/
def Obligations.EveryStepKeepsTrayAndChangerLaws : Prop :=
  ∀ s t : State, trayLaw s → Sys2Proof.Machine.step s = .next t → trayLaw t ∧ (changerLaw s → changerLaw t)

/-- R65, R66, R73: the heat estimate stays in 0..65535, the ambient value in 0..20480 and the trip latch set at 85 °C or
more; and H changes only at a heat-model update or at a power-on or RESET-line reset. -/
def Obligations.HeatEstimateChangesOnlyAtUpdates : Prop :=
  ∀ s t : State, heatLaw s → Sys2Proof.Machine.step s = .next t →
    heatLaw t
    ∧ (∀ (c : Instr) (rest : List Instr), s.pending = c :: rest → isHeatUpdate c = false → isHardReset c = false →
      t.heat.estimate = s.heat.estimate)
    ∧ (s.pending = [] → t.heat.estimate = s.heat.estimate)

/-- R159: while the lock is EXHIBIT and the SERVICE line is released, no step but a power-on or RESET-line reset changes
a protected cue table or slot map. -/
def Obligations.ProtectedContentDoesNotChange : Prop :=
  ∀ s t : State, s.program.lock = .exhibit → s.program.service = false →
    (∀ (c : Instr) (rest : List Instr), s.pending = c :: rest → isHardReset c = false) →
    Sys2Proof.Machine.step s = .next t → guardedKept s t

/-- The state after reset meets every law, and so does the state after a power-on from any state, or a RESET line from
one with H in its range. The model's choices here: log 7. -/
def Obligations.ResetsMeetEveryLaw : Prop :=
  everyLaw State.reset
    ∧ ∀ (pins : Pins) (s : State),
      (∃ t, Sys2Proof.Machine.exec (.powerOn pins) s = .next t ∧ everyLaw t)
      ∧ (s.heat.estimate ≤ 65535 → ∃ t, Sys2Proof.Machine.exec (.resetLine pins) s = .next t ∧ everyLaw t)
end

