-- ==== Sys2Proof/Laws/State.lean ====
section
/-! SUPPORT. What each named update of the state leaves alone, one lemma a field, each by `rfl`. -/

namespace Sys2Proof.Machine

variable (s : State)

/-! `replied` -/

@[simp] theorem replied_items (k t : Byte) (p : List Byte) : (replied k t p s).items = s.items := rfl
@[simp] theorem replied_trace (k t : Byte) (p : List Byte) : (replied k t p s).trace = s.trace := rfl
@[simp] theorem replied_tray (k t : Byte) (p : List Byte) : (replied k t p s).tray = s.tray := rfl
@[simp] theorem replied_changer (k t : Byte) (p : List Byte) : (replied k t p s).changer = s.changer := rfl
@[simp] theorem replied_lamp (k t : Byte) (p : List Byte) : (replied k t p s).lamp = s.lamp := rfl
@[simp] theorem replied_heat (k t : Byte) (p : List Byte) : (replied k t p s).heat = s.heat := rfl
@[simp] theorem replied_transport (k t : Byte) (p : List Byte) : (replied k t p s).transport = s.transport := rfl
@[simp] theorem replied_decoder (k t : Byte) (p : List Byte) : (replied k t p s).decoder = s.decoder := rfl
@[simp] theorem replied_cueLog (k t : Byte) (p : List Byte) : (replied k t p s).cueLog = s.cueLog := rfl
@[simp] theorem replied_program (k t : Byte) (p : List Byte) : (replied k t p s).program = s.program := rfl
@[simp] theorem replied_remote (k t : Byte) (p : List Byte) : (replied k t p s).remote = s.remote := rfl
@[simp] theorem replied_lines (k t : Byte) (p : List Byte) : (replied k t p s).lines = s.lines := rfl
@[simp] theorem replied_pending (k t : Byte) (p : List Byte) : (replied k t p s).pending = s.pending := rfl
@[simp] theorem replied_lineReads (k t : Byte) (p : List Byte) : (replied k t p s).lineReads = s.lineReads := rfl

/-! `takePlace` -/

@[simp] theorem takePlace_items (k t : Byte) : (takePlace k t s).items = s.items := rfl
@[simp] theorem takePlace_trace (k t : Byte) : (takePlace k t s).trace = s.trace := rfl
@[simp] theorem takePlace_tray (k t : Byte) : (takePlace k t s).tray = s.tray := rfl
@[simp] theorem takePlace_changer (k t : Byte) : (takePlace k t s).changer = s.changer := rfl
@[simp] theorem takePlace_lamp (k t : Byte) : (takePlace k t s).lamp = s.lamp := rfl
@[simp] theorem takePlace_heat (k t : Byte) : (takePlace k t s).heat = s.heat := rfl
@[simp] theorem takePlace_transport (k t : Byte) : (takePlace k t s).transport = s.transport := rfl
@[simp] theorem takePlace_decoder (k t : Byte) : (takePlace k t s).decoder = s.decoder := rfl
@[simp] theorem takePlace_cueLog (k t : Byte) : (takePlace k t s).cueLog = s.cueLog := rfl
@[simp] theorem takePlace_program (k t : Byte) : (takePlace k t s).program = s.program := rfl
@[simp] theorem takePlace_remote (k t : Byte) : (takePlace k t s).remote = s.remote := rfl
@[simp] theorem takePlace_lines (k t : Byte) : (takePlace k t s).lines = s.lines := rfl
@[simp] theorem takePlace_pending (k t : Byte) : (takePlace k t s).pending = s.pending := rfl
@[simp] theorem takePlace_lineReads (k t : Byte) : (takePlace k t s).lineReads = s.lineReads := rfl

/-! `overrunFrame` -/

@[simp] theorem overrunFrame_items : (overrunFrame s).items = s.items := rfl
@[simp] theorem overrunFrame_trace : (overrunFrame s).trace = s.trace := rfl
@[simp] theorem overrunFrame_tray : (overrunFrame s).tray = s.tray := rfl
@[simp] theorem overrunFrame_changer : (overrunFrame s).changer = s.changer := rfl
@[simp] theorem overrunFrame_lamp : (overrunFrame s).lamp = s.lamp := rfl
@[simp] theorem overrunFrame_heat : (overrunFrame s).heat = s.heat := rfl
@[simp] theorem overrunFrame_transport : (overrunFrame s).transport = s.transport := rfl
@[simp] theorem overrunFrame_decoder : (overrunFrame s).decoder = s.decoder := rfl
@[simp] theorem overrunFrame_cueLog : (overrunFrame s).cueLog = s.cueLog := rfl
@[simp] theorem overrunFrame_program : (overrunFrame s).program = s.program := rfl
@[simp] theorem overrunFrame_remote : (overrunFrame s).remote = s.remote := rfl
@[simp] theorem overrunFrame_lines : (overrunFrame s).lines = s.lines := rfl
@[simp] theorem overrunFrame_pending : (overrunFrame s).pending = s.pending := rfl
@[simp] theorem overrunFrame_lineReads : (overrunFrame s).lineReads = s.lineReads := rfl

/-! `give` -/

@[simp] theorem give_items (n : Notice) : (give n s).items = s.items := rfl
@[simp] theorem give_trace (n : Notice) : (give n s).trace = s.trace := rfl
@[simp] theorem give_tray (n : Notice) : (give n s).tray = s.tray := rfl
@[simp] theorem give_changer (n : Notice) : (give n s).changer = s.changer := rfl
@[simp] theorem give_lamp (n : Notice) : (give n s).lamp = s.lamp := rfl
@[simp] theorem give_heat (n : Notice) : (give n s).heat = s.heat := rfl
@[simp] theorem give_transport (n : Notice) : (give n s).transport = s.transport := rfl
@[simp] theorem give_decoder (n : Notice) : (give n s).decoder = s.decoder := rfl
@[simp] theorem give_cueLog (n : Notice) : (give n s).cueLog = s.cueLog := rfl
@[simp] theorem give_program (n : Notice) : (give n s).program = s.program := rfl
@[simp] theorem give_remote (n : Notice) : (give n s).remote = s.remote := rfl
@[simp] theorem give_lines (n : Notice) : (give n s).lines = s.lines := rfl
@[simp] theorem give_pending (n : Notice) : (give n s).pending = s.pending := rfl
@[simp] theorem give_lineReads (n : Notice) : (give n s).lineReads = s.lineReads := rfl

/-! `hunt` -/

@[simp] theorem hunt_items : (hunt s).items = s.items := rfl
@[simp] theorem hunt_trace : (hunt s).trace = s.trace := rfl
@[simp] theorem hunt_tray : (hunt s).tray = s.tray := rfl
@[simp] theorem hunt_changer : (hunt s).changer = s.changer := rfl
@[simp] theorem hunt_lamp : (hunt s).lamp = s.lamp := rfl
@[simp] theorem hunt_heat : (hunt s).heat = s.heat := rfl
@[simp] theorem hunt_transport : (hunt s).transport = s.transport := rfl
@[simp] theorem hunt_decoder : (hunt s).decoder = s.decoder := rfl
@[simp] theorem hunt_cueLog : (hunt s).cueLog = s.cueLog := rfl
@[simp] theorem hunt_program : (hunt s).program = s.program := rfl
@[simp] theorem hunt_remote : (hunt s).remote = s.remote := rfl
@[simp] theorem hunt_lines : (hunt s).lines = s.lines := rfl
@[simp] theorem hunt_pending : (hunt s).pending = s.pending := rfl
@[simp] theorem hunt_lineReads : (hunt s).lineReads = s.lineReads := rfl

/-! `setSlot` -/

@[simp] theorem setSlot_link (i : Nat) (r : SlotRec) : (setSlot i r s).link = s.link := rfl
@[simp] theorem setSlot_items (i : Nat) (r : SlotRec) : (setSlot i r s).items = s.items := rfl
@[simp] theorem setSlot_trace (i : Nat) (r : SlotRec) : (setSlot i r s).trace = s.trace := rfl
@[simp] theorem setSlot_changer (i : Nat) (r : SlotRec) : (setSlot i r s).changer = s.changer := rfl
@[simp] theorem setSlot_lamp (i : Nat) (r : SlotRec) : (setSlot i r s).lamp = s.lamp := rfl
@[simp] theorem setSlot_heat (i : Nat) (r : SlotRec) : (setSlot i r s).heat = s.heat := rfl
@[simp] theorem setSlot_transport (i : Nat) (r : SlotRec) : (setSlot i r s).transport = s.transport := rfl
@[simp] theorem setSlot_decoder (i : Nat) (r : SlotRec) : (setSlot i r s).decoder = s.decoder := rfl
@[simp] theorem setSlot_cueLog (i : Nat) (r : SlotRec) : (setSlot i r s).cueLog = s.cueLog := rfl
@[simp] theorem setSlot_program (i : Nat) (r : SlotRec) : (setSlot i r s).program = s.program := rfl
@[simp] theorem setSlot_remote (i : Nat) (r : SlotRec) : (setSlot i r s).remote = s.remote := rfl
@[simp] theorem setSlot_lines (i : Nat) (r : SlotRec) : (setSlot i r s).lines = s.lines := rfl
@[simp] theorem setSlot_pending (i : Nat) (r : SlotRec) : (setSlot i r s).pending = s.pending := rfl
@[simp] theorem setSlot_lineReads (i : Nat) (r : SlotRec) : (setSlot i r s).lineReads = s.lineReads := rfl

/-! `setTarget` -/

@[simp] theorem setTarget_link (t : Option Nat) : (setTarget t s).link = s.link := rfl
@[simp] theorem setTarget_items (t : Option Nat) : (setTarget t s).items = s.items := rfl
@[simp] theorem setTarget_trace (t : Option Nat) : (setTarget t s).trace = s.trace := rfl
@[simp] theorem setTarget_tray (t : Option Nat) : (setTarget t s).tray = s.tray := rfl
@[simp] theorem setTarget_lamp (t : Option Nat) : (setTarget t s).lamp = s.lamp := rfl
@[simp] theorem setTarget_heat (t : Option Nat) : (setTarget t s).heat = s.heat := rfl
@[simp] theorem setTarget_transport (t : Option Nat) : (setTarget t s).transport = s.transport := rfl
@[simp] theorem setTarget_decoder (t : Option Nat) : (setTarget t s).decoder = s.decoder := rfl
@[simp] theorem setTarget_cueLog (t : Option Nat) : (setTarget t s).cueLog = s.cueLog := rfl
@[simp] theorem setTarget_program (t : Option Nat) : (setTarget t s).program = s.program := rfl
@[simp] theorem setTarget_remote (t : Option Nat) : (setTarget t s).remote = s.remote := rfl
@[simp] theorem setTarget_lines (t : Option Nat) : (setTarget t s).lines = s.lines := rfl
@[simp] theorem setTarget_pending (t : Option Nat) : (setTarget t s).pending = s.pending := rfl
@[simp] theorem setTarget_lineReads (t : Option Nat) : (setTarget t s).lineReads = s.lineReads := rfl

/-! `redirect` -/

@[simp] theorem redirect_link (f : Cycle → Cycle) : (redirect f s).link = s.link := rfl
@[simp] theorem redirect_items (f : Cycle → Cycle) : (redirect f s).items = s.items := rfl
@[simp] theorem redirect_trace (f : Cycle → Cycle) : (redirect f s).trace = s.trace := rfl
@[simp] theorem redirect_tray (f : Cycle → Cycle) : (redirect f s).tray = s.tray := rfl
@[simp] theorem redirect_lamp (f : Cycle → Cycle) : (redirect f s).lamp = s.lamp := rfl
@[simp] theorem redirect_heat (f : Cycle → Cycle) : (redirect f s).heat = s.heat := rfl
@[simp] theorem redirect_transport (f : Cycle → Cycle) : (redirect f s).transport = s.transport := rfl
@[simp] theorem redirect_decoder (f : Cycle → Cycle) : (redirect f s).decoder = s.decoder := rfl
@[simp] theorem redirect_cueLog (f : Cycle → Cycle) : (redirect f s).cueLog = s.cueLog := rfl
@[simp] theorem redirect_program (f : Cycle → Cycle) : (redirect f s).program = s.program := rfl
@[simp] theorem redirect_remote (f : Cycle → Cycle) : (redirect f s).remote = s.remote := rfl
@[simp] theorem redirect_lines (f : Cycle → Cycle) : (redirect f s).lines = s.lines := rfl
@[simp] theorem redirect_pending (f : Cycle → Cycle) : (redirect f s).pending = s.pending := rfl
@[simp] theorem redirect_lineReads (f : Cycle → Cycle) : (redirect f s).lineReads = s.lineReads := rfl

/-! `toSettle` -/

@[simp] theorem toSettle_link : (toSettle s).link = s.link := rfl
@[simp] theorem toSettle_items : (toSettle s).items = s.items := rfl
@[simp] theorem toSettle_trace : (toSettle s).trace = s.trace := rfl
@[simp] theorem toSettle_tray : (toSettle s).tray = s.tray := rfl
@[simp] theorem toSettle_lamp : (toSettle s).lamp = s.lamp := rfl
@[simp] theorem toSettle_heat : (toSettle s).heat = s.heat := rfl
@[simp] theorem toSettle_transport : (toSettle s).transport = s.transport := rfl
@[simp] theorem toSettle_decoder : (toSettle s).decoder = s.decoder := rfl
@[simp] theorem toSettle_cueLog : (toSettle s).cueLog = s.cueLog := rfl
@[simp] theorem toSettle_program : (toSettle s).program = s.program := rfl
@[simp] theorem toSettle_remote : (toSettle s).remote = s.remote := rfl
@[simp] theorem toSettle_lines : (toSettle s).lines = s.lines := rfl
@[simp] theorem toSettle_pending : (toSettle s).pending = s.pending := rfl
@[simp] theorem toSettle_lineReads : (toSettle s).lineReads = s.lineReads := rfl

/-! `toPaused` -/

@[simp] theorem toPaused_link : (toPaused s).link = s.link := rfl
@[simp] theorem toPaused_items : (toPaused s).items = s.items := rfl
@[simp] theorem toPaused_trace : (toPaused s).trace = s.trace := rfl
@[simp] theorem toPaused_tray : (toPaused s).tray = s.tray := rfl
@[simp] theorem toPaused_lamp : (toPaused s).lamp = s.lamp := rfl
@[simp] theorem toPaused_heat : (toPaused s).heat = s.heat := rfl
@[simp] theorem toPaused_transport : (toPaused s).transport = s.transport := rfl
@[simp] theorem toPaused_decoder : (toPaused s).decoder = s.decoder := rfl
@[simp] theorem toPaused_cueLog : (toPaused s).cueLog = s.cueLog := rfl
@[simp] theorem toPaused_program : (toPaused s).program = s.program := rfl
@[simp] theorem toPaused_remote : (toPaused s).remote = s.remote := rfl
@[simp] theorem toPaused_lines : (toPaused s).lines = s.lines := rfl
@[simp] theorem toPaused_pending : (toPaused s).pending = s.pending := rfl
@[simp] theorem toPaused_lineReads : (toPaused s).lineReads = s.lineReads := rfl

/-! `driveMotor` -/

@[simp] theorem driveMotor_link (d : Turn) : (driveMotor d s).link = s.link := rfl
@[simp] theorem driveMotor_items (d : Turn) : (driveMotor d s).items = s.items := rfl
@[simp] theorem driveMotor_trace (d : Turn) : (driveMotor d s).trace = s.trace := rfl
@[simp] theorem driveMotor_tray (d : Turn) : (driveMotor d s).tray = s.tray := rfl
@[simp] theorem driveMotor_lamp (d : Turn) : (driveMotor d s).lamp = s.lamp := rfl
@[simp] theorem driveMotor_heat (d : Turn) : (driveMotor d s).heat = s.heat := rfl
@[simp] theorem driveMotor_transport (d : Turn) : (driveMotor d s).transport = s.transport := rfl
@[simp] theorem driveMotor_decoder (d : Turn) : (driveMotor d s).decoder = s.decoder := rfl
@[simp] theorem driveMotor_cueLog (d : Turn) : (driveMotor d s).cueLog = s.cueLog := rfl
@[simp] theorem driveMotor_program (d : Turn) : (driveMotor d s).program = s.program := rfl
@[simp] theorem driveMotor_remote (d : Turn) : (driveMotor d s).remote = s.remote := rfl
@[simp] theorem driveMotor_lines (d : Turn) : (driveMotor d s).lines = s.lines := rfl
@[simp] theorem driveMotor_pending (d : Turn) : (driveMotor d s).pending = s.pending := rfl
@[simp] theorem driveMotor_lineReads (d : Turn) : (driveMotor d s).lineReads = s.lineReads := rfl

/-! `toIdle` -/

@[simp] theorem toIdle_link : (toIdle s).link = s.link := rfl
@[simp] theorem toIdle_items : (toIdle s).items = s.items := rfl
@[simp] theorem toIdle_trace : (toIdle s).trace = s.trace := rfl
@[simp] theorem toIdle_lamp : (toIdle s).lamp = s.lamp := rfl
@[simp] theorem toIdle_heat : (toIdle s).heat = s.heat := rfl
@[simp] theorem toIdle_transport : (toIdle s).transport = s.transport := rfl
@[simp] theorem toIdle_decoder : (toIdle s).decoder = s.decoder := rfl
@[simp] theorem toIdle_cueLog : (toIdle s).cueLog = s.cueLog := rfl
@[simp] theorem toIdle_program : (toIdle s).program = s.program := rfl
@[simp] theorem toIdle_remote : (toIdle s).remote = s.remote := rfl
@[simp] theorem toIdle_lines : (toIdle s).lines = s.lines := rfl
@[simp] theorem toIdle_pending : (toIdle s).pending = s.pending := rfl
@[simp] theorem toIdle_lineReads : (toIdle s).lineReads = s.lineReads := rfl

/-! `cancelRestrike` -/

@[simp] theorem cancelRestrike_link : (cancelRestrike s).link = s.link := rfl
@[simp] theorem cancelRestrike_items : (cancelRestrike s).items = s.items := rfl
@[simp] theorem cancelRestrike_trace : (cancelRestrike s).trace = s.trace := rfl
@[simp] theorem cancelRestrike_tray : (cancelRestrike s).tray = s.tray := rfl
@[simp] theorem cancelRestrike_changer : (cancelRestrike s).changer = s.changer := rfl
@[simp] theorem cancelRestrike_heat : (cancelRestrike s).heat = s.heat := rfl
@[simp] theorem cancelRestrike_transport : (cancelRestrike s).transport = s.transport := rfl
@[simp] theorem cancelRestrike_decoder : (cancelRestrike s).decoder = s.decoder := rfl
@[simp] theorem cancelRestrike_cueLog : (cancelRestrike s).cueLog = s.cueLog := rfl
@[simp] theorem cancelRestrike_program : (cancelRestrike s).program = s.program := rfl
@[simp] theorem cancelRestrike_remote : (cancelRestrike s).remote = s.remote := rfl
@[simp] theorem cancelRestrike_lines : (cancelRestrike s).lines = s.lines := rfl
@[simp] theorem cancelRestrike_pending : (cancelRestrike s).pending = s.pending := rfl
@[simp] theorem cancelRestrike_lineReads : (cancelRestrike s).lineReads = s.lineReads := rfl

/-! `reloadTimer` -/

@[simp] theorem reloadTimer_link : (reloadTimer s).link = s.link := rfl
@[simp] theorem reloadTimer_items : (reloadTimer s).items = s.items := rfl
@[simp] theorem reloadTimer_trace : (reloadTimer s).trace = s.trace := rfl
@[simp] theorem reloadTimer_tray : (reloadTimer s).tray = s.tray := rfl
@[simp] theorem reloadTimer_changer : (reloadTimer s).changer = s.changer := rfl
@[simp] theorem reloadTimer_lamp : (reloadTimer s).lamp = s.lamp := rfl
@[simp] theorem reloadTimer_heat : (reloadTimer s).heat = s.heat := rfl
@[simp] theorem reloadTimer_transport : (reloadTimer s).transport = s.transport := rfl
@[simp] theorem reloadTimer_decoder : (reloadTimer s).decoder = s.decoder := rfl
@[simp] theorem reloadTimer_cueLog : (reloadTimer s).cueLog = s.cueLog := rfl
@[simp] theorem reloadTimer_remote : (reloadTimer s).remote = s.remote := rfl
@[simp] theorem reloadTimer_lines : (reloadTimer s).lines = s.lines := rfl
@[simp] theorem reloadTimer_pending : (reloadTimer s).pending = s.pending := rfl
@[simp] theorem reloadTimer_lineReads : (reloadTimer s).lineReads = s.lineReads := rfl

/-! `markTimerHeld` -/

@[simp] theorem markTimerHeld_link (b : Bool) : (markTimerHeld b s).link = s.link := rfl
@[simp] theorem markTimerHeld_items (b : Bool) : (markTimerHeld b s).items = s.items := rfl
@[simp] theorem markTimerHeld_trace (b : Bool) : (markTimerHeld b s).trace = s.trace := rfl
@[simp] theorem markTimerHeld_tray (b : Bool) : (markTimerHeld b s).tray = s.tray := rfl
@[simp] theorem markTimerHeld_changer (b : Bool) : (markTimerHeld b s).changer = s.changer := rfl
@[simp] theorem markTimerHeld_lamp (b : Bool) : (markTimerHeld b s).lamp = s.lamp := rfl
@[simp] theorem markTimerHeld_heat (b : Bool) : (markTimerHeld b s).heat = s.heat := rfl
@[simp] theorem markTimerHeld_transport (b : Bool) : (markTimerHeld b s).transport = s.transport := rfl
@[simp] theorem markTimerHeld_decoder (b : Bool) : (markTimerHeld b s).decoder = s.decoder := rfl
@[simp] theorem markTimerHeld_cueLog (b : Bool) : (markTimerHeld b s).cueLog = s.cueLog := rfl
@[simp] theorem markTimerHeld_remote (b : Bool) : (markTimerHeld b s).remote = s.remote := rfl
@[simp] theorem markTimerHeld_lines (b : Bool) : (markTimerHeld b s).lines = s.lines := rfl
@[simp] theorem markTimerHeld_pending (b : Bool) : (markTimerHeld b s).pending = s.pending := rfl
@[simp] theorem markTimerHeld_lineReads (b : Bool) : (markTimerHeld b s).lineReads = s.lineReads := rfl

/-! `unmarkTapeHeld` -/

@[simp] theorem unmarkTapeHeld_link : (unmarkTapeHeld s).link = s.link := rfl
@[simp] theorem unmarkTapeHeld_items : (unmarkTapeHeld s).items = s.items := rfl
@[simp] theorem unmarkTapeHeld_trace : (unmarkTapeHeld s).trace = s.trace := rfl
@[simp] theorem unmarkTapeHeld_tray : (unmarkTapeHeld s).tray = s.tray := rfl
@[simp] theorem unmarkTapeHeld_changer : (unmarkTapeHeld s).changer = s.changer := rfl
@[simp] theorem unmarkTapeHeld_lamp : (unmarkTapeHeld s).lamp = s.lamp := rfl
@[simp] theorem unmarkTapeHeld_heat : (unmarkTapeHeld s).heat = s.heat := rfl
@[simp] theorem unmarkTapeHeld_transport : (unmarkTapeHeld s).transport = s.transport := rfl
@[simp] theorem unmarkTapeHeld_decoder : (unmarkTapeHeld s).decoder = s.decoder := rfl
@[simp] theorem unmarkTapeHeld_cueLog : (unmarkTapeHeld s).cueLog = s.cueLog := rfl
@[simp] theorem unmarkTapeHeld_remote : (unmarkTapeHeld s).remote = s.remote := rfl
@[simp] theorem unmarkTapeHeld_lines : (unmarkTapeHeld s).lines = s.lines := rfl
@[simp] theorem unmarkTapeHeld_pending : (unmarkTapeHeld s).pending = s.pending := rfl
@[simp] theorem unmarkTapeHeld_lineReads : (unmarkTapeHeld s).lineReads = s.lineReads := rfl

/-! `clearSeekCue` -/

@[simp] theorem clearSeekCue_link : (clearSeekCue s).link = s.link := rfl
@[simp] theorem clearSeekCue_items : (clearSeekCue s).items = s.items := rfl
@[simp] theorem clearSeekCue_trace : (clearSeekCue s).trace = s.trace := rfl
@[simp] theorem clearSeekCue_tray : (clearSeekCue s).tray = s.tray := rfl
@[simp] theorem clearSeekCue_changer : (clearSeekCue s).changer = s.changer := rfl
@[simp] theorem clearSeekCue_lamp : (clearSeekCue s).lamp = s.lamp := rfl
@[simp] theorem clearSeekCue_heat : (clearSeekCue s).heat = s.heat := rfl
@[simp] theorem clearSeekCue_transport : (clearSeekCue s).transport = s.transport := rfl
@[simp] theorem clearSeekCue_decoder : (clearSeekCue s).decoder = s.decoder := rfl
@[simp] theorem clearSeekCue_program : (clearSeekCue s).program = s.program := rfl
@[simp] theorem clearSeekCue_remote : (clearSeekCue s).remote = s.remote := rfl
@[simp] theorem clearSeekCue_lines : (clearSeekCue s).lines = s.lines := rfl
@[simp] theorem clearSeekCue_pending : (clearSeekCue s).pending = s.pending := rfl
@[simp] theorem clearSeekCue_lineReads : (clearSeekCue s).lineReads = s.lineReads := rfl

/-! `stillIn` -/

@[simp] theorem stillIn_link (st : TapeState) : (stillIn st s).link = s.link := rfl
@[simp] theorem stillIn_items (st : TapeState) : (stillIn st s).items = s.items := rfl
@[simp] theorem stillIn_trace (st : TapeState) : (stillIn st s).trace = s.trace := rfl
@[simp] theorem stillIn_tray (st : TapeState) : (stillIn st s).tray = s.tray := rfl
@[simp] theorem stillIn_changer (st : TapeState) : (stillIn st s).changer = s.changer := rfl
@[simp] theorem stillIn_lamp (st : TapeState) : (stillIn st s).lamp = s.lamp := rfl
@[simp] theorem stillIn_heat (st : TapeState) : (stillIn st s).heat = s.heat := rfl
@[simp] theorem stillIn_decoder (st : TapeState) : (stillIn st s).decoder = s.decoder := rfl
@[simp] theorem stillIn_cueLog (st : TapeState) : (stillIn st s).cueLog = s.cueLog := rfl
@[simp] theorem stillIn_program (st : TapeState) : (stillIn st s).program = s.program := rfl
@[simp] theorem stillIn_remote (st : TapeState) : (stillIn st s).remote = s.remote := rfl
@[simp] theorem stillIn_lines (st : TapeState) : (stillIn st s).lines = s.lines := rfl
@[simp] theorem stillIn_pending (st : TapeState) : (stillIn st s).pending = s.pending := rfl
@[simp] theorem stillIn_lineReads (st : TapeState) : (stillIn st s).lineReads = s.lineReads := rfl

/-! `driveTape` -/

@[simp] theorem driveTape_link (st : TapeState) (d : CountDir) : (driveTape st d s).link = s.link := rfl
@[simp] theorem driveTape_items (st : TapeState) (d : CountDir) : (driveTape st d s).items = s.items := rfl
@[simp] theorem driveTape_trace (st : TapeState) (d : CountDir) : (driveTape st d s).trace = s.trace := rfl
@[simp] theorem driveTape_tray (st : TapeState) (d : CountDir) : (driveTape st d s).tray = s.tray := rfl
@[simp] theorem driveTape_changer (st : TapeState) (d : CountDir) : (driveTape st d s).changer = s.changer := rfl
@[simp] theorem driveTape_lamp (st : TapeState) (d : CountDir) : (driveTape st d s).lamp = s.lamp := rfl
@[simp] theorem driveTape_heat (st : TapeState) (d : CountDir) : (driveTape st d s).heat = s.heat := rfl
@[simp] theorem driveTape_decoder (st : TapeState) (d : CountDir) : (driveTape st d s).decoder = s.decoder := rfl
@[simp] theorem driveTape_cueLog (st : TapeState) (d : CountDir) : (driveTape st d s).cueLog = s.cueLog := rfl
@[simp] theorem driveTape_program (st : TapeState) (d : CountDir) : (driveTape st d s).program = s.program := rfl
@[simp] theorem driveTape_remote (st : TapeState) (d : CountDir) : (driveTape st d s).remote = s.remote := rfl
@[simp] theorem driveTape_lines (st : TapeState) (d : CountDir) : (driveTape st d s).lines = s.lines := rfl
@[simp] theorem driveTape_pending (st : TapeState) (d : CountDir) : (driveTape st d s).pending = s.pending := rfl
@[simp] theorem driveTape_lineReads (st : TapeState) (d : CountDir) : (driveTape st d s).lineReads = s.lineReads := rfl

/-! `setPending` -/

@[simp] theorem setPending_link (d : PendingDest) : (setPending d s).link = s.link := rfl
@[simp] theorem setPending_items (d : PendingDest) : (setPending d s).items = s.items := rfl
@[simp] theorem setPending_trace (d : PendingDest) : (setPending d s).trace = s.trace := rfl
@[simp] theorem setPending_tray (d : PendingDest) : (setPending d s).tray = s.tray := rfl
@[simp] theorem setPending_changer (d : PendingDest) : (setPending d s).changer = s.changer := rfl
@[simp] theorem setPending_lamp (d : PendingDest) : (setPending d s).lamp = s.lamp := rfl
@[simp] theorem setPending_heat (d : PendingDest) : (setPending d s).heat = s.heat := rfl
@[simp] theorem setPending_decoder (d : PendingDest) : (setPending d s).decoder = s.decoder := rfl
@[simp] theorem setPending_cueLog (d : PendingDest) : (setPending d s).cueLog = s.cueLog := rfl
@[simp] theorem setPending_program (d : PendingDest) : (setPending d s).program = s.program := rfl
@[simp] theorem setPending_remote (d : PendingDest) : (setPending d s).remote = s.remote := rfl
@[simp] theorem setPending_lines (d : PendingDest) : (setPending d s).lines = s.lines := rfl
@[simp] theorem setPending_pending (d : PendingDest) : (setPending d s).pending = s.pending := rfl
@[simp] theorem setPending_lineReads (d : PendingDest) : (setPending d s).lineReads = s.lineReads := rfl

/-! `resync` -/

@[simp] theorem resync_link : (resync s).link = s.link := rfl
@[simp] theorem resync_items : (resync s).items = s.items := rfl
@[simp] theorem resync_trace : (resync s).trace = s.trace := rfl
@[simp] theorem resync_tray : (resync s).tray = s.tray := rfl
@[simp] theorem resync_changer : (resync s).changer = s.changer := rfl
@[simp] theorem resync_lamp : (resync s).lamp = s.lamp := rfl
@[simp] theorem resync_heat : (resync s).heat = s.heat := rfl
@[simp] theorem resync_transport : (resync s).transport = s.transport := rfl
@[simp] theorem resync_decoder : (resync s).decoder = s.decoder := rfl
@[simp] theorem resync_cueLog : (resync s).cueLog = s.cueLog := rfl
@[simp] theorem resync_remote : (resync s).remote = s.remote := rfl
@[simp] theorem resync_lines : (resync s).lines = s.lines := rfl
@[simp] theorem resync_pending : (resync s).pending = s.pending := rfl
@[simp] theorem resync_lineReads : (resync s).lineReads = s.lineReads := rfl

/-! `discardEntry` -/

@[simp] theorem discardEntry_link : (discardEntry s).link = s.link := rfl
@[simp] theorem discardEntry_items : (discardEntry s).items = s.items := rfl
@[simp] theorem discardEntry_trace : (discardEntry s).trace = s.trace := rfl
@[simp] theorem discardEntry_tray : (discardEntry s).tray = s.tray := rfl
@[simp] theorem discardEntry_changer : (discardEntry s).changer = s.changer := rfl
@[simp] theorem discardEntry_lamp : (discardEntry s).lamp = s.lamp := rfl
@[simp] theorem discardEntry_heat : (discardEntry s).heat = s.heat := rfl
@[simp] theorem discardEntry_transport : (discardEntry s).transport = s.transport := rfl
@[simp] theorem discardEntry_decoder : (discardEntry s).decoder = s.decoder := rfl
@[simp] theorem discardEntry_cueLog : (discardEntry s).cueLog = s.cueLog := rfl
@[simp] theorem discardEntry_program : (discardEntry s).program = s.program := rfl
@[simp] theorem discardEntry_lines : (discardEntry s).lines = s.lines := rfl
@[simp] theorem discardEntry_pending : (discardEntry s).pending = s.pending := rfl
@[simp] theorem discardEntry_lineReads : (discardEntry s).lineReads = s.lineReads := rfl

/-! `evalPermission` -/

@[simp] theorem evalPermission_link : (evalPermission s).link = s.link := rfl
@[simp] theorem evalPermission_items : (evalPermission s).items = s.items := rfl
@[simp] theorem evalPermission_trace : (evalPermission s).trace = s.trace := rfl
@[simp] theorem evalPermission_tray : (evalPermission s).tray = s.tray := rfl
@[simp] theorem evalPermission_changer : (evalPermission s).changer = s.changer := rfl
@[simp] theorem evalPermission_lamp : (evalPermission s).lamp = s.lamp := rfl
@[simp] theorem evalPermission_transport : (evalPermission s).transport = s.transport := rfl
@[simp] theorem evalPermission_decoder : (evalPermission s).decoder = s.decoder := rfl
@[simp] theorem evalPermission_cueLog : (evalPermission s).cueLog = s.cueLog := rfl
@[simp] theorem evalPermission_program : (evalPermission s).program = s.program := rfl
@[simp] theorem evalPermission_remote : (evalPermission s).remote = s.remote := rfl
@[simp] theorem evalPermission_lines : (evalPermission s).lines = s.lines := rfl
@[simp] theorem evalPermission_pending : (evalPermission s).pending = s.pending := rfl
@[simp] theorem evalPermission_lineReads : (evalPermission s).lineReads = s.lineReads := rfl

/-! `evalFan` -/

@[simp] theorem evalFan_link : (evalFan s).link = s.link := rfl
@[simp] theorem evalFan_items : (evalFan s).items = s.items := rfl
@[simp] theorem evalFan_trace : (evalFan s).trace = s.trace := rfl
@[simp] theorem evalFan_tray : (evalFan s).tray = s.tray := rfl
@[simp] theorem evalFan_changer : (evalFan s).changer = s.changer := rfl
@[simp] theorem evalFan_lamp : (evalFan s).lamp = s.lamp := rfl
@[simp] theorem evalFan_transport : (evalFan s).transport = s.transport := rfl
@[simp] theorem evalFan_decoder : (evalFan s).decoder = s.decoder := rfl
@[simp] theorem evalFan_cueLog : (evalFan s).cueLog = s.cueLog := rfl
@[simp] theorem evalFan_program : (evalFan s).program = s.program := rfl
@[simp] theorem evalFan_remote : (evalFan s).remote = s.remote := rfl
@[simp] theorem evalFan_lines : (evalFan s).lines = s.lines := rfl
@[simp] theorem evalFan_pending : (evalFan s).pending = s.pending := rfl
@[simp] theorem evalFan_lineReads : (evalFan s).lineReads = s.lineReads := rfl

/-! Fields within the updated block -/

@[simp] theorem replied_faults (k t : Byte) (p : List Byte) : (replied k t p s).link.faults = s.link.faults := rfl
@[simp] theorem replied_mask (k t : Byte) (p : List Byte) : (replied k t p s).link.mask = s.link.mask := rfl
@[simp] theorem replied_clock (k t : Byte) (p : List Byte) : (replied k t p s).link.clock = s.link.clock := rfl
@[simp] theorem replied_notices (k t : Byte) (p : List Byte) : (replied k t p s).link.notices = s.link.notices := rfl
@[simp] theorem replied_sending (k t : Byte) (p : List Byte) : (replied k t p s).link.sending = s.link.sending := rfl
@[simp] theorem takePlace_faults (k t : Byte) : (takePlace k t s).link.faults = s.link.faults := rfl
@[simp] theorem evalFan_estimate : (evalFan s).heat.estimate = s.heat.estimate := rfl
@[simp] theorem evalFan_power : (evalFan s).heat.power = s.heat.power := rfl
@[simp] theorem evalFan_cooling : (evalFan s).heat.cooling = s.heat.cooling := rfl
@[simp] theorem evalFan_ceiling : (evalFan s).heat.ceiling = s.heat.ceiling := rfl
@[simp] theorem evalFan_fan : (evalFan s).heat.fan = fanLevelOf s := rfl
@[simp] theorem evalPermission_estimate : (evalPermission s).heat.estimate = s.heat.estimate := rfl
@[simp] theorem evalPermission_fan : (evalPermission s).heat.fan = s.heat.fan := rfl
@[simp] theorem toIdle_stage : (toIdle s).changer.stage = .idle := rfl
@[simp] theorem toIdle_cycle : (toIdle s).changer.cycle = none := rfl
@[simp] theorem toIdle_queue : (toIdle s).changer.queue = s.changer.queue := rfl
@[simp] theorem stillIn_state (st : TapeState) : (stillIn st s).transport.state = st := rfl
@[simp] theorem stillIn_reel (st : TapeState) : (stillIn st s).transport.reel = s.transport.reel := rfl
@[simp] theorem driveTape_state (st : TapeState) (d : CountDir) : (driveTape st d s).transport.state = st := rfl
@[simp] theorem driveTape_reel (st : TapeState) (d : CountDir) :
    (driveTape st d s).transport.reel = s.transport.reel := rfl

end Sys2Proof.Machine
end

