-- ==== Sys2Proof/Laws/Ops.lean ====
section
/-! SUPPORT. What each shared operation can do, said once: the blocks it can touch, and the fields it keeps there. -/

namespace Sys2Proof.Machine

/-! ### The transmitter and notices -/

/-- The transmitter moves frames only: the flags, the mask, the faults and the receiver stand. -/
theorem pump_keeps (l : Link) :
    (pump l).flags = l.flags ∧ (pump l).mask = l.mask ∧ (pump l).noticesLost = l.noticesLost
      ∧ (pump l).overrun = l.overrun ∧ (pump l).faults = l.faults ∧ (pump l).clock = l.clock
      ∧ (pump l).receiving = l.receiving ∧ (pump l).rxBuffer = l.rxBuffer := by
  unfold pump
  repeat' split
  all_goals exact ⟨rfl, rfl, rfl, rfl, rfl, rfl, rfl, rfl⟩

/-- A busy transmitter starts nothing. -/
theorem pump_busy (l : Link) (f : TxFrame) (h : l.sending = some f) : pump l = l := by simp [pump, h]

/-- A queued notice leaves the mask, the faults, the clock and the receiver alone. -/
theorem queueNotice_keeps (n : Notice) (l : Link) :
    (queueNotice n l).mask = l.mask ∧ (queueNotice n l).faults = l.faults ∧ (queueNotice n l).clock = l.clock
      ∧ (queueNotice n l).overrun = l.overrun ∧ (queueNotice n l).receiving = l.receiving
      ∧ (queueNotice n l).rxBuffer = l.rxBuffer := by
  unfold queueNotice
  split
  · obtain ⟨-, h1, -, h2, h3, h4, h5, h6⟩ := pump_keeps { l with notices := l.notices ++ [n] }
    exact ⟨h1, h3, h4, h2, h5, h6⟩
  · exact ⟨rfl, rfl, rfl, rfl, rfl, rfl⟩

/-- A notice leaves the mask, the faults, the clock and the receiver alone. -/
theorem giveLink_keeps (n : Notice) (l : Link) :
    (giveLink n l).mask = l.mask ∧ (giveLink n l).faults = l.faults ∧ (giveLink n l).clock = l.clock
      ∧ (giveLink n l).overrun = l.overrun ∧ (giveLink n l).receiving = l.receiving
      ∧ (giveLink n l).rxBuffer = l.rxBuffer := by
  unfold giveLink
  dsimp only
  split
  · exact queueNotice_keeps n { l with flags := l.flags ||| noticeMask n }
  · exact ⟨rfl, rfl, rfl, rfl, rfl, rfl⟩

@[simp] theorem give_faults (n : Notice) (s : State) : (give n s).link.faults = s.link.faults :=
  (giveLink_keeps n s.link).2.1

@[simp] theorem give_mask (n : Notice) (s : State) : (give n s).link.mask = s.link.mask := (giveLink_keeps n s.link).1

@[simp] theorem give_clock (n : Notice) (s : State) : (give n s).link.clock = s.link.clock :=
  (giveLink_keeps n s.link).2.2.1

/-- Notices given in order reach the link alone. -/
theorem giveAll_spec (ns : List Notice) (s : State) :
    ∃ l, giveAll ns s = { s with link := l } ∧ l.faults = s.link.faults ∧ l.mask = s.link.mask
      ∧ l.clock = s.link.clock := by
  induction ns generalizing s with
  | nil => exact ⟨s.link, rfl, rfl, rfl, rfl⟩
  | cons n ns ih =>
    obtain ⟨l, h, h1, h2, h3⟩ := ih (give n s)
    exact ⟨l, h, by simpa using h1, by simpa using h2, by simpa using h3⟩

/-! ### Trace records -/

/-- WATERMARK settles in the link and the trace alone, and keeps the records. -/
theorem settleWatermark_spec (s : State) :
    ∃ l t, settleWatermark s = { s with link := l, trace := t } ∧ l.faults = s.link.faults ∧ l.mask = s.link.mask
      ∧ l.clock = s.link.clock ∧ t.records = s.trace.records ∧ t.mode = s.trace.mode ∧ t.phase = s.trace.phase := by
  unfold settleWatermark
  dsimp only
  split
  · exact ⟨_, _, rfl, give_faults _ _, give_mask _ _, give_clock _ _, rfl, rfl, rfl⟩
  · exact ⟨_, _, rfl, rfl, rfl, rfl, rfl, rfl, rfl⟩

/-- A freeze reaches the link and the trace alone, and keeps the records. -/
theorem freezeTrace_spec (s : State) :
    ∃ l t, freezeTrace s = { s with link := l, trace := t } ∧ l.faults = s.link.faults ∧ l.mask = s.link.mask
      ∧ l.clock = s.link.clock ∧ t.records = s.trace.records :=
  ⟨_, _, rfl, give_faults _ _, give_mask _ _, give_clock _ _, rfl⟩

/-- The count of POSTING reaches the link and the trace alone, and keeps the records. -/
theorem countPost_spec (s : State) :
    ∃ l t, countPost s = { s with link := l, trace := t } ∧ l.faults = s.link.faults ∧ l.mask = s.link.mask
      ∧ l.clock = s.link.clock ∧ t.records = s.trace.records := by
  unfold countPost
  dsimp only
  split
  · exact freezeTrace_spec s
  · exact ⟨_, _, rfl, rfl, rfl, rfl, rfl⟩

/-- A record offered reaches the link and the trace alone, and never the faults, the mask or the clock. -/
theorem offer_spec (b : TraceBody) (s : State) :
    ∃ l t, offer b s = { s with link := l, trace := t } ∧ l.faults = s.link.faults ∧ l.mask = s.link.mask
      ∧ l.clock = s.link.clock := by
  have kept : ∀ t0 : Trace, ∃ l t, settleWatermark { s with trace := t0 } = { s with link := l, trace := t }
      ∧ l.faults = s.link.faults ∧ l.mask = s.link.mask ∧ l.clock = s.link.clock := by
    intro t0
    obtain ⟨l, t, h, h1, h2, h3, -⟩ := settleWatermark_spec { s with trace := t0 }
    exact ⟨l, t, by rw [h], h1, h2, h3⟩
  unfold offer
  dsimp only
  split
  · exact ⟨s.link, s.trace, rfl, rfl, rfl, rfl⟩
  · exact kept _
  · exact ⟨s.link, s.trace, rfl, rfl, rfl, rfl⟩
  · obtain ⟨l, t, h, h1, h2, h3⟩ := kept (ringPush { stamp := s.link.clock, body := b } s.trace)
    obtain ⟨l', t', h', g1, g2, g3, -⟩ := countPost_spec
      (settleWatermark { s with trace := ringPush { stamp := s.link.clock, body := b } s.trace })
    rw [h] at h' g1 g2 g3
    exact ⟨l', t', by rw [h, h'], g1.trans h1, g2.trans h2, g3.trans h3⟩
  · exact ⟨s.link, s.trace, rfl, rfl, rfl, rfl⟩
  · exact kept _

/-- A report reaches the link and the trace alone. -/
theorem report_spec (n : Notice) (b : TraceBody) (s : State) :
    ∃ l t, report n b s = { s with link := l, trace := t } ∧ l.faults = s.link.faults ∧ l.mask = s.link.mask
      ∧ l.clock = s.link.clock := by
  obtain ⟨l, t, h, h1, h2, h3⟩ := offer_spec b (give n s)
  exact ⟨l, t, h, by simpa using h1, by simpa using h2, by simpa using h3⟩

/-! ### Faults -/

/-- The trigger acts on the trace phase, and gives at most the FROZEN notice. -/
theorem actOnTrigger_spec (holds : Bool) (s : State) :
    ∃ l t, actOnTrigger holds s = { s with link := l, trace := t } ∧ l.faults = s.link.faults ∧ l.mask = s.link.mask
      ∧ l.clock = s.link.clock ∧ t.records = s.trace.records := by
  unfold actOnTrigger
  repeat' split
  all_goals first
    | exact freezeTrace_spec s
    | exact ⟨_, _, rfl, rfl, rfl, rfl, rfl⟩

/-- A fault's record and the trigger's change reach the link and the trace alone. -/
theorem recordFault_spec (b : TraceBody) (before : Bool) (s : State) :
    ∃ l t, recordFault b before s = { s with link := l, trace := t } ∧ l.faults = s.link.faults
      ∧ l.mask = s.link.mask ∧ l.clock = s.link.clock := by
  unfold recordFault
  dsimp only
  split
  · exact offer_spec b s
  · split
    · obtain ⟨l, t, h, h1, h2, h3, -⟩ := actOnTrigger_spec (triggerHolds s) s
      obtain ⟨l', t', h', g1, g2, g3⟩ := offer_spec b (actOnTrigger (triggerHolds s) s)
      rw [h] at h' g1 g2 g3
      exact ⟨l', t', by rw [h, h'], g1.trans h1, g2.trans h2, g3.trans h3⟩
    · obtain ⟨l, t, h, h1, h2, h3⟩ := offer_spec b s
      obtain ⟨l', t', h', g1, g2, g3, -⟩ := actOnTrigger_spec (triggerHolds s) (offer b s)
      rw [h] at h' g1 g2 g3
      exact ⟨l', t', by rw [h, h'], g1.trans h1, g2.trans h2, g3.trans h3⟩

/-- Raising a fault reaches the link and the trace alone, and its fault word is the old one with the fault's bit. -/
theorem raiseFault_spec (f : FaultKind) (pos : Option LampPos) (s : State) :
    ∃ l t, raiseFault f pos s = { s with link := l, trace := t } ∧ l.mask = s.link.mask ∧ l.clock = s.link.clock
      ∧ l.faults = (if hasFault f s then s.link.faults else s.link.faults ||| faultMask f) := by
  unfold raiseFault
  split
  · rename_i h
    exact ⟨s.link, s.trace, rfl, rfl, rfl, by simp⟩
  · obtain ⟨l, t, h, h1, h2, h3⟩ := recordFault_spec (.faultRaised f pos) (triggerHolds s)
      (give (.fault f true pos) { s with link := { s.link with faults := s.link.faults ||| faultMask f } })
    exact ⟨l, t, h, by simpa using h2, by simpa using h3, by simpa using h1⟩

/-- Clearing a fault reaches the link and the trace alone, and its fault word is the old one without the fault's bit. -/
theorem clearFault_spec (f : FaultKind) (s : State) :
    ∃ l t, clearFault f s = { s with link := l, trace := t } ∧ l.mask = s.link.mask ∧ l.clock = s.link.clock
      ∧ l.faults = (if hasFault f s then s.link.faults &&& ~~~(faultMask f) else s.link.faults) := by
  unfold clearFault
  split
  · obtain ⟨l, t, h, h1, h2, h3⟩ := recordFault_spec (.faultCleared f none) (triggerHolds s)
      (give (.fault f false none) { s with link := { s.link with faults := s.link.faults &&& ~~~(faultMask f) } })
    exact ⟨l, t, h, by simpa using h2, by simpa using h3, by simpa using h1⟩
  · exact ⟨s.link, s.trace, rfl, rfl, rfl, by simp⟩

/-! ### Tape reports -/

/-- A TAPE report reaches the link and the trace alone. -/
theorem reportTape_spec (cause : Reason) (e : TapeEnds) (s : State) :
    ∃ l t, reportTape cause e s = { s with link := l, trace := t } ∧ l.faults = s.link.faults ∧ l.mask = s.link.mask
      ∧ l.clock = s.link.clock := report_spec _ _ s

/-- A seek's early end clears its record and reports it; the transport stands otherwise (R103). -/
theorem endSeek_spec (outcome reason : Reason) (s : State) :
    ∃ l t, endSeek outcome reason s = { s with link := l, trace := t, transport := { s.transport with seek := none } }
      ∧ l.faults = s.link.faults ∧ l.mask = s.link.mask ∧ l.clock = s.link.clock := by
  unfold endSeek
  split
  · exact reportTape_spec _ _ _
  · rename_i h
    exact ⟨s.link, s.trace, by rw [← h], rfl, rfl, rfl⟩

/-! ### The loop and the end of the audio fade -/

/-- A loop that is not armed does not end (R142). -/
theorem endLoop_disarmed (reason : Reason) (detail : Option Reason) (s : State) (h : s.cueLog.armed = false) :
    endLoop reason detail s = s := by simp [endLoop, h]

/-- The end of an armed loop clears both flags, settles the phase and gives LOOP ENDED, and reaches nothing else (R142). -/
theorem endLoop_armed (reason : Reason) (detail : Option Reason) (s : State) (h : s.cueLog.armed = true) :
    endLoop reason detail s = give (.loopEnded reason detail s.program.loops s.transport.reel)
      { s with cueLog := { s.cueLog with armed := false, restart := false, phase := phaseAfterEnd s.cueLog.phase } } := by
  simp [endLoop, h]

/-- Outside ENDING the end of the audio fade does nothing (R140). -/
theorem fadeEndsWith_idle (stop : State → State) (rewind : State → Option Reason × State) (s : State)
    (h : s.cueLog.phase ≠ .ending) : fadeEndsWith stop rewind s = s := by simp [fadeEndsWith, h]

/-- Without a restart the end of the audio fade is its STOP and the phase IDLE (R140). -/
theorem fadeEndsWith_stops (stop : State → State) (rewind : State → Option Reason × State) (s : State)
    (h : s.cueLog.phase = .ending) (hr : (stop s).cueLog.restart = false) :
    fadeEndsWith stop rewind s = { stop s with cueLog := { (stop s).cueLog with phase := .idle } } := by
  simp [fadeEndsWith, h, hr]

/-! ### The trace's mode write -/

/-- A mode write sets the buffer afresh; where it freezes at once it gives FROZEN, and reaches nothing else (R177, R179). -/
theorem writeTraceMode_spec (mode : TraceMode) (trigger : BitVec 16) (post : Nat) (s : State) :
    ∃ l, writeTraceMode mode trigger post s
        = { s with link := l, trace := freshTrace mode trigger post (trigger &&& s.link.faults != 0) }
      ∧ l.faults = s.link.faults ∧ l.mask = s.link.mask ∧ l.clock = s.link.clock := by
  unfold writeTraceMode
  dsimp only
  split
  · exact ⟨_, rfl, give_faults (.frozen 0) s, give_mask (.frozen 0) s, give_clock (.frozen 0) s⟩
  · exact ⟨s.link, rfl, rfl, rfl, rfl⟩

/-! ### The dark test -/

/-- With no dark request waiting the dark test does nothing. -/
theorem darkTest_idle (s : State) (h : s.lamp.darkWaiting = false) : darkTest s = s := by simp [darkTest, h]

/-- An effect that moves neither D nor the lamp state makes no dark test. -/
theorem withDarkTest_still (f : State → State) (s : State) (hd : (f s).lamp.drive = s.lamp.drive)
    (hl : (f s).lamp.state = s.lamp.state) : withDarkTest f s = f s := by simp [withDarkTest, hd, hl]

/-- An effect that leaves no dark request waiting is made as it is. -/
theorem withDarkTest_idle (f : State → State) (s : State) (h : (f s).lamp.darkWaiting = false) : withDarkTest f s = f s := by
  simp [withDarkTest, darkTest_idle _ h]

/-! ### Motion requests -/

/-- With no end fade running a taken motion request acts, and then is handed on. -/
theorem takeMotion_no_fade (enter : MotionReq → MotionSource → TapeEnds → State → State) (hand cut : State → State)
    (req : MotionReq) (source : MotionSource) (tag : Option Byte) (s : State) (h : fadeRuns s = false) :
    takeMotion enter hand cut req source tag s
      = ((moveTape enter req source tag s).1, hand (moveTape enter req source tag s).2) := by simp [takeMotion, h]

/-- With no loop armed a motion request handed to the Cue Log clears the seek-cue record when it is taken, and no more. -/
theorem handMotion_unarmed (req : MotionReq) (source : MotionSource) (taken : Bool) (s : State) (h : s.cueLog.armed = false) :
    handMotion req source taken s = if taken then clearSeekCue s else s := by
  have e : ∀ r d, endLoop r d s = s := fun r d => by simp [endLoop, h]
  cases source <;> simp [handMotion, e]

/-! ### Requests -/

/-- A place taken and filled is the reply. -/
theorem fillReply_takePlace (k t : Byte) (p : List Byte) (s : State) : fillReply p (takePlace k t s) = replied k t p s := by
  simp [fillReply, takePlace, replied]

/-- Outside SLEEP a frame wakes nothing. -/
theorem wake_awake (src : WakeSource) (s : State) (h : s.heat.power ≠ .sleep) : wake src s = s := by simp [wake, h]

/-- A THERMAL report is made only where a watched value changed. -/
theorem settleThermal_same (key : FanLevel × Zone × Bool) (s : State) (h : thermalKey s = key) : settleThermal key s = s := by
  simp [settleThermal, h]

/-- A THERMAL report reaches the link and the trace alone. -/
theorem settleThermal_spec (key : FanLevel × Zone × Bool) (s : State) :
    ∃ l t, settleThermal key s = { s with link := l, trace := t } ∧ l.faults = s.link.faults ∧ l.mask = s.link.mask
      ∧ l.clock = s.link.clock := by
  unfold settleThermal
  split
  · exact ⟨s.link, s.trace, rfl, rfl, rfl, rfl⟩
  · exact report_spec _ _ s

/-- A servable request of the right length is its owner's body behind its place in the reply order. -/
theorem request_served (k : Byte) (n : Nat) (h : Hdr) (body : State → Answer × State) (s : State) (hs : servable s)
    (hl : h.len.toNat = n) :
    request k n h body s = settleThermal (thermalKey s)
      (fillReply (answerPayload (body (takePlace (k + 0x80) h.tag s)).1) (body (takePlace (k + 0x80) h.tag s)).2) := by
  have room : ¬ 4 ≤ awaiting s.link := Nat.not_le.mpr hs.1
  have awake : wake .frame (takePlace (k + 0x80) h.tag s) = takePlace (k + 0x80) h.tag s := wake_awake _ _ hs.2
  simp only [request, room, if_false, withThermal, serve, served, awake, hl, if_true]

/-- A servable request of a wrong length is answered BAD_ARG and changes nothing. -/
theorem request_wrong_length (k : Byte) (n : Nat) (h : Hdr) (body : State → Answer × State) (s : State) (hs : servable s)
    (hl : h.len.toNat ≠ n) : request k n h body s = replied (k + 0x80) h.tag [2, 3] s := by
  have room : ¬ 4 ≤ awaiting s.link := Nat.not_le.mpr hs.1
  have awake : wake .frame (takePlace (k + 0x80) h.tag s) = takePlace (k + 0x80) h.tag s := wake_awake _ _ hs.2
  simp only [request, room, if_false, withThermal, serve, served, awake, hl, if_false, answerPayload, reasonCode, byte1,
    fillReply_takePlace]
  exact settleThermal_same _ _ rfl

/-- A request whose body answers `a` and leaves the state as it found it changes only the reply order. -/
theorem request_unchanged (k : Byte) (n : Nat) (h : Hdr) (body : State → Answer × State) (a : Answer) (s : State)
    (hs : servable s) (hl : h.len.toNat = n)
    (hb : body (takePlace (k + 0x80) h.tag s) = (a, takePlace (k + 0x80) h.tag s)) :
    request k n h body s = replied (k + 0x80) h.tag (answerPayload a) s := by
  rw [request_served k n h body s hs hl, hb, fillReply_takePlace]
  exact settleThermal_same _ _ rfl

end Sys2Proof.Machine
end

