-- ==== Sys2Proof/Laws/PerInstr.lean ====
section
/-! SUPPORT. One statement of each command as syntax: what its well-formedness comes to. -/

namespace Sys2Proof.Laws

/-- A command is well-formed exactly when its operands are and its frame, if it has one, carries at most 60 payload bytes
(R183). -/
def WellFormedness.Statement (i : Instr) : Prop :=
  i.wf = true ↔ i.operandsWf = true ∧ ∀ h, i.hdr = some h → h.len.toNat ≤ 60

/-- Well-formedness of any command, once. -/
theorem wf_iff (i : Instr) : WellFormedness.Statement i := by
  unfold WellFormedness.Statement Instr.wf
  cases i.hdr <;> simp [Hdr.wf]

theorem WellFormedness.powerOn (pins : Pins) : WellFormedness.Statement (.powerOn pins) := wf_iff _
theorem WellFormedness.resetLine (pins : Pins) : WellFormedness.Statement (.resetLine pins) := wf_iff _
theorem WellFormedness.softReset (service : Bool) : WellFormedness.Statement (.softReset service) := wf_iff _
theorem WellFormedness.linkByteTimeout : WellFormedness.Statement .linkByteTimeout := wf_iff _
theorem WellFormedness.frameReject (kind : Byte) (tag : Byte) (checkOk : Bool) : WellFormedness.Statement (.frameReject kind tag checkOk) := wf_iff _
theorem WellFormedness.frameOverrun : WellFormedness.Statement .frameOverrun := wf_iff _
theorem WellFormedness.frameSent : WellFormedness.Statement .frameSent := wf_iff _
theorem WellFormedness.identify (h : Hdr) : WellFormedness.Statement (.identify h) := wf_iff _
theorem WellFormedness.readStatus (h : Hdr) : WellFormedness.Statement (.readStatus h) := wf_iff _
theorem WellFormedness.getItem (h : Hdr) (item : Byte) : WellFormedness.Statement (.getItem h item) := wf_iff _
theorem WellFormedness.setItem (h : Hdr) (item : Byte) (value : BitVec 16) : WellFormedness.Statement (.setItem h item value) := wf_iff _
theorem WellFormedness.reset (h : Hdr) : WellFormedness.Statement (.reset h) := wf_iff _
theorem WellFormedness.faultClear (h : Hdr) (code : Byte) : WellFormedness.Statement (.faultClear h code) := wf_iff _
theorem WellFormedness.setNoticeMask (h : Hdr) (mask : BitVec 24) : WellFormedness.Statement (.setNoticeMask h mask) := wf_iff _
theorem WellFormedness.powerMode (h : Hdr) (mode : Byte) : WellFormedness.Statement (.powerMode h mode) := wf_iff _
theorem WellFormedness.step (h : Hdr) (n : Byte) : WellFormedness.Statement (.step h n) := wf_iff _
theorem WellFormedness.goto (h : Hdr) (slot : Byte) : WellFormedness.Statement (.goto h slot) := wf_iff _
theorem WellFormedness.pauseMove (h : Hdr) : WellFormedness.Statement (.pauseMove h) := wf_iff _
theorem WellFormedness.continueMove (h : Hdr) : WellFormedness.Statement (.continueMove h) := wf_iff _
theorem WellFormedness.abortMoves (h : Hdr) : WellFormedness.Statement (.abortMoves h) := wf_iff _
theorem WellFormedness.markSlot (h : Hdr) (slot : Byte) (presence : Byte) (hold : Byte) (value : BitVec 16) : WellFormedness.Statement (.markSlot h slot presence hold value) := wf_iff _
theorem WellFormedness.setMap (h : Hdr) (num : Byte) (slots : SlotSet) : WellFormedness.Statement (.setMap h num slots) := wf_iff _
theorem WellFormedness.getMap (h : Hdr) (num : Byte) : WellFormedness.Statement (.getMap h num) := wf_iff _
theorem WellFormedness.selectMap (h : Hdr) (num : Byte) : WellFormedness.Statement (.selectMap h num) := wf_iff _
theorem WellFormedness.lampOn (h : Hdr) : WellFormedness.Statement (.lampOn h) := wf_iff _
theorem WellFormedness.lampOff (h : Hdr) : WellFormedness.Statement (.lampOff h) := wf_iff _
theorem WellFormedness.fade (h : Hdr) (level : BitVec 16) (duration : BitVec 16) : WellFormedness.Statement (.fade h level duration) := wf_iff _
theorem WellFormedness.selectLamp (h : Hdr) (pos : Byte) : WellFormedness.Statement (.selectLamp h pos) := wf_iff _
theorem WellFormedness.markLamp (h : Hdr) (pos : Byte) (cond : Byte) : WellFormedness.Statement (.markLamp h pos cond) := wf_iff _
theorem WellFormedness.focusNudge (h : Hdr) (dir : Byte) (duration : BitVec 16) : WellFormedness.Statement (.focusNudge h dir duration) := wf_iff _
theorem WellFormedness.play (h : Hdr) : WellFormedness.Statement (.play h) := wf_iff _
theorem WellFormedness.stop (h : Hdr) : WellFormedness.Statement (.stop h) := wf_iff _
theorem WellFormedness.pause (h : Hdr) : WellFormedness.Statement (.pause h) := wf_iff _
theorem WellFormedness.rewind (h : Hdr) : WellFormedness.Statement (.rewind h) := wf_iff _
theorem WellFormedness.wind (h : Hdr) : WellFormedness.Statement (.wind h) := wf_iff _
theorem WellFormedness.seekCount (h : Hdr) (count : BitVec 16) : WellFormedness.Statement (.seekCount h count) := wf_iff _
theorem WellFormedness.seekCue (h : Hdr) (index : BitVec 16) : WellFormedness.Statement (.seekCue h index) := wf_iff _
theorem WellFormedness.setVolume (h : Hdr) (volume : Byte) : WellFormedness.Statement (.setVolume h volume) := wf_iff _
theorem WellFormedness.setCueSource (h : Hdr) (source : Byte) : WellFormedness.Statement (.setCueSource h source) := wf_iff _
theorem WellFormedness.injectCue (h : Hdr) (kind : Byte) : WellFormedness.Statement (.injectCue h kind) := wf_iff _
theorem WellFormedness.reference (h : Hdr) : WellFormedness.Statement (.reference h) := wf_iff _
theorem WellFormedness.writeEntry (h : Hdr) (index : BitVec 16) (actions : List RawAction) : WellFormedness.Statement (.writeEntry h index actions) := wf_iff _
theorem WellFormedness.deleteEntry (h : Hdr) (index : BitVec 16) : WellFormedness.Statement (.deleteEntry h index) := wf_iff _
theorem WellFormedness.readEntry (h : Hdr) (index : BitVec 16) (mode : Byte) : WellFormedness.Statement (.readEntry h index mode) := wf_iff _
theorem WellFormedness.clearTable (h : Hdr) : WellFormedness.Statement (.clearTable h) := wf_iff _
theorem WellFormedness.readCueLog (h : Hdr) (start : BitVec 16) : WellFormedness.Statement (.readCueLog h start) := wf_iff _
theorem WellFormedness.clearCueLog (h : Hdr) : WellFormedness.Statement (.clearCueLog h) := wf_iff _
theorem WellFormedness.chase (h : Hdr) (index : BitVec 16) : WellFormedness.Statement (.chase h index) := wf_iff _
theorem WellFormedness.timerStart (h : Hdr) (period : BitVec 16) : WellFormedness.Statement (.timerStart h period) := wf_iff _
theorem WellFormedness.timerStop (h : Hdr) : WellFormedness.Statement (.timerStop h) := wf_iff _
theorem WellFormedness.hold (h : Hdr) : WellFormedness.Statement (.hold h) := wf_iff _
theorem WellFormedness.continueShow (h : Hdr) : WellFormedness.Statement (.continueShow h) := wf_iff _
theorem WellFormedness.setTraceMode (h : Hdr) (mode : Byte) (trigger : BitVec 16) (post : Byte) : WellFormedness.Statement (.setTraceMode h mode trigger post) := wf_iff _
theorem WellFormedness.readTrace (h : Hdr) (k : Byte) : WellFormedness.Statement (.readTrace h k) := wf_iff _
theorem WellFormedness.protect (h : Hdr) (item : Byte) : WellFormedness.Statement (.protect h item) := wf_iff _
theorem WellFormedness.unprotect (h : Hdr) : WellFormedness.Statement (.unprotect h) := wf_iff _
theorem WellFormedness.lock (h : Hdr) (state : Byte) : WellFormedness.Statement (.lock h state) := wf_iff _
theorem WellFormedness.trayCodeChange (code : Fin 4) : WellFormedness.Statement (.trayCodeChange code) := wf_iff _
theorem WellFormedness.indexPulse (mark : Bool) : WellFormedness.Statement (.indexPulse mark) := wf_iff _
theorem WellFormedness.cycleStart : WellFormedness.Statement .cycleStart := wf_iff _
theorem WellFormedness.shutterCloseDone : WellFormedness.Statement .shutterCloseDone := wf_iff _
theorem WellFormedness.liftDone : WellFormedness.Statement .liftDone := wf_iff _
theorem WellFormedness.liftTimeout : WellFormedness.Statement .liftTimeout := wf_iff _
theorem WellFormedness.rotateStallTimeout : WellFormedness.Statement .rotateStallTimeout := wf_iff _
theorem WellFormedness.dropPathReport : WellFormedness.Statement .dropPathReport := wf_iff _
theorem WellFormedness.dropTimeout : WellFormedness.Statement .dropTimeout := wf_iff _
theorem WellFormedness.seatReport : WellFormedness.Statement .seatReport := wf_iff _
theorem WellFormedness.seatTimeout : WellFormedness.Statement .seatTimeout := wf_iff _
theorem WellFormedness.settleDone : WellFormedness.Statement .settleDone := wf_iff _
theorem WellFormedness.preheatEnd : WellFormedness.Statement .preheatEnd := wf_iff _
theorem WellFormedness.fadeStep (current : Bool) : WellFormedness.Statement (.fadeStep current) := wf_iff _
theorem WellFormedness.swapTravelEnd : WellFormedness.Statement .swapTravelEnd := wf_iff _
theorem WellFormedness.heatUpdate (reading : Option Int) : WellFormedness.Statement (.heatUpdate reading) := wf_iff _
theorem WellFormedness.fanStallTimeout : WellFormedness.Statement .fanStallTimeout := wf_iff _
theorem WellFormedness.fanTachPulse : WellFormedness.Statement .fanTachPulse := wf_iff _
theorem WellFormedness.tcoLineChange (opened : Bool) : WellFormedness.Statement (.tcoLineChange opened) := wf_iff _
theorem WellFormedness.cassetteChange (present : Bool) : WellFormedness.Statement (.cassetteChange present) := wf_iff _
theorem WellFormedness.brakeEnd : WellFormedness.Statement .brakeEnd := wf_iff _
theorem WellFormedness.reelTachPulse : WellFormedness.Statement .reelTachPulse := wf_iff _
theorem WellFormedness.leaderChange (present : Bool) : WellFormedness.Statement (.leaderChange present) := wf_iff _
theorem WellFormedness.tapeStallTimeout : WellFormedness.Statement .tapeStallTimeout := wf_iff _
theorem WellFormedness.endFadeStep : WellFormedness.Statement .endFadeStep := wf_iff _
theorem WellFormedness.analysisFrame (l1 : Byte) (l2 : Byte) (l3 : Byte) : WellFormedness.Statement (.analysisFrame l1 l2 l3) := wf_iff _
theorem WellFormedness.relayOutFrameSent : WellFormedness.Statement .relayOutFrameSent := wf_iff _
theorem WellFormedness.relayOutGapEnd : WellFormedness.Statement .relayOutGapEnd := wf_iff _
theorem WellFormedness.relayInFrame (bits : BitVec 14) : WellFormedness.Statement (.relayInFrame bits) := wf_iff _
theorem WellFormedness.relayInTimingError : WellFormedness.Statement .relayInTimingError := wf_iff _
theorem WellFormedness.relayConflictTimeout : WellFormedness.Statement .relayConflictTimeout := wf_iff _
theorem WellFormedness.autoAdvanceExpiry : WellFormedness.Statement .autoAdvanceExpiry := wf_iff _
theorem WellFormedness.serviceLineChange (asserted : Bool) : WellFormedness.Statement (.serviceLineChange asserted) := wf_iff _
theorem WellFormedness.irFrame (bits : BitVec 16) : WellFormedness.Statement (.irFrame bits) := wf_iff _
theorem WellFormedness.irReleaseTimeout : WellFormedness.Statement .irReleaseTimeout := wf_iff _
theorem WellFormedness.ladderBandChange (band : Band) : WellFormedness.Statement (.ladderBandChange band) := wf_iff _
theorem WellFormedness.keyRepeat (remote : Remote) : WellFormedness.Statement (.keyRepeat remote) := wf_iff _
theorem WellFormedness.entryWindowExpiry : WellFormedness.Statement .entryWindowExpiry := wf_iff _
theorem WellFormedness.powerHoldTimeout : WellFormedness.Statement .powerHoldTimeout := wf_iff _
theorem WellFormedness.focusFast : WellFormedness.Statement .focusFast := wf_iff _
theorem WellFormedness.focusLimit (dir : FocusDir) (asserted : Bool) : WellFormedness.Statement (.focusLimit dir asserted) := wf_iff _
theorem WellFormedness.nudgeEnd : WellFormedness.Statement .nudgeEnd := wf_iff _
theorem WellFormedness.syncByte : WellFormedness.Statement .syncByte := wf_iff _
theorem WellFormedness.lengthByteAbove60 : WellFormedness.Statement .lengthByteAbove60 := wf_iff _
theorem WellFormedness.replyReady (place : Nat) : WellFormedness.Statement (.replyReady place) := wf_iff _
theorem WellFormedness.irLeader : WellFormedness.Statement .irLeader := wf_iff _
theorem WellFormedness.irTimingError (leaderMark : Bool) : WellFormedness.Statement (.irTimingError leaderMark) := wf_iff _
theorem WellFormedness.relayInStartPulse : WellFormedness.Statement .relayInStartPulse := wf_iff _
theorem WellFormedness.ladderSample (sample : BitVec 10) : WellFormedness.Statement (.ladderSample sample) := wf_iff _

end Sys2Proof.Laws
end

