-- ==== Sys2Proof/Tests/Slice0.lean ====
section
/-! SUPPORT. Small tests on fixed values, worked examples of the specification among them, and for every statement with
hypotheses a state and operands that meet them. -/

open Sys2Proof Sys2Proof.Machine

namespace Sys2Proof.Tests

/-! ### Helpers -/

/-- A request header. -/
def hdr (n : Nat) : Hdr := { tag := 7, len := BitVec.ofNat 8 n }

/-- ACTIVE with a 48-slot tray at slot 5 and a cassette at rest. -/
def up : State :=
  { State.reset with
    heat.power := .active
    heat.cooling := false
    tray.code := 1
    tray.position := some 5
    tray.slots := List.replicate 48 freshSlot
    transport.state := .stopped
    transport.cassette := true }

/-- A cycle of a host's GOTO 9 behind the shutter. -/
def cyc : Cycle := cycleTo (hostEntry (.goto 9) 3) .shutter 9

/-- `up` in a stage of that cycle. -/
def inStage (st : Stage) : State := { up with changer.stage := st, changer.cycle := some cyc }

/-- `up` with its lamp in a state. -/
def lampIn (st : LampState) : State := { up with lamp.state := st }

/-- `up` with its tape in a state. -/
def tapeIn (st : TapeState) : State := { up with transport.state := st }

/-- `up` with a fault. -/
def faulty (f : FaultKind) : State := { up with link.faults := BitVec.twoPow 16 (faultCode f - 1) }

/-- The state after a command. -/
def after (c : Instr) (s : State) : State :=
  match exec c s with
  | .next t => t
  | .fault f => nomatch f
  | .refused _ => s

/-- The infrared word of a key code with channel 0 and toggle clear. -/
def irWord (code : Nat) : BitVec 16 := BitVec.ofNat 16 (code * 128 + (63 - code))

/-- The last reply's payload. -/
def payload (s : State) : List Byte := ((s.link.replies.getLast?).map (fun r => r.payload)).getD []

/-! ### Commands and words -/

theorem test_wf_refuses_length_61 : (Instr.identify (hdr 61)).wf = false := by decide
theorem test_wf_takes_length_60 : (Instr.identify (hdr 60)).wf = true := by decide
theorem test_wf_refuses_twelve_actions :
    (Instr.writeEntry (hdr 60) 1 (List.replicate 12 { code := 7, a := 0, b := 0 })).wf = false := by decide
theorem test_wf_takes_four_actions :
    (Instr.writeEntry (hdr 23) 1 (List.replicate 4 { code := 7, a := 0, b := 0 })).wf = true := by decide
theorem test_wf_refuses_rejecting_a_good_request : (Instr.frameReject 0x02 0 true).wf = false := by decide
theorem test_wf_takes_rejecting_an_unknown_kind : (Instr.frameReject 0x09 0 true).wf = true := by decide
theorem test_wf_refuses_a_fifth_place : (Instr.replyReady 4).wf = false := by decide
theorem test_wf_takes_the_fourth_place : (Instr.replyReady 3).wf = true := by decide
theorem test_request_kinds_agree_low :
    (List.range' 0 128).all (fun k => requestKind (BitVec.ofNat 8 k) == isRequestKind (BitVec.ofNat 8 k)) = true := by decide
theorem test_request_kinds_agree_high :
    (List.range' 128 128).all (fun k => requestKind (BitVec.ofNat 8 k) == isRequestKind (BitVec.ofNat 8 k)) = true := by decide
theorem test_no_word_spells_a_command : decodeTableWord 0 0 = none ∧ decodeTableWord 16 65535 = none := by decide
theorem test_fetch_word_changes_nothing : State.reset.withFetchWord 8 255 = State.reset := by decide
theorem test_step_takes_the_front :
    step { State.reset with pending := [.syncByte, .frameSent] } = exec .syncByte { State.reset with pending := [.frameSent] } :=
  rfl
theorem test_idle_step_counts_one_millisecond :
    (match step State.reset with
      | .next t => decide (t.link.clock = 1)
      | _ => false) = true := by decide

/-! ### Worked examples of the specification -/

/-- R183: READ STATUS with tag 7 is C3 02 07 00 F7. -/
theorem test_read_status_frame : frameBytes 0x02 0x07 [] = [0xC3, 0x02, 0x07, 0x00, 0xF7] := by decide
/-- R188: the six characters of IDENTIFY, and protocol version 1. -/
theorem test_identify_reply :
    (payload (after (.identify (hdr 0)) up)).take 7 = [0x00, 0x4F, 0x5A, 0x2D, 0x34, 0x31, 0x38] := by decide
/-- R50: the worked fade from 40 to 1000 in 300 ms. -/
theorem test_fade_worked_values :
    [1, 7, 30].map (fadeLevel { kind := .show_, a := 40, b := 1000, n := 30, k := 0 }) = [72, 264, 1000] := by decide
/-- R105: the worked end fade from 40 in 200 steps. -/
theorem test_end_fade_worked_values :
    [3, 4, 99, 198].map (fun k => (after .endFadeStep { up with
      transport.state := .playing, transport.gain := 40, transport.endFade := .running 40 200 k }).transport.gain)
      = [40, 39, 20, 1] := by decide
/-- R18: 48 forward of 49 positions is one backward. -/
theorem test_turns_the_short_way : turnFor 48 5 4 = .backward ∧ turnFor 48 5 29 = .forward ∧ turnFor 48 5 30 = .backward := by
  decide
/-- R120: ADVANCE 5 on the cue-out line, kind 001, index 0000000101, parity 1, taken by a part that follows the line: the
cue index becomes 5. -/
theorem test_relay_advance_five :
    (after (.relayInFrame 0x080B) { up with items.cueSource := .line }).program.cueIndex = 5 := by decide
/-- R119, R120: the same frame as the part sends it: 37 ms and one for each of its four 1 bits. -/
theorem test_relay_word_advance_five :
    relayWord { kind := .advance, index := 5 } = 0x080B ∧ relayFrameMs { kind := .advance, index := 5 } = 41 := by decide
/-- R186 and R165: a key's code in a notice or record is its place in the list, its frame code is the remote's own. -/
theorem test_key_codes :
    (keyCode .adv, irKeyCode .adv) = (10, 16) ∧ keyCode .adv ≠ keyCode .user1 ∧ irKeyCode .user1 = 48 := by decide
/-- R89: in PLAYING capstan and pinch roller drive; STOPPED runs nothing. -/
theorem test_actuators_of_playing :
    actuators .playing = { capstan := true, pinch := true, reels := .takeUpTension } ∧ (actuators .stopped).capstan = false := by
  decide
/-- R72: the ceiling falls by 600 over the derating zone. -/
theorem test_ceiling_table : [19199, 19200, 20480, 21759, 21760].map (fun h => heatCeiling h false) = [1000, 1000, 700, 401, 0] := by
  decide
/-- R189: a write of 1000 to item 7 is clamped to 200. -/
theorem test_set_item_clamps : payload (after (.setItem (hdr 3) 7 1000) up) = [0, 7, 0, 200] := by decide
/-- R53: KEEP_WARM stays below DARK_THRESHOLD. -/
theorem test_keep_warm_follows_threshold : (after (.setItem (hdr 3) 7 20) up).items.keepWarm = 19 := by decide

/-! ### One step of each kind of command -/

/-- A claim REQUESTED and waiting at D 180, above the threshold as reset. -/
def requested : State :=
  { lampIn .lit with lamp.ramp := 180, lamp.drive := 180, lamp.darkWaiting := true, changer.claim := .requested }

/-- R53: a raised DARK_THRESHOLD is used by a waiting dark request from the next step on, and a FADE before it changes nothing. -/
theorem test_new_threshold_waits_for_a_step :
    (after (.fade (hdr 4) 200 5) (after (.setItem (hdr 3) 7 200) requested)).changer.claim = .requested
      ∧ (after (.fadeStep true) (after (.fade (hdr 4) 200 5) (after (.setItem (hdr 3) 7 200) requested))).changer.claim = .held := by
  decide

theorem test_goto_starts_its_cycle :
    (after (.goto (hdr 1) 9) up).changer.stage = .lift ∧ payload (after (.goto (hdr 1) 9) up) = [1] := by decide
theorem test_goto_same_slot_lifts_too : (after (.goto (hdr 1) 5) up).changer.stage = .lift := by decide
theorem test_goto_above_tray_refused : payload (after (.goto (hdr 1) 49) up) = [2, 3] := by decide
theorem test_step_backward_wraps :
    (after (.step (hdr 1) 0xFF) { up with tray.position := some 1 }).changer.cycle.bind (fun c => c.target) = some 48 := by decide
theorem test_seat_report_loads_the_gate :
    (after .seatReport { inStage .drop with changer.seatWindow := true }).changer.gate = .loaded := by decide
theorem test_lift_timeout_raises_jam : hasFault .jamLift (after .liftTimeout (inStage .lift)) = true := by decide
theorem test_lamp_on_preheats : (after (.lampOn (hdr 0)) up).lamp.drive = 120 := by decide
theorem test_lamp_on_too_hot : payload (after (.lampOn (hdr 0)) { up with heat.estimate := 17921 }) = [2, 10] := by decide
theorem test_cut_out_darkens :
    (after (.tcoLineChange true) { lampIn .lit with lamp.ramp := 500, lamp.drive := 500 }).lamp.drive = 0 := by decide
theorem test_heat_update_cools_toward_ambient :
    (after (.heatUpdate (some 10240)) { up with heat.fan := .high }).heat.estimate = 17902 := by decide
theorem test_play_sets_volume : (after (.play (hdr 0)) up).transport.gain = 40 := by decide
theorem test_stop_brakes : (after (.stop (hdr 0)) { tapeIn .playing with transport.gain := 40 }).transport.state = .stopping := by
  decide
theorem test_reel_count_holds_at_top :
    (after .reelTachPulse { tapeIn .winding with transport.reel := 65535, transport.dir := .forward }).transport.reel = 65535 := by
  decide
theorem test_inject_cue_counts :
    (after (.injectCue (hdr 1) 3) { up with items.cueSource := .host, program.cueIndex := 999 }).program.cueIndex = 999 := by decide
theorem test_write_entry_writes :
    (after (.writeEntry (hdr 8) 5 [{ code := 8, a := 77, b := 0 }]) up).program.table =
      [{ index := 5, actions := [.notify 77] }] := by decide
theorem test_protected_table_locked :
    payload (after (.clearTable (hdr 0)) { up with program.protectTable := true }) = [2, 12] := by decide
theorem test_trace_fill_keeps : (offer (.timerLost .full) { up with trace.mode := .fill }).trace.records.length = 1 := by decide
theorem test_ladder_sixth_sample_presses :
    (after (.ladderSample 1023) { up with remote.stableBand := .adv, remote.candidate := some (.noKey, 5) }).remote.stableBand
      = .noKey := by decide
theorem test_soft_reset_keeps_items :
    (after (.softReset false) { up with items.volume := 9 }).items.volume = 9
      ∧ (after (.softReset false) { up with items.volume := 9 }).heat.power = .standby := by decide
/-- R184, R193: the reply of a RESET of a wrong length resets nothing. -/
theorem test_refused_reset_keeps_power :
    (after .frameSent { up with
      link.sending := some (replyFrame { kind := 0x85, tag := 7, payload := [2, 3], ready := true }) }).heat.power = .active := by
  decide
/-- R193, R158: the soft reset of a RESET request takes the SERVICE line as it stands then, a free value. -/
theorem test_reset_reply_takes_service :
    (after .frameSent { up with
      link.sending := some (replyFrame { kind := 0x85, tag := 7, payload := [0], ready := true }) }).program.service
        = Config.serviceLevel 0 := rfl
/-- R182, R179: the trigger stands after a soft reset with a post count of 0: FROZEN at once, with its notice. -/
theorem test_soft_reset_freezes :
    (after (.softReset false) { up with
      tray.code := 3, trace.mode := .ringFreeze, trace.trigger := 8, trace.post := 0 }).link.flags.getLsbD 22 = true := by decide
/-- R90, R105: a removal in the end fade of a loop's pass ends the fade first, and the loop ends NO_TAPE. -/
theorem test_removal_in_end_fade_ends_loop :
    (after (.cassetteChange false) { tapeIn .playing with
      transport.endFade := .running 40 9 0, cueLog.phase := .ending, cueLog.armed := true, cueLog.restart := true,
      link.mask := BitVec.twoPow 24 16, link.sending := some { bytes := [], isReply := false } }).link.notices
        = [.loopEnded .noTape none 0 0] := by decide
/-- R106, R97, R142: a WIND of the host at the tail leader makes a tape end, and the armed loop's restart is begun before the request
ends the loop. -/
theorem test_wind_at_tail_leader :
    (after (.wind (hdr 0)) { up with
      transport.reel := 300, lines.leader := true, cueLog.armed := true, program.loops := 3
      link.mask := BitVec.twoPow 24 16, link.sending := some { bytes := [], isReply := false } }).link.notices
        = [.loopEnded .host none 2 300] := by decide
/-- R106, R139: a tape end within an end fade starts no second end sequence; a show hold taken since stays. -/
theorem test_tape_end_in_end_fade :
    (after (.leaderChange true) { tapeIn .playing with
      transport.reel := 300, transport.endFade := .running 40 9 0, cueLog.phase := .ending
      program.hold := some { tapeHeld := false, timerHeld := false } }).program.hold
        = some { tapeHeld := false, timerHeld := false } := by decide
/-- R59: a filament found open answers a waiting dark request before it gives the outcome. -/
theorem test_open_filament_answers_dark :
    (after (.fadeStep false) { inStage .dark with
      lamp.state := .lit, lamp.ramp := 500, lamp.drive := 500, lamp.openCount := 2, lamp.darkWaiting := true
      changer.claim := .requested }).changer.claim = .held := by decide
/-- R169, R170: 4, 9 and GOTO with a tray of 48 slots is refused RANGE. -/
theorem test_keyed_goto_out_of_range :
    (after (.irFrame (irWord 32)) { up with remote.entry := some { value := 49, digits := 2, windowMs := 0 } }).link.flags
      = BitVec.twoPow 24 19 := by decide
theorem test_reset_line_keeps_heat :
    (after (.resetLine { trayCode := 2, homeMark := true, cassette := false, leader := false, tcoOpen := false, service := false
                         limitIn := false, limitOut := false }) { up with heat.estimate := 20000 }).heat.estimate = 20000 := by
  decide

/-! ### Witnesses: states and operands that meet the hypotheses of the statements, clause by clause -/

/-- `up` with four requests awaiting replies. -/
def fullOrder : State := { up with link.replies := List.replicate 4 { kind := 0x81, tag := 0, payload := [0], ready := false } }

/-- `up` with a ready reply and a busy transmitter. -/
def busyLink : State :=
  { up with
    link.replies := [{ kind := 0x81, tag := 0, payload := [0], ready := true }]
    link.sending := some { bytes := [0xC3, 0x49, 0, 0, 0xB7], isReply := false } }

theorem witness_IdleStepIsOneMillisecond : State.reset.pending = [] := rfl

theorem witness_ReceiverHuntsAndReceives :
    up.link.receiving = false ∧ ({ up with link.receiving := true } : State).link.receiving = true := by decide

theorem witness_CompleteFramesMeetTheirChecks :
    awaiting up.link < 4
      ∧ [0x00, 0x09, 0x0F, 0x19, 0x1F, 0x26, 0x27, 0x3E, 0x5F, 0x65, 0xFF].all (fun k => !requestKind k) = true
      ∧ 4 ≤ awaiting fullOrder.link ∧ (Instr.identify (hdr 0)).hdr = some (hdr 0)
      ∧ servable up ∧ (hdr 1).len ≠ 0 ∧ (hdr 60).len ≠ 0
      ∧ requestKind 0x02 = true ∧ requestKind 0x64 = true ∧ requestKind 0x03 = true := by
  delta servable
  decide

theorem witness_RepliesAndNoticesAreSent :
    (∃ r rs, busyLink.link.replies = r :: rs) ∧ ({ busyLink with link.sending := none } : State).link.sending = none
      ∧ (∃ f, busyLink.link.sending = some f ∧ f.isReply = false)
      ∧ (∃ f, ({ busyLink with link.sending := some { bytes := [0xC3, 0x81], isReply := true } } : State).link.sending = some f
        ∧ f.bytes[1]? ≠ some 0x85)
      ∧ (∃ f, ({ busyLink with
            link.sending := some (replyFrame { kind := 0x85, tag := 7, payload := [2, 3], ready := true }) } : State).link.sending
          = some f ∧ f.isReply = true ∧ f.bytes[4]? ≠ some 0)
      ∧ (∃ n ns, ({ up with link.notices := [.tapeEnd 0] } : State).link.notices = n :: ns) ∧ up.link.replies = []
      ∧ up.link.notices = [] ∧ ([] : List Byte).length ≤ 60 ∧ (List.replicate 60 (0 : Byte)).length ≤ 60 :=
  ⟨⟨_, _, rfl⟩, rfl, ⟨_, rfl, rfl⟩, ⟨_, rfl, by decide⟩, ⟨_, rfl, by decide, by decide⟩, ⟨_, _, rfl⟩, rfl, rfl,
    by decide, by decide⟩

theorem witness_NoticesQueueOrAreLost : busyLink.link.sending ≠ none := by decide

theorem witness_FaultSetHoldsEachKindOnce :
    hasFault .jamLift up = false ∧ hasFault .jamLift (faulty .jamLift) = true ∧ hasFault .relayConflict (faulty .relayConflict) = true
      ∧ up.trace.mode = .off ∧ ({ up with trace.mode := .ring } : State).trace.mode = .ring ∧ up.trace.records.length < 64 := by
  decide

theorem witness_IdentityStatusMaskAndItems :
    servable up ∧ (hdr 0).len = 0 ∧ (hdr 3).len = 3 ∧ (hdr 1).len = 1 ∧ (1 ≤ (1 : Byte).toNat ∧ (1 : Byte).toNat ≤ 34)
      ∧ (1 ≤ (34 : Byte).toNat ∧ (34 : Byte).toNat ≤ 34) ∧ (0 : Byte).toNat = 0 ∧ 34 < (35 : Byte).toNat
      ∧ up.program.activeMap ≤ 3 := by
  delta servable
  decide

theorem witness_SetItemWritesOrRefuses :
    servable up ∧ (hdr 3).len = 3 ∧ itemRange up.items 4 = some (0, 200) ∧ itemRange up.items 34 = some (1, 63)
      ∧ itemRange up.items 8 = some (0, 79) ∧ 1 ≤ up.items.darkThreshold
      ∧ itemValues 1 = some 2 ∧ (1 : BitVec 16).toNat < 2 ∧ 2 ≤ (2 : BitVec 16).toNat ∧ itemValues 24 = some 3
      ∧ (2 : BitVec 16).toNat < 3 ∧ 3 ≤ (3 : BitVec 16).toNat ∧ 34 < (35 : Byte).toNat := by
  delta servable
  decide

theorem witness_FaultClearByItsRule :
    servable (faulty .jamLift) ∧ (hdr 1).len = 1 ∧ isSticky .jamLift = true ∧ hasFault .jamLift (faulty .jamLift) = true
      ∧ (faulty .jamLift).changer.stage = .idle
      ∧ isSticky .lampOpen = true ∧ hasFault .lampOpen (faulty .lampOpen) = true
      ∧ lampRec (faulty .lampOpen).lamp (faulty .lampOpen).lamp.active ≠ .failed
      ∧ 12 < (13 : Byte).toNat ∧ isSticky .overtemp = false ∧ (inStage .lift).changer.stage ≠ .idle
      ∧ isChangerFault .rotateStall = true ∧ servable (inStage .lift)
      ∧ (faulty .jamLift).changer.queue = [] ∧ (faulty .lampOpen).lamp.darkWaiting = false
      ∧ ({ faulty .lampOpen with lamp.state := .failed } : State).lamp.state = .failed ∧ (faulty .lampOpen).lamp.drive = 0
      ∧ (faulty .lampOpen).heat.sleepPending = .clear ∧ hasFault .tapeStall (faulty .jamLift) = false
      ∧ lampRec ({ faulty .lampOpen with lamp.recA := .failed } : State).lamp (faulty .lampOpen).lamp.active = .failed
      ∧ isSticky .ambientSensor = false ∧ isChangerFault .tapeStall = false := by
  delta servable
  decide

theorem witness_SoftResetKeepsClearsAndRebuilds :
    up.trace.mode = .off
      ∧ (∃ s : State, s.trace.mode = .ringFreeze ∧ s.trace.post = 0
        ∧ (s.trace.trigger &&& (after (.softReset false) s).link.faults != 0) = true) :=
  ⟨rfl, { up with tray.code := 3, trace.mode := .ringFreeze, trace.trigger := 8, trace.post := 0 }, rfl, rfl, by decide⟩

theorem witness_ResetActsAfterItsReply :
    servable up ∧ (hdr 0).len = 0
      ∧ ({ up with link.sending := some (replyFrame { kind := 0x85, tag := 7, payload := [0], ready := true }) } : State).link.sending
        = some (replyFrame { kind := 0x85, tag := (hdr 0).tag, payload := [0], ready := true })
      ∧ ({ up with link.sending := some (replyFrame { kind := 0x85, tag := 7, payload := [2, 3], ready := true }) } : State).link.sending
        = some (replyFrame { kind := 0x85, tag := (hdr 0).tag, payload := [2, 3], ready := true })
      ∧ up.link.replies = [] ∧ up.link.notices = [] := by
  delta servable
  decide

/-- Pins with a 96-slot tray and a cassette. -/
def pins : Pins :=
  { trayCode := 2, homeMark := true, cassette := true, leader := false, tcoOpen := false, service := false, limitIn := false
    limitOut := false }

theorem witness_HardResetsStartAfresh :
    (Instr.powerOn pins = .powerOn pins ∨ Instr.powerOn pins = .resetLine pins)
      ∧ (Instr.resetLine pins = .powerOn pins ∨ Instr.resetLine pins = .resetLine pins)
      ∧ (after (.powerOn pins) up).heat.estimate < 21760
      ∧ 21760 ≤ (after (.resetLine pins) { up with heat.estimate := 21760 }).heat.estimate := by decide

/-- `up` in STANDBY. -/
def idle : State := { up with heat.power := .standby }

theorem witness_PowerModeAndWake :
    servable idle ∧ (hdr 1).len = 1 ∧ idle.heat.power = .standby ∧ idle.heat.sleepPending = .clear ∧ idle.changer.queue = []
      ∧ sleepConditions idle = true ∧ sleepConditions { idle with heat.cooling := true } = false ∧ 2 < (3 : Byte).toNat
      ∧ awaiting ({ idle with heat.power := .sleep } : State).link < 4
      ∧ ({ idle with heat.power := .sleep } : State).heat.power = .sleep ∧ (hdr 0).len = 0 := by
  delta servable
  decide

theorem witness_StandbyStopsTheShow :
    servable (lampIn .lit) ∧ (hdr 1).len = 1 ∧ (lampIn .lit).heat.power = .active ∧ (tapeIn .playing).transport.state = .playing
      ∧ (lampIn .lit).lamp.state = .lit ∧ powerDownRuns (lampIn .lit).lamp = false ∧ 0 < (lampIn .lit).items.fadeOut
      ∧ servable (lampIn .preheat) ∧ (lampIn .preheat).lamp.state = .preheat ∧ (tapeIn .stopping).transport.state = .stopping
      ∧ (tapeIn .rewinding).transport.state = .rewinding ∧ (tapeIn .noTape).transport.state = .noTape
      ∧ powerDownRuns { (lampIn .lit).lamp with fade := some { kind := .powerDown, a := 9, b := 0, n := 3, k := 0 } } = true
      ∧ ({ lampIn .lit with items.fadeOut := 0 } : State).items.fadeOut = 0
      ∧ ({ lampIn .swapping with
          lamp.swap := some { newPos := .b, auto := true, tag := none, restrike := true, resume := .value 9 } } : State).lamp.swap
        = some { newPos := .b, auto := true, tag := none, restrike := true, resume := .value 9 } := by
  delta servable
  decide

/-- A cycle running and a host's STEP +2 waiting. -/
def oneStep : State := { inStage .lift with changer.queue := [hostEntry (.step 2) 5] }

/-- A cycle running and six GOTOs waiting. -/
def fullQueue : State := { inStage .lift with changer.queue := List.replicate 6 (hostEntry (.goto 1) 5) }

theorem witness_HostMovesJoinOrAreRefused_join :
    servable (inStage .lift) ∧ (hdr 1).len = 1 ∧ movesOpen (inStage .lift) ∧ (inStage .lift).changer.stage ≠ .idle
      ∧ (48 : Byte).toNat ≤ traySize (inStage .lift) ∧ (inStage .lift).changer.queue.length < 6
      ∧ (1 : Byte).toInt ≠ 0 ∧ -99 ≤ (0x9D : Byte).toInt ∧ (99 : Byte).toInt ≤ 99
      ∧ oneStep.changer.queue = [] ++ [hostEntry (.step 2) 5]
      ∧ (hostEntry (.step 2) 5).tags.length < 8 ∧ clampSigned (traySize oneStep) (2 + (1 : Byte).toInt) ≠ 0
      ∧ (hostEntry (.step 2) 5).tags = [5] ∧ 2 + (0xFE : Byte).toInt = 0
      ∧ ({ oneStep with link.sending := busyLink.link.sending } : State).link.sending ≠ none
      ∧ oneStep.link.mask.getLsbD 0 = true ∧ oneStep.link.notices.length ≤ 14 := by
  delta servable movesOpen
  decide

theorem witness_HostMovesJoinOrAreRefused_noMerge : noMerge (inStage .lift) := by
  intro e h
  have hq : (inStage .lift).changer.queue.getLast? = none := by decide
  rw [hq] at h
  cases h

theorem witness_HostMovesJoinOrAreRefused_refuse :
    (0 : Byte).toInt = 0 ∧ (0x9C : Byte).toInt < -99 ∧ 99 < (100 : Byte).toInt ∧ 96 < (97 : Byte).toNat
      ∧ idle.heat.power = .standby
      ∧ ({ up with tray.code := 0 } : State).heat.power = .active ∧ traySize { up with tray.code := 0 } = 0
      ∧ 0 < traySize (faulty .jamDrop) ∧ changerFault (faulty .jamDrop) = true
      ∧ movesOpen up ∧ traySize up < (49 : Byte).toNat ∧ (96 : Byte).toNat ≤ 96 ∧ movesOpen fullQueue
      ∧ 6 ≤ fullQueue.changer.queue.length ∧ (1 : Byte).toNat ≤ traySize fullQueue := by
  delta movesOpen
  decide

theorem witness_HostMovesJoinOrAreRefused_full : noMerge fullQueue := by
  intro e h _
  simp only [fullQueue, List.replicate, List.getLast?] at h
  cases h
  exact .inl ⟨1, rfl⟩

/-- A GOTO 9 waiting, nothing running. -/
def waiting : State := { up with changer.queue := [hostEntry (.goto 9) 3] }

theorem witness_CyclesStartFromTheHead :
    waiting.changer.queue = hostEntry (.goto 9) 3 :: [] ∧ waiting.items.changeMode = .shutter ∧ movesOpen waiting
      ∧ waiting.changer.stage = .idle ∧ (hostEntry (.goto 9) 3).move = .goto 9 ∧ 9 ≤ traySize waiting
      ∧ ({ waiting with changer.shutterOpen := true } : State).changer.shutterOpen = true
      ∧ waiting.changer.shutterOpen = false ∧ waiting.changer.gate ≠ .empty
      ∧ ({ waiting with changer.gate := .empty } : State).changer.gate = .empty ∧ waiting.tray.position = some 5 ∧ (5 : Nat) ≠ 9
      ∧ waiting.changer.pause ≠ .pending
      ∧ (walk up 0 5 1).map (fun w => (w.short, w.target)) = some (false, 6)
      ∧ servable up ∧ movesOpen up ∧ (48 : Byte).toNat ≤ traySize up := by
  delta movesOpen servable
  decide

theorem witness_CyclesStartFromTheHead_dissolve :
    ∃ s : State, servable s ∧ movesOpen s ∧ s.changer.stage = .idle ∧ s.changer.queue = [] ∧ s.items.changeMode = .dissolve
      ∧ s.changer.claim = .clear ∧ s.lamp.state = .lit ∧ powerDownRuns s.lamp = false
      ∧ s.items.darkThreshold < s.lamp.drive ∧ 0 < s.items.fadeOut :=
  ⟨{ lampIn .lit with lamp.drive := 81, lamp.ramp := 81, items.changeMode := .dissolve }, by delta servable movesOpen; decide⟩

theorem witness_WalkCountsEligibleSlots :
    5 ≤ traySize up ∧ 3 ≤ 3 ∧ (1 : Int) ≠ 0 ∧ 0 ≤ traySize up ∧ 48 ≤ traySize up
      ∧ (walk up 0 48 1).map (fun w => (w.target, w.counted)) = some (1, 1)
      ∧ (walk up 0 0 (-1)).map (fun w => (w.target, w.counted)) = some (48, 1)
      ∧ (walk { up with items.trayWrap := false } 0 47 3).map (fun w => (w.target, w.counted, w.short)) = some (48, 1, true)
      ∧ (walk { up with items.trayWrap := false, tray.map1 := 0x80000000 } 1 0 (-3)).map (fun w => (w.target, w.counted, w.short))
        = some (32, 1, true)
      ∧ walk { up with tray.map1 := 0 } 1 5 1 = none := by
  decide

theorem witness_TrayTurnsAndFindsItsMark :
    5 ≤ 48 ∧ 4 ≤ 48 ∧ 48 ≤ 48 ∧ (5 + 48) % (48 + 1) = 4 ∧ up.changer.motor = none
      ∧ (∃ s : State, s.changer.motor = some .forward ∧ s.tray.position = some 8 ∧ s.changer.stage = .rotate
        ∧ s.changer.cycle = some cyc ∧ cyc.stopAtPulse = false ∧ pulsed (traySize s) 8 .forward = 9 ∧ cyc.target = some 9)
      ∧ pulsed 48 48 .forward = 0 ∧ pulsed 48 0 .backward = 48
      ∧ (∃ s : State, s.changer.motor = some .forward ∧ s.tray.position = none ∧ s.changer.stage = .rotate
        ∧ s.changer.cycle = some cyc ∧ s.tray.search.getD 0 = 47 ∧ 47 < traySize s)
      ∧ (∃ s : State, s.changer.motor = some .forward ∧ s.tray.position = none ∧ s.changer.stage = .rotate
        ∧ s.changer.cycle = some cyc ∧ s.tray.search.getD 0 = 48 ∧ traySize s ≤ 48) :=
  ⟨by decide, by decide, by decide, by decide, rfl,
    ⟨{ inStage .rotate with changer.motor := some .forward, tray.position := some 8 }, by decide⟩, by decide, by decide,
    ⟨{ inStage .rotate with changer.motor := some .forward, tray.position := none, tray.search := some 47 }, by decide⟩,
    ⟨{ inStage .rotate with changer.motor := some .forward, tray.position := none, tray.search := some 48 }, by decide⟩⟩

theorem witness_TrayCodeSeatsAndRemoves :
    State.reset.tray.code = 0 ∧ State.reset.changer.queue = [] ∧ hasFault .trayCode State.reset = false
      ∧ up.tray.code = 1 ∧ up.changer.stage = .idle ∧ (inStage .drop).changer.stage ≠ .idle
      ∧ ({ up with tray.code := 2 } : State).tray.code = 2 ∧ ({ up with tray.code := 3 } : State).tray.code = 3
      ∧ up.changer.queue = [] ∧ hasFault .trayCode up = false ∧ (2 : Fin 4) ≠ up.tray.code := by decide

theorem witness_MovesPauseContinueAndAbort :
    servable (inStage .lift) ∧ (hdr 0).len = 0 ∧ up.changer.stage = .idle ∧ (inStage .paused).changer.stage = .paused
      ∧ (inStage .lift).changer.stage ≠ .idle ∧ (inStage .lift).changer.stage ≠ .paused
      ∧ (inStage .lift).changer.cycle = some cyc ∧ cyc.aborted = false
      ∧ ({ inStage .lift with changer.pause := .pending } : State).changer.pause = .pending
      ∧ ({ inStage .paused with changer.pause := .paused } : State).changer.pause = .paused
      ∧ cyc.skipRotate = false ∧ cyc.target = some 9 ∧ (inStage .paused).tray.position = some 5
      ∧ (inStage .rotate).tray.position = some 5 ∧ ({ inStage .rotate with tray.position := none } : State).tray.position = none
      ∧ waiting.changer.queue = [hostEntry (.goto 9) 3] ∧ (hostEntry (.goto 9) 3).owner = none ∧ waiting.changer.cycle = none
      ∧ (inStage .dark).changer.stage = .dark ∧ cyc.entry.owner = none ∧ (inStage .dark).changer.cycle = some cyc
      ∧ (inStage .dark).changer.queue = [] ∧ servable (inStage .dark)
      ∧ ({ inStage .dark with changer.gate := .loaded } : State).changer.gate = .loaded := by
  delta servable
  decide

theorem witness_SlotAndMapRequests :
    servable up ∧ (hdr 5).len = 5 ∧ (hdr 13).len = 13 ∧ (hdr 1).len = 1 ∧ traySize State.reset = 0 ∧ 0 < traySize up
      ∧ up.tray.slots[(49 : Byte).toNat - 1]? = none ∧ up.tray.slots[(48 : Byte).toNat - 1]? = some freshSlot
      ∧ 3 < (4 : Byte).toNat ∧ (3 : Byte).toNat ≤ 3 ∧ 2 < (3 : Byte).toNat ∧ (2 : Byte).toNat ≤ 2
      ∧ ({ up with program.protect3 := true } : State).program.protect3 = true ∧ up.program.service = false
      ∧ up.program.protect1 = false ∧ ({ up with program.service := true } : State).program.service = true := by
  delta servable
  decide

theorem witness_CycleStagesRunToTheirEnd :
    (inStage .dark).changer.cycle = some cyc ∧ cyc.mode = .shutter ∧ (inStage .dark).changer.gate ≠ .empty
      ∧ (inStage .lift).changer.stage ≠ .dark ∧ cyc.skipRotate = false ∧ (inStage .lift).tray.position = some 5
      ∧ cyc.target = some 9 ∧ (inStage .lift).changer.pause ≠ .pending
      ∧ (inStage .drop).changer.seatWindow = false
      ∧ ({ inStage .drop with changer.seatWindow := true } : State).changer.seatWindow = true
      ∧ (inStage .drop).tray.position = some (4 + 1) ∧ (inStage .drop).tray.slots[4]? = some freshSlot
      ∧ cyc.entry.move = .goto 9 ∧ cyc.entry.owner = none ∧ cyc.entry.tags = [3] ∧ (inStage .settle).changer.queue = []
      ∧ (inStage .settle).changer.claim = .clear ∧ (inStage .settle).program.timer = .stopped
      ∧ (inStage .settle).heat.sleepPending = .clear
      ∧ up.changer.cycle = none ∧ up.changer.stage = .idle ∧ (inStage .lift).changer.stage ≠ .drop := by decide

/-- A STEP +1 whose slot proves empty. -/
def emptyStep : State :=
  { inStage .drop with
    changer.gate := .empty
    changer.cycle := some (cycleTo (hostEntry (.step 1) 3) .shutter 5) }

theorem witness_CycleStagesRunToTheirEnd_extension :
    emptyStep.changer.stage = .drop ∧ emptyStep.changer.seatWindow = false ∧ emptyStep.changer.gate = .empty
      ∧ emptyStep.items.skipEmpties = true ∧ emptyStep.tray.position = some (4 + 1)
      ∧ emptyStep.changer.extension < traySize emptyStep ∧ emptyStep.changer.pause ≠ .pending
      ∧ (walk { emptyStep with
          changer.extension := 1
          tray.slots := emptyStep.tray.slots.set 4 { freshSlot with presence := .absent, source := .learned } } 0 5 1).map
          (fun w => (w.short, w.target)) = some (false, 6) := by decide

theorem witness_ChangerFaultEndsTheCycle :
    (inStage .lift).changer.cycle = some cyc ∧ cyc.entry.owner = none ∧ (∀ e ∈ (inStage .lift).changer.queue, e.owner = none)
      ∧ (inStage .lift).heat.power = .active ∧ (inStage .lift).changer.stage = .lift ∧ (inStage .rotate).changer.stage = .rotate
      ∧ ({ inStage .drop with changer.seatWindow := true } : State).changer.seatWindow = true
      ∧ (inStage .drop).tray.position = some (4 + 1) ∧ (inStage .drop).tray.slots[4]? = some freshSlot
      ∧ (inStage .drop).changer.stage ≠ .lift ∧ (inStage .lift).changer.stage ≠ .rotate := by decide

theorem witness_LampOnAndOff :
    servable up ∧ (hdr 0).len = 0 ∧ idle.heat.power = .standby ∧ up.heat.power = .active
      ∧ 17920 < ({ up with heat.estimate := 17921 } : State).heat.estimate ∧ hasFault .tcoOpen (faulty .tcoOpen) = true
      ∧ up.heat.estimate ≤ 17920 ∧ hasFault .tcoOpen up = false ∧ (lampIn .swapping).lamp.state = .swapping
      ∧ powerDownRuns up.lamp = false ∧ (lampIn .lit).lamp.state = .lit ∧ up.lamp.state = .off
      ∧ hasFault .lampOpen (faulty .lampOpen) = true ∧ hasFault .lampOpen up = false
      ∧ lampRec ({ up with lamp.recA := .failed, lamp.recB := .failed } : State).lamp .a = .failed
      ∧ lampRec ({ up with lamp.recA := .failed } : State).lamp .b ≠ .failed ∧ up.items.lampAutoChange = true
      ∧ up.lamp.drive = 0 ∧ lampRec up.lamp up.lamp.active ≠ .failed ∧ up.lamp.darkWaiting = false
      ∧ up.heat.sleepPending = .clear := by
  delta servable
  decide

theorem witness_FadeSelectAndMarkLamp :
    servable (lampIn .lit) ∧ (hdr 4).len = 4 ∧ (hdr 1).len = 1 ∧ (hdr 2).len = 2 ∧ (lampIn .lit).lamp.darkWaiting = false
      ∧ 1000 < (1001 : BitVec 16).toNat ∧ 6000 < (6001 : BitVec 16).toNat ∧ (1000 : BitVec 16).toNat ≤ 1000
      ∧ (6000 : BitVec 16).toNat ≤ 6000 ∧ (6000 : BitVec 16) ≠ 0 ∧ powerDownRuns (lampIn .lit).lamp = false
      ∧ (lampIn .lit).changer.claim = .clear
      ∧ ({ lampIn .lit with changer.claim := .held } : State).changer.claim ≠ .clear
      ∧ powerDownRuns ({ lampIn .lit with lamp.fade := some { kind := .powerDown, a := 9, b := 0, n := 3, k := 0 } } : State).lamp
        = true
      ∧ (lampIn .preheat).lamp.state = .preheat ∧ 1 < (2 : Byte).toNat ∧ (1 : Byte).toNat ≤ 1
      ∧ up.lamp.state = .off ∧ lampRec up.lamp .b ≠ .failed ∧ up.lamp.active ≠ .b ∧ up.lamp.active = .a ∧ up.lamp.drive = 0
      ∧ lampRec ({ up with lamp.recB := .failed } : State).lamp .b = .failed := by
  delta servable
  decide

theorem witness_FadeRunsFromStartToEnd :
    (0 : Nat) < ({ kind := .show_, a := 40, b := 1000, n := 1, k := 0 } : Fade).n ∧ 0 ≤ 1 ∧ 1 ≤ 1
      ∧ fadeLevel { kind := .show_, a := 40, b := 1000, n := 1, k := 0 } 1 = 1000 := by decide

/-- A lamp lit at 500 of a fade from 480 to 600. -/
def fading (k n : Nat) : State :=
  { lampIn .lit with
    lamp.ramp := 500
    lamp.drive := 500
    lamp.fade := some { kind := .show_, a := 480, b := 600, n := n, k := k } }

/-- A lamp lit at 500, two samples without current behind it. -/
def dying : State := { lampIn .lit with lamp.ramp := 500, lamp.drive := 500, lamp.openCount := 2 }

theorem witness_LampEventsMoveTheLamp :
    up.lamp.darkWaiting = false ∧ up.heat.sleepPending = .clear ∧ up.lamp.state = .off ∧ (fading 1 6).lamp.state = .lit
      ∧ 0 < (fading 1 6).lamp.drive ∧ 1 + 1 < 6
      ∧ 120 ≤ min (fadeLevel { kind := .show_, a := 480, b := 600, n := 6, k := 1 } 2) (fading 1 6).heat.ceiling
      ∧ 6 ≤ 5 + 1 ∧ 120 ≤ min 600 (fading 5 6).heat.ceiling
      ∧ dying.lamp.fade = none ∧ 120 ≤ dying.lamp.drive ∧ dying.lamp.openCount = 2 ∧ dying.items.lampAutoChange = true
      ∧ lampRec dying.lamp (otherPos dying.lamp.active) ≠ .failed ∧ dying.heat.power = .active ∧ dying.lamp.restriking = false
      ∧ ({ dying with lamp.openCount := 1 } : State).lamp.openCount < 2
      ∧ ({ dying with items.lampAutoChange := false } : State).items.lampAutoChange = false
      ∧ (lampIn .preheat).lamp.state = .preheat ∧ 0 < (lampIn .preheat).items.strikeRamp
      ∧ (lampIn .preheat).lamp.destRamp = .strikeRamp
      ∧ (lampIn .swapping).lamp.drive = 0 ∧ hasFault .lampOpen (lampIn .swapping) = false
      ∧ (lampIn .swapping).heat.estimate ≤ 17920 ∧ (lampIn .swapping).changer.claim = .clear := by decide

theorem witness_LampEventsMoveTheLamp_swap :
    ∃ s : State, s.lamp.state = .swapping ∧ s.lamp.drive = 0
      ∧ s.lamp.swap = some { newPos := .b, auto := true, tag := none, restrike := true, resume := .value 900 } :=
  ⟨{ lampIn .swapping with
    lamp.swap := some { newPos := .b, auto := true, tag := none, restrike := true, resume := .value 900 } }, rfl, rfl, rfl⟩

theorem witness_HeatUpdateAndCooldown :
    up.heat.sleepPending = .clear ∧ up.lamp.darkWaiting = false ∧ ({ up with heat.power := .sleep } : State).heat.power = .sleep
      ∧ up.heat.power ≠ .sleep ∧ up.heat.latch = false ∧ ({ up with heat.cooling := true } : State).heat.cooling = true
      ∧ up.lamp.state = .off ∧ up.lamp.drive = 0 ∧ 21760 ≤ (after (.heatUpdate (some 20480))
          { up with heat.estimate := 21759, lamp.state := .lit, lamp.ramp := 401, lamp.drive := 401 }).heat.estimate
      ∧ (after (.heatUpdate (some 20480)) up).heat.estimate < 21760
      ∧ up.heat.ambient ≤ 20480 ∧ up.heat.estimate < 21760
      ∧ ({ up with heat.estimate := 21760, heat.latch := true } : State).heat.latch = true
      ∧ (after (.heatUpdate (some 20480)) { up with heat.estimate := 19300 }).heat.estimate < 21760
      ∧ 19200 ≤ (after (.heatUpdate (some 20480)) { up with heat.estimate := 19300 }).heat.estimate
      ∧ hasFault .fanStall (faulty .fanStall) = true := by decide

theorem witness_FanAndCutOutReport :
    up.lamp.darkWaiting = false ∧ ({ up with heat.stallTimer := none } : State).heat.stallTimer = none
      ∧ up.heat.stallTimer = some 0 ∧ hasFault .fanStall up = false ∧ hasFault .fanStall (faulty .fanStall) = true
      ∧ up.lines.tcoOpen = false ∧ ({ up with lines.tcoOpen := true } : State).lines.tcoOpen = true
      ∧ up.heat.sleepPending = .clear := by decide

theorem witness_MotionRequestsAreChecked :
    servable up ∧ (hdr 0).len = 0 ∧ up.cueLog.armed = false ∧ idle.heat.power = .standby
      ∧ (tapeIn .noTape).transport.state = .noTape ∧ up.transport.state ≠ .noTape
      ∧ hasFault .tapeStall (faulty .tapeStall) = true ∧ hasFault .tapeStall up = false ∧ up.transport.state = .stopped
      ∧ (hdr 2).len = 2 ∧ (tapeIn .winding).transport.state = .winding := by
  delta servable
  decide

/-- A tape rewinding, with the backward mark its entry set. -/
def rewinds : State := { tapeIn .rewinding with transport.backMark := true, transport.dir := .backward }

/-- A tape at its known zero, on its leader, with SHOW_LOOP ON and four passes. -/
def atZero : State :=
  { up with transport.zeroKnown := true, items.showLoop := true, items.loopCount := 4, lines.leader := true }

/-- R136: a PLAY from tape zero loads the loops and arms the loop. -/
theorem test_play_from_tape_zero :
    (after (.play (hdr 0)) atZero).program.loops = 4 ∧ (after (.play (hdr 0)) atZero).cueLog.armed = true
      ∧ (after (.play (hdr 0)) atZero).cueLog.startMap = some 0 := by decide

theorem witness_MotionStartsAndBrakes_zero :
    servable atZero ∧ (hdr 0).len = 0 ∧ atZero.heat.power = .active ∧ hasFault .tapeStall atZero = false
      ∧ atZero.transport.state = .stopped ∧ atZero.transport.backMark = false ∧ atZero.transport.reel = 0
      ∧ atZero.transport.zeroKnown = true ∧ atZero.cueLog.phase ≠ .rewinding ∧ up.transport.zeroKnown = false := by
  delta servable
  decide

theorem witness_MotionStartsAndBrakes :
    servable up ∧ (hdr 0).len = 0 ∧ up.heat.power = .active ∧ hasFault .tapeStall up = false ∧ up.transport.state = .stopped
      ∧ up.transport.seek = none ∧ up.transport.backMark = false ∧ up.cueLog.armed = false ∧ up.lines.leader = false
      ∧ up.program.hold = none ∧ up.transport.endFade = .idle ∧ (tapeIn .playing).transport.state = .playing
      ∧ (tapeIn .winding).transport.state = .winding ∧ rewinds.transport.state = .rewinding ∧ rewinds.transport.backMark = true
      ∧ servable rewinds ∧ rewinds.heat.power = .active ∧ hasFault .tapeStall rewinds = false ∧ rewinds.transport.seek = none
      ∧ rewinds.cueLog.armed = false ∧ rewinds.program.hold = none ∧ rewinds.transport.endFade = .idle
      ∧ (tapeIn .paused).transport.state = .paused ∧ (tapeIn .paused).transport.backMark = false
      ∧ (tapeIn .paused).lines.leader = false := by
  delta servable
  decide

/-- `up` with one cue in the log at count 100. -/
def oneCue : State := { up with cueLog.entries := [{ reel := 100, kind := .advance, index := some 1, seen := 1, met := false }] }

theorem witness_SeeksByCountAndByCue :
    servable up ∧ (hdr 2).len = 2 ∧ up.items.seekPlay = false ∧ up.transport.reel ≠ (1 : BitVec 16).toNat
      ∧ up.transport.reel = (0 : BitVec 16).toNat ∧ up.heat.sleepPending = .clear
      ∧ ({ up with transport.reel := 65535 } : State).transport.reel ≠ (65534 : BitVec 16).toNat
      ∧ 999 < (1000 : BitVec 16).toNat ∧ (999 : BitVec 16).toNat ≤ 999 ∧ idle.heat.power = .standby
      ∧ (tapeIn .noTape).transport.state = .noTape ∧ hasFault .tapeStall (faulty .tapeStall) = true
      ∧ traySize { up with tray.code := 0 } = 0 ∧ 0 < traySize up
      ∧ (∀ e ∈ oneCue.cueLog.entries, e.index ≠ some (2 : BitVec 16).toNat)
      ∧ (∃ e ∈ oneCue.cueLog.entries, e.index = some (1 : BitVec 16).toNat)
      ∧ oneCue.transport.state = .stopped ∧ oneCue.transport.reel < 100 - oneCue.items.seekPreroll := by
  delta servable
  decide

/-- A tape braking to a host's request. -/
def braking (d : Dest) : State :=
  { tapeIn .stopping with transport.dest := some { dest := d, source := .host, tag := some 3 }, transport.brakeTimer := some 0 }

/-- The brake of a rewind that a host's request ended, with one cue below the count. -/
def backing (d : Dest) : State :=
  { braking d with
    transport.backMark := true, transport.dir := .backward, transport.reel := 150, cueLog.entries := oneCue.cueLog.entries }

/-- R95, R135: the rest after a rewind sets the cue index to the entries below the count, and the mark goes. -/
theorem test_rest_after_rewind :
    (after .brakeEnd (backing .stopped)).program.cueIndex = 1 ∧ (after .brakeEnd (backing .stopped)).transport.backMark = false
      ∧ (after .brakeEnd (backing .stopped)).transport.state = .stopped := by decide

theorem witness_TapeEventsByTheirRules :
    up.transport.state ≠ .stopping ∧ (braking .stopped).transport.state = .stopping
      ∧ (braking .stopped).transport.dest = some { dest := .stopped, source := .host, tag := some 3 }
      ∧ (braking .rewinding).transport.dest = some { dest := .rewinding, source := .host, tag := some 3 }
      ∧ (braking .stopped).transport.seek = none ∧ (braking .stopped).transport.backMark = false
      ∧ (braking .stopped).heat.sleepPending = .clear ∧ (braking .stopped).lines.leader = false
      ∧ up.transport.state = .stopped ∧ (tapeIn .winding).transport.state = .winding ∧ up.cueLog.armed = false
      ∧ up.cueLog.phase = .idle ∧ up.program.hold = none ∧ (tapeIn .noTape).transport.state = .noTape
      ∧ (tapeIn .rewinding).transport.state = .rewinding ∧ (tapeIn .winding).cueLog.restart = false
      ∧ 200 < ({ tapeIn .winding with transport.reel := 201 } : State).transport.reel
      ∧ ({ tapeIn .winding with transport.reel := 200 } : State).transport.reel ≤ 200
      ∧ (tapeIn .winding).lamp.state = .off ∧ (tapeIn .winding).program.timer = .stopped
      ∧ (backing .stopped).transport.backMark = true ∧ (backing .stopped).cueLog.phase ≠ .rewinding
      ∧ (backing .stopped).transport.state = .stopping ∧ (backing .stopped).transport.seek = none
      ∧ (backing .stopped).transport.dest = some { dest := .stopped, source := .host, tag := some 3 }
      ∧ (backing .stopped).heat.sleepPending = .clear ∧ (backing .playing).transport.state = .stopping
      ∧ (backing .playing).transport.dest = some { dest := .playing, source := .host, tag := some 3 }
      ∧ (backing .playing).lines.leader = false ∧ (backing .playing).cueLog.phase ≠ .rewinding
      ∧ (backing .winding).transport.state = .stopping ∧ (backing .winding).lines.leader = false
      ∧ (backing .winding).transport.dest = some { dest := .winding, source := .host, tag := some 3 } := by decide

theorem witness_AudioSourceAndInjectedCues :
    servable up ∧ (hdr 1).len = 1 ∧ (hdr 0).len = 0 ∧ min 63 (63 : Byte).toNat = 63 ∧ min 63 (64 : Byte).toNat = 63
      ∧ 2 < (3 : Byte).toNat ∧ (tapeIn .playing).transport.state = .playing ∧ up.transport.state ≠ .playing
      ∧ ({ tapeIn .playing with transport.endFade := .running 40 2 0 } : State).transport.endFade = .running 40 2 0 ∧ 0 + 1 < 2
      ∧ 2 ≤ 1 + 1 ∧ up.cueLog.phase ≠ .ending ∧ up.transport.endFade = .idle
      ∧ 5 < (6 : Byte).toNat ∧ 1 ≤ (1 : Byte).toNat ∧ (5 : Byte).toNat ≤ 5 ∧ up.items.cueSource ≠ .host
      ∧ ({ up with items.cueSource := .host } : State).items.cueSource = .host ∧ idle.heat.power = .standby
      ∧ up.heat.power = .active ∧ up.items.relayOut = false
      ∧ (∀ e ∈ up.program.table, e.index ≠ min 999 (up.program.cueIndex + 1)) := by
  delta servable
  decide

/-- A tape playing with a candidate of the first tone counted n times. -/
def hearing (n : Nat) : State := { tapeIn .playing with decoder.recogniser := .candidate 1 n }

theorem witness_AnalysisFrameFindsTones :
    up.transport.state ≠ .playing ∧ (tapeIn .playing).transport.state = .playing ∧ (tapeIn .playing).decoder.snap = false
      ∧ (1 : BitVec 3).getLsbD 0 = decide ((tapeIn .playing).decoder.floor1 + (tapeIn .playing).items.threshold1 ≤ (64 : Byte).toNat)
      ∧ (1 : BitVec 3).getLsbD 1 = decide ((tapeIn .playing).decoder.floor2 + (tapeIn .playing).items.threshold2 ≤ (63 : Byte).toNat)
      ∧ (1 : BitVec 3).getLsbD 2 = decide ((tapeIn .playing).decoder.floor3 + (tapeIn .playing).items.threshold3 ≤ (0 : Byte).toNat)
      ∧ (tapeIn .playing).decoder.recogniser = .quiet ∧ (hearing 2).decoder.recogniser = .candidate 1 2
      ∧ 2 + 1 < (hearing 2).items.cueQualify ∧ (hearing 3).items.cueQualify ≤ 3 + 1 ∧ (1 : BitVec 3) ≠ 5 ∧ (1 : BitVec 3) ≠ 7
      ∧ ({ hearing 3 with items.cueSource := .line } : State).items.cueSource ≠ .tape
      ∧ (0 : BitVec 3).getLsbD 0 = decide ((tapeIn .playing).decoder.floor1 + (tapeIn .playing).items.threshold1 ≤ (63 : Byte).toNat)
      ∧ ({ tapeIn .playing with decoder.quietFrames := 62 } : State).decoder.quietFrames < 63
      ∧ ({ tapeIn .playing with decoder.quietFrames := 63 } : State).decoder.quietFrames = 63
      ∧ (5 : BitVec 3).getLsbD 0 = true ∧ (5 : BitVec 3).getLsbD 1 = false ∧ (5 : BitVec 3).getLsbD 2 = true
      ∧ ({ tapeIn .playing with decoder.snap := true } : State).decoder.snap = true
      ∧ ({ tapeIn .playing with decoder.recogniser := .burst } : State).decoder.recogniser = .burst
      ∧ ({ tapeIn .playing with decoder.recogniser := .gap } : State).decoder.recogniser = .gap
      ∧ (tapeIn .playing).decoder.gapCount + 1 < (tapeIn .playing).items.cueGap
      ∧ (tapeIn .playing).items.cueGap ≤ 5 + 1
      ∧ min 65535 ((tapeIn .playing).decoder.burstLen + 1) ≤ (tapeIn .playing).items.cueMaxBurst
      ∧ (tapeIn .playing).items.cueMaxBurst < min 65535 (65535 + 1) ∧ (hearing 3).items.cueSource = .tape
      ∧ ((1 : BitVec 3), CueKind.advance) ∈
        ([(1, .advance), (2, .reverse), (3, .mark), (4, .ending), (6, .hold)] : List (BitVec 3 × CueKind)) := by decide

theorem witness_TapeCueIsMatchedOrInserted :
    logLaw oneCue.cueLog.entries ∧ matchPosition .advance 92 oneCue = some 0 ∧ matchPosition .advance 91 oneCue = none
      ∧ matchPosition .advance 108 oneCue = some 0 ∧ matchPosition .advance 109 oneCue = none := by
  delta logLaw
  decide

/-- A tape playing at count 108 whose one MARK at count 100 has not been met, CUE_FILL_IN as given. -/
def passing (fillIn : Bool) : State :=
  { tapeIn .playing with
    transport.dir := .forward
    transport.reel := 108
    items.cueFillIn := fillIn
    cueLog.entries := [{ reel := 100, kind := .mark, index := some 1, seen := 1, met := false }] }

theorem witness_TapeCueIsMatchedOrInserted_missed :
    logLaw (passing true).cueLog.entries ∧ (passing true).transport.state = .playing ∧ (passing true).items.cueSource = .tape
      ∧ (passing true).transport.seek = none ∧ (passing true).transport.dir = .forward ∧ 108 < 65535
      ∧ (passing true).cueLog.entries.filter (fun e => !e.met && decide (e.reel + (passing true).items.matchWindow < 108 + 1))
        = [{ reel := 100, kind := .mark, index := some 1, seen := 1, met := false }]
      ∧ (passing false).items.cueFillIn = false ∧ (passing true).program.cueIndex = 0 ∧ (passing true).program.table = []
      ∧ (passing true).items.relayOut = false
      ∧ matchPosition .mark 108 (passing true) = some 0 ∧ matchPosition .mark 109 (passing true) = none
      ∧ (oneCue.cueLog.entries.length < 512) := by
  delta logLaw
  decide

/-- n HOLD cues at count 0, all met. -/
def holdCues (n : Nat) : List LogEntry := List.replicate n { reel := 0, kind := .hold, index := none, seen := 1, met := true }

theorem holdCues_law (n : Nat) (h : n ≤ 512) : logLaw (holdCues n) := by
  refine ⟨by simpa [holdCues] using h, by simp [holdCues, List.pairwise_replicate], by simp [holdCues, countedEntries], ?_⟩
  intro e he
  rw [List.eq_of_mem_replicate he]
  decide

/-- A log of 512 HOLD cues has no room, and all are met. -/
theorem witness_TapeCueIsMatchedOrInserted_full :
    ∃ s : State, 512 ≤ s.cueLog.entries.length ∧ logLaw s.cueLog.entries ∧ ∀ e ∈ s.cueLog.entries, e.met = true :=
  ⟨{ up with cueLog.entries := holdCues 512 }, Nat.le_of_eq List.length_replicate.symm, holdCues_law 512 (Nat.le_refl _),
    fun e h => by rw [List.eq_of_mem_replicate h]⟩

theorem witness_RelayFramesComeAndGo :
    ({ up with decoder.relaySending := some { kind := .mark, index := 5 } } : State).decoder.relaySending
        = some { kind := .mark, index := 5 }
      ∧ up.decoder.relaySending = none ∧ ({ up with decoder.releaseTimer := some 0 } : State).decoder.releaseTimer = some 0
      ∧ ({ up with decoder.relayQueue := [{ kind := .mark, index := 5 }] } : State).decoder.relayQueue = [{ kind := .mark, index := 5 }]
      ∧ up.decoder.relayQueue = [] ∧ ({ up with heat.power := .sleep } : State).heat.power = .sleep ∧ up.heat.power ≠ .sleep
      ∧ up.decoder.relayIn = .idle ∧ ({ up with decoder.relayIn := .receiving [] } : State).decoder.relayIn = .receiving []
      ∧ ((List.range 14).filter (fun i => (0x0801 : BitVec 14).getLsbD i)).length % 2 = 0
      ∧ ((List.range 14).filter (fun i => (0x0800 : BitVec 14).getLsbD i)).length % 2 = 1
      ∧ ((0x3001 : BitVec 14).extractLsb' 11 3).toNat = 6 ∧ ((0x2800 : BitVec 14).extractLsb' 11 3).toNat = 5
      ∧ ((0x0801 : BitVec 14).extractLsb' 11 3).toNat = 1 ∧ up.items.relayOut = false ∧ up.items.cueSource ≠ .line
      ∧ ({ up with items.relayOut := true } : State).items.relayOut = true
      ∧ ({ idle with items.cueSource := .line } : State).items.cueSource = .line ∧ idle.heat.power = .standby
      ∧ ({ up with decoder.conflictTimer := some 0 } : State).decoder.conflictTimer = some 0
      ∧ up.decoder.conflictTimer = none
      ∧ ({ up with items.cueSource := .line } : State).items.cueSource = .line ∧ up.heat.power = .active
      ∧ ((0x080B : BitVec 14).extractLsb' 11 3).toNat = cueKindCode .advance ∧ ((0x080B : BitVec 14).extractLsb' 1 10).toNat = 5
      ∧ 5 ≠ up.program.cueIndex + 1 ∧ 5 = ({ up with program.cueIndex := 4 } : State).program.cueIndex + 1
      ∧ ({ kind := .ending, index := 999 } : RelayFrame).index ≤ 999 := by decide

/-- `up` with one entry in the cue table. -/
def oneEntry : State := { up with program.table := [{ index := 5, actions := [.notify 77] }] }

theorem witness_CueLogAndTableRequests :
    servable oneEntry ∧ (hdr 2).len = 2 ∧ (hdr 3).len = 3 ∧ (hdr 0).len = 0 ∧ 511 < (512 : BitVec 16).toNat
      ∧ (511 : BitVec 16).toNat ≤ 511 ∧ oneCue.cueLog.entries[(0 : BitVec 16).toNat + 0]? ≠ none
      ∧ 999 < (1000 : BitVec 16).toNat ∧ 1 ≤ (1 : BitVec 16).toNat ∧ (999 : BitVec 16).toNat ≤ 999
      ∧ ({ oneEntry with program.protectTable := true } : State).program.protectTable = true ∧ oneEntry.program.service = false
      ∧ oneEntry.program.protectTable = false ∧ (∀ e ∈ oneEntry.program.table, e.index ≠ (4 : BitVec 16).toNat)
      ∧ (∃ e ∈ oneEntry.program.table, e.index = (5 : BitVec 16).toNat) ∧ 1 < (2 : Byte).toNat := by
  delta servable
  decide

theorem witness_tableLaw : tableLaw oneEntry.program.table := by
  refine ⟨by decide, by decide, by decide, fun e h => ?_⟩
  simp only [oneEntry, List.mem_singleton] at h
  subst h
  exact ⟨by decide, by decide, by decide, by decide, fun a ha => by
    simp only [List.mem_singleton] at ha
    subst ha
    delta actionLaw
    decide⟩

theorem witness_CueLogAndTableRequests_read :
    (∃ e ∈ oneEntry.program.table, e.index = (5 : BitVec 16).toNat)
      ∧ (∀ e ∈ oneEntry.program.table, ¬ (5 : BitVec 16).toNat < e.index)
      ∧ (∃ e ∈ oneEntry.program.table, (4 : BitVec 16).toNat < e.index) := by decide

theorem witness_WriteEntryWritesOneEntry :
    servable oneEntry ∧ (hdr 8).len.toNat = 3 + 5 * 1 ∧ (hdr 23).len.toNat = 3 + 5 * 4 ∧ (hdr 28).len.toNat = 3 + 5 * 5
      ∧ 999 < (1000 : BitVec 16).toNat ∧ 4 < (List.replicate 5 ({ code := 7, a := 0, b := 0 } : RawAction)).length
      ∧ 1 ≤ (1 : BitVec 16).toNat ∧ (999 : BitVec 16).toNat ≤ 999 ∧ oneEntry.program.table.length < 240
      ∧ poolUsed oneEntry.program.table + 4 ≤ 480 ∧ oneEntry.program.protectTable = false
      ∧ (∃ e ∈ oneEntry.program.table, e.index = (5 : BitVec 16).toNat)
      ∧ poolUsed (oneEntry.program.table.filter (fun e => e.index != (5 : BitVec 16).toNat)) + 4 ≤ 480 := by
  delta servable
  decide

theorem witness_WriteEntryWritesOneEntry_full :
    ∃ s : State, 240 ≤ s.program.table.length ∧ ∀ e ∈ s.program.table, e.index ≠ 1 :=
  ⟨{ up with program.table := List.replicate 240 { index := 2, actions := [.hold] } }, Nat.le_of_eq List.length_replicate.symm,
    fun e h => by rw [List.eq_of_mem_replicate h]; decide⟩

/-- n entries of four actions each, at the indices from k. -/
def fours (k n : Nat) : List TableEntry := (List.range' k n).map (fun i => { index := i, actions := List.replicate 4 .hold })

theorem fours_pool (k n : Nat) : poolUsed (fours k n) = 4 * n := by
  simp [poolUsed, fours, List.map_map, Function.comp_def, Nat.mul_comm]

theorem fours_law (k n : Nat) (hk : 1 ≤ k) (h : k + n ≤ 121) : tableLaw (fours k n) := by
  refine ⟨by simp [fours]; omega, by rw [fours_pool]; omega, ?_, ?_⟩
  · simpa [fours, List.map_map, Function.comp_def] using List.pairwise_lt_range'
  · intro e he
    obtain ⟨i, hi, rfl⟩ := List.mem_map.1 he
    simp only [List.mem_range'_1] at hi
    refine ⟨by show 1 ≤ i; omega, by show i ≤ 999; omega, by simp, by simp, fun a ha => ?_⟩
    rw [List.eq_of_mem_replicate ha]
    trivial

/-- A table of 120 entries of four actions: the pool of 480 is full, the table is not. -/
theorem witness_WriteEntryWritesOneEntry_pool :
    ∃ s : State, s.program.table.length < 240 ∧ tableLaw s.program.table
      ∧ 480 < poolUsed (s.program.table.filter (fun e => e.index != 999)) + 1 ∧ s.program.protectTable = false :=
  ⟨{ up with program.table := fours 1 120 }, by show (fours 1 120).length < 240; simp [fours],
    fours_law 1 120 (by omega) (by omega), by
      show 480 < poolUsed ((fours 1 120).filter (fun e => e.index != 999)) + 1
      rw [List.filter_eq_self.2, fours_pool]
      · omega
      · intro e he
        obtain ⟨i, hi, rfl⟩ := List.mem_map.1 he
        simp only [List.mem_range'_1] at hi
        simp only [bne_iff_ne]
        omega, rfl⟩

theorem witness_WriteEntryWritesOneEntry_actions :
    List.Forall₂ rawMeans [{ code := 3, a := 1000, b := 6000 }, { code := 1, a := 0xFF9D, b := 0 }] [.fade 1000 6000, .step (-99)]
      ∧ ∀ a, ¬ rawMeans { code := 0, a := 0, b := 0 } a := by
  refine ⟨.cons (by delta rawMeans; decide) (.cons (by delta rawMeans; decide) .nil), fun a h => ?_⟩
  cases a <;> simp [rawMeans] at h

theorem witness_CuesActAndShowLoops_cues :
    (∃ e ∈ oneEntry.program.table, e.index = min 999 ((some 5 : Option Nat).getD 1))
      ∧ (∀ e ∈ oneEntry.program.table, e.index ≠ min 999 ((none : Option Nat).getD (oneEntry.program.cueIndex + 1)))
      ∧ up.items.relayOut = false ∧ ({ up with items.relayOut := true } : State).items.relayOut = true
      ∧ hasFault .relayConflict up = false ∧ hasFault .relayConflict (faulty .relayConflict) = true
      ∧ up.decoder.relaySending = none ∧ up.decoder.relayQueue = [] ∧ up.decoder.releaseTimer = none
      ∧ ({ up with decoder.releaseTimer := some 0 } : State).decoder.releaseTimer ≠ none
      ∧ 4 ≤ (List.replicate 4 ({ kind := .mark, index := 5 } : RelayFrame)).length ∧ idle.heat.power = .standby
      ∧ movesOpen (inStage .lift) ∧ (inStage .lift).changer.stage ≠ .idle ∧ (inStage .lift).changer.queue = []
      ∧ up.lamp.darkWaiting = false ∧ up.items.autoStrike = false ∧ up.lamp.state = .off ∧ idle.heat.power ≠ .active
      ∧ up.heat.power = .active ∧ up.program.timer = .stopped ∧ up.program.hold = none
      ∧ ({ up with program.timer := .running } : State).program.timer ≠ .stopped ∧ up.transport.state ≠ .playing := by
  delta movesOpen
  decide

theorem witness_CueLogAndTableRequests_chase :
    servable (inStage .lift) ∧ (hdr 2).len = 2 ∧ 999 < (1000 : BitVec 16).toNat ∧ (999 : BitVec 16).toNat ≤ 999
      ∧ idle.heat.power = .standby ∧ traySize { up with tray.code := 0 } = 0 ∧ changerFault (faulty .rotateStall) = true
      ∧ movesOpen (inStage .lift) ∧ (inStage .lift).changer.stage ≠ .idle ∧ (inStage .lift).changer.queue = []
      ∧ (∃ e ∈ oneCue.cueLog.entries, e.index = some (0 + 1)) ∧ (∀ e ∈ oneCue.cueLog.entries, e.index ≠ some (1 + 1))
      ∧ logLaw oneCue.cueLog.entries ∧ movesOpen up ∧ up.changer.stage = .idle ∧ servable up := by
  delta servable movesOpen logLaw
  decide

/-- A tape playing in an end fade whose next step is its last, a loop armed and to restart. -/
def fadedOut : State :=
  { tapeIn .playing with
    transport.endFade := .running 40 2 1
    cueLog.phase := .ending
    cueLog.armed := true
    cueLog.restart := true }

/-- A tape braking to rest at the leader, a loop rewinding. -/
def rewound : State :=
  { inStage .lift with
    transport.state := .stopping
    transport.dest := some { dest := .stopped, source := .leader, tag := none }
    transport.backMark := true
    transport.zeroKnown := true
    cueLog.phase := .rewinding
    cueLog.armed := true }

/-- The last stage of the loop's own cycle. -/
def chased : State :=
  { inStage .settle with
    changer.cycle := some { cyc with entry := { source := .chase, move := .goto 9, tags := [], owner := some .loop } }
    cueLog.phase := .chasing
    cueLog.armed := true }

theorem witness_CuesActAndShowLoops_loop :
    fadedOut.cueLog.phase ≠ .idle ∧ (tapeIn .playing).cueLog.phase = .idle ∧ (tapeIn .playing).lamp.state = .off
      ∧ (tapeIn .playing).lamp.darkWaiting = false
      ∧ (tapeIn .playing).transport.state = .playing ∧ (tapeIn .playing).transport.endFade = .idle
      ∧ 0 < (tapeIn .playing).items.endFade ∧ (tapeIn .playing).cueLog.armed = false
      ∧ ({ tapeIn .playing with cueLog.armed := true } : State).cueLog.armed = true ∧ (tapeIn .playing).program.loops ≠ 1
      ∧ ({ tapeIn .playing with program.loops := 1 } : State).program.loops = 1
      ∧ fadedOut.transport.endFade = .running 40 2 1 ∧ 2 ≤ 1 + 1 ∧ fadedOut.cueLog.phase = .ending
      ∧ fadedOut.heat.power = .active ∧ hasFault .tapeStall fadedOut = false ∧ fadedOut.transport.seek = none
      ∧ rewound.transport.state = .stopping ∧ rewound.transport.backMark = true
      ∧ rewound.transport.dest = some { dest := .stopped, source := .leader, tag := none } ∧ rewound.transport.seek = none
      ∧ rewound.cueLog.phase = .rewinding ∧ rewound.heat.sleepPending = .clear ∧ rewound.transport.reel = 0
      ∧ rewound.transport.zeroKnown = true ∧ movesOpen rewound ∧ rewound.changer.stage ≠ .idle ∧ rewound.changer.queue = []
      ∧ ({ rewound with transport.zeroKnown := false } : State).transport.zeroKnown = false ∧ rewound.cueLog.armed = true
      ∧ chased.changer.stage = .settle ∧ chased.changer.queue = [] ∧ chased.cueLog.phase = .chasing ∧ chased.lamp.state = .off
      ∧ chased.changer.cycle.map (fun c => (c.entry.owner, c.aborted)) = some (some .loop, false)
      ∧ chased.transport.state = .stopped ∧ chased.lines.leader = false ∧ chased.heat.sleepPending = .clear
      ∧ (hdr 0).len = 0 := by
  delta movesOpen
  decide

/-- A show with its lamp lit, its timer running and a loop armed, its tape in a state. -/
def showIn (st : TapeState) : State :=
  { tapeIn st with
    lamp.state := .lit, lamp.ramp := 900, lamp.drive := 900, program.timer := .running, cueLog.armed := true
    program.loops := 3 }

theorem witness_CuesActAndShowLoops_endSequence :
    (showIn .playing).cueLog.phase = .idle ∧ (showIn .playing).lamp.darkWaiting = false
      ∧ (showIn .playing).lamp.state = .lit ∧ powerDownRuns (showIn .playing).lamp = false
      ∧ 0 < (showIn .playing).items.fadeOut ∧ (showIn .playing).program.timer = .running
      ∧ (showIn .playing).transport.state = .playing ∧ (showIn .playing).transport.endFade = .idle
      ∧ 0 < (showIn .playing).items.endFade ∧ (showIn .playing).cueLog.armed = true ∧ (showIn .playing).program.loops ≠ 1
      ∧ (lampIn .preheat).lamp.state = .preheat ∧ (lampIn .swapping).lamp.state = .swapping
      ∧ (tapeIn .winding).transport.state ≠ .playing ∧ (tapeIn .winding).transport.state ≠ .paused
      ∧ (tapeIn .winding).cueLog.armed = false ∧ (tapeIn .winding).cueLog.restart = false
      ∧ (showIn .stopping).transport.state = .stopping ∧ (showIn .stopping).transport.dest = none
      ∧ (showIn .stopping).transport.seek = none ∧ (showIn .stopping).heat.power = .active
      ∧ hasFault .tapeStall (showIn .stopping) = false
      ∧ ({ showIn .playing with items.fadeOut := 0 } : State).items.fadeOut = 0 := by decide

theorem witness_CuesActAndShowLoops_hostStop (st : TapeState) :
    servable (showIn st) ∧ (hdr 0).len = 0 ∧ (showIn st).cueLog.armed = true ∧ (showIn st).transport.seek = none
      ∧ hasFault .tapeStall (showIn st) = false ∧ (showIn st).transport.state = st
      ∧ fadedOut.cueLog.phase = .ending ∧ fadeRuns fadedOut = true ∧ fadedOut.cueLog.armed = true := by
  delta servable
  cases st <;> decide

theorem witness_TimerAndHoldByTheirRules :
    servable up ∧ (hdr 2).len = 2 ∧ (hdr 0).len = 0 ∧ (9 : BitVec 16).toNat < 10 ∧ 6000 < (6001 : BitVec 16).toNat
      ∧ 10 ≤ (10 : BitVec 16).toNat ∧ (6000 : BitVec 16).toNat ≤ 6000 ∧ idle.heat.power = .standby ∧ up.heat.power = .active
      ∧ up.program.timer = .stopped ∧ up.program.hold = none
      ∧ ({ up with program.hold := some { tapeHeld := false, timerHeld := true } } : State).program.hold
        = some { tapeHeld := false, timerHeld := true }
      ∧ ({ up with program.timer := .running } : State).program.timer ≠ .stopped ∧ up.transport.state ≠ .playing
      ∧ up.transport.state ≠ .paused
      ∧ ({ inStage .lift with program.timer := .running } : State).program.timer = .running ∧ movesOpen (inStage .lift)
      ∧ (inStage .lift).changer.queue = [] ∧ idle.heat.power ≠ .active := by
  delta servable movesOpen
  decide

/-- Six queued moves behind a running cycle, the last a GOTO. -/
def sixQueued : State :=
  { inStage .lift with
    program.timer := .running, changer.queue := List.replicate 6 { source := .cue, move := .goto 3, tags := [], owner := none } }

theorem witness_TimerAndHoldByTheirRules_losses :
    traySize { sixQueued with tray.code := 0 } = 0 ∧ sixQueued.heat.power = .active ∧ sixQueued.program.timer = .running
      ∧ 0 < traySize (faulty .jamLift) ∧ changerFault (faulty .jamLift) = true ∧ movesOpen sixQueued
      ∧ 6 ≤ sixQueued.changer.queue.length ∧ sixQueued.changer.stage ≠ .idle
      ∧ (∀ e, sixQueued.changer.queue.getLast? = some e → e.source = .timer → ∃ t, e.move = .goto t)
      ∧ clampSigned (traySize sixQueued) (47 + 1) = 48 ∧ clampSigned (traySize sixQueued) (48 + 1) ≠ 0 := by
  refine ⟨by decide, by decide, by decide, by decide, by decide, by delta movesOpen; decide, by decide, by decide, ?_,
    by decide, by decide⟩
  intro e h hs
  cases h
  cases hs

theorem witness_TimerAndHoldByTheirRules_tape :
    servable (tapeIn .playing) ∧ (tapeIn .playing).heat.power = .active ∧ hasFault .tapeStall (tapeIn .playing) = false
      ∧ (tapeIn .playing).transport.seek = none ∧ (tapeIn .playing).transport.backMark = false
      ∧ (tapeIn .playing).program.hold = none ∧ (tapeIn .playing).transport.endFade = .idle
      ∧ ({ tapeIn .paused with program.hold := some { tapeHeld := true, timerHeld := true } } : State).transport.state = .paused
      ∧ (tapeIn .paused).lines.leader = false := by
  delta servable
  decide

theorem witness_LockAndProtect :
    servable up ∧ (hdr 1).len = 1 ∧ (hdr 0).len = 0 ∧ 3 < (4 : Byte).toNat ∧ 1 < (2 : Byte).toNat ∧ up.program.lock = .opened
      ∧ ({ up with program.lock := .exhibit } : State).program.lock = .exhibit ∧ up.program.service = false
      ∧ ({ up with program.service := true } : State).program.service = true := by
  delta servable
  decide

theorem witness_TraceModeAndRead :
    servable up ∧ (hdr 4).len = 4 ∧ (hdr 1).len = 1 ∧ 4 < (5 : Byte).toNat ∧ (0x1000 : BitVec 16) &&& 0xF000 ≠ 0
      ∧ (4 : Byte) = BitVec.ofNat 8 (traceModeCode .waitRing) ∧ (0x0FFF : BitVec 16) &&& 0xF000 = 0
      ∧ min 32 (33 : Byte).toNat = 32 ∧ ((0x0FFF &&& up.link.faults != 0) = false)
      ∧ ¬ (TraceMode.waitRing = .ringFreeze ∧ false = true ∧ 32 = 0) ∧ 16 < (17 : Byte).toNat ∧ 1 ≤ (1 : Byte).toNat
      ∧ (16 : Byte).toNat ≤ 16 ∧ min (16 : Byte).toNat (min 2 up.trace.records.length) = 0
      ∧ 0 < min (1 : Byte).toNat (min 2 ({ up with
          trace.records := [{ stamp := 0, body := .timerLost .full }] } : State).trace.records.length)
      ∧ (0 : Byte) = BitVec.ofNat 8 0 ∧ (2 : BitVec 16) &&& 0xF000 = 0
      ∧ (2 : BitVec 16) &&& ({ busyLink with link.faults := 2 } : State).link.faults ≠ 0
      ∧ ({ busyLink with link.faults := 2 } : State).link.sending ≠ none ∧ servable { busyLink with link.faults := 2 } := by
  delta servable
  decide

/-- `up` with a key held on the infrared remote. -/
def holding (k : Key) : State := { up with remote.irKey := some (freshHeld k false) }

theorem witness_RemoteKeysPressAndHold :
    up.remote.irDecoder = .idle ∧ ({ up with remote.irDecoder := .receiving [] } : State).remote.irDecoder = .receiving []
      ∧ (0 : BitVec 16).extractLsb' 0 6 ≠ ~~~ ((0 : BitVec 16).extractLsb' 7 6)
      ∧ ({ up with items.irChannel := 1 } : State).items.irChannel ≠ 0
      ∧ (irWord 48).extractLsb' 0 6 = ~~~ ((irWord 48).extractLsb' 7 6) ∧ up.items.irChannel = 0 ∧ up.heat.power ≠ .sleep
      ∧ (holding .user1).remote.irKey = some (freshHeld .user1 false) ∧ ((irWord 48).extractLsb' 7 6).toNat = irKeyCode .user1
      ∧ (irWord 48).getLsbD 6 = false ∧ up.remote.irKey = none ∧ ((irWord 48).extractLsb' 7 6).toNat = 48
      ∧ up.program.lock = .opened ∧ ({ up with program.lock := .exhibit } : State).program.lock = .exhibit
      ∧ up.program.service = false ∧ up.items.autoGo = false ∧ up.remote.entry = none
      ∧ ({ up with items.autoGo := true } : State).items.autoGo = true
      ∧ ({ up with remote.entry := some { value := 49, digits := 2, windowMs := 0 } } : State).remote.entry
        = some { value := 49, digits := 2, windowMs := 0 } ∧ 0 < traySize up ∧ traySize up < 49
      ∧ 48 ≤ traySize up ∧ traySize { up with tray.code := 0 } = 0 ∧ idle.heat.power ≠ .active ∧ 0 < traySize idle
      ∧ movesOpen (inStage .lift) ∧ (inStage .lift).changer.stage ≠ .idle ∧ (inStage .lift).changer.queue.length < 6
      ∧ (holding .focusIn).remote.irKey = some (freshHeld .focusIn false) ∧ Key.user1 ≠ .focusIn ∧ Key.focusIn ≠ .power
      ∧ ({ up with heat.power := .sleep } : State).heat.power = .sleep ∧ ((irWord 48).extractLsb' 7 6).toNat ≠ 40
      ∧ ((irWord 40).extractLsb' 7 6).toNat = 40 ∧ (irWord 40).extractLsb' 0 6 = ~~~ ((irWord 40).extractLsb' 7 6) := by
  delta movesOpen
  decide

/-- Every key of the infrared map has a word that passes the tests of R163 (R165). -/
theorem witness_RemoteKeysPressAndHold_words :
    ([0, 9].map (fun d => Key.digit d) ++ [Key.adv, .rev, .focusIn, .focusOut, .hold, .play, .stop, .lamp, .brightUp, .brightDown,
      .goto, .clear, .power, .user1, .user2]).all (fun k =>
        decide (((irWord (irKeyCode k)).extractLsb' 7 6).toNat = irKeyCode k
          ∧ (irWord (irKeyCode k)).extractLsb' 0 6 = ~~~ ((irWord (irKeyCode k)).extractLsb' 7 6))) = true := by decide

/-- `up` with a numeric entry of 9 being gathered. -/
def keyed (digits : Nat) : State := { up with remote.entry := some { value := 9, digits := digits, windowMs := 0 } }

/-- A nudge inward in progress. -/
def nudged : State := { up with remote.focus := .nudge .inward 3 10 }

/-- Both limit switches asserted. -/
def atLimits : State := { up with lines.limitIn := true, lines.limitOut := true }

/-- R171, R173: FOCUS_OUT takes the drive from a nudge. -/
theorem test_focus_out_takes_over :
    (after (.irFrame (irWord 19)) nudged).remote.focus = .key .ir .outward false
      ∧ (after (.irFrame (irWord 19)) nudged).link.flags = BitVec.twoPow 24 20 := by decide

theorem witness_RemoteKeysPressAndHold_keys :
    up.items.irChannel = 0 ∧ up.heat.power ≠ .sleep ∧ up.remote.irKey = none ∧ up.program.lock = .opened
      ∧ up.remote.entry = none ∧ (keyed 2).remote.entry.map (fun e => e.digits) = some 2
      ∧ (keyed 3).remote.entry.map (fun e => e.digits) = some 3 ∧ (keyed 1).heat.power = .active
      ∧ traySize { keyed 1 with tray.code := 0 } = 0 ∧ 0 < traySize (keyed 1) ∧ 9 ≤ traySize (keyed 1)
      ∧ changerFault (faulty .jamLift) = true ∧ movesOpen sixQueued ∧ 6 ≤ sixQueued.changer.queue.length
      ∧ movesOpen (inStage .lift) ∧ (inStage .lift).changer.stage ≠ .idle ∧ (inStage .lift).changer.queue = []
      ∧ clampSigned 48 (3 + 1) ≠ 0 ∧ clampSigned 48 (3 + -1) ≠ 0
      ∧ up.program.hold = none ∧ up.transport.state ≠ .playing ∧ up.transport.state ≠ .paused
      ∧ (tapeIn .noTape).transport.state = .noTape ∧ hasFault .tapeStall (faulty .tapeStall) = true
      ∧ up.transport.state = .stopped ∧ hasFault .tapeStall up = false ∧ up.transport.seek = none
      ∧ up.transport.backMark = false ∧ up.lines.leader = false ∧ up.cueLog.armed = false
      ∧ (showIn .playing).transport.endFade = .idle ∧ (showIn .playing).cueLog.armed = true
      ∧ (showIn .playing).program.hold = none ∧ (showIn .playing).transport.state = .playing
      ∧ (tapeIn .paused).transport.state = .paused ∧ (tapeIn .paused).heat.power = .active
      ∧ (showIn .playing).lamp.state = .lit ∧ powerDownRuns (showIn .playing).lamp = false
      ∧ (showIn .playing).lamp.darkWaiting = false ∧ (showIn .playing).changer.claim = .clear
      ∧ (lampIn .preheat).lamp.state = .preheat ∧ ({ lampIn .lit with changer.claim := .held } : State).changer.claim ≠ .clear
      ∧ up.lamp.state = .off ∧ ({ up with heat.estimate := 17921 } : State).heat.estimate = 17921 ∧ up.heat.estimate ≤ 17920
      ∧ hasFault .tcoOpen up = false ∧ hasFault .lampOpen up = false ∧ lampRec up.lamp up.lamp.active ≠ .failed
      ∧ up.remote.focus = .idle ∧ up.lines.limitIn = false ∧ idle.heat.power = .standby
      ∧ ({ freshHeld .power false with holdTaken := true } : Held).holdTaken = true ∧ up.heat.sleepPending = .clear
      ∧ ({ holding .focusOut with remote.focus := .key .ir .outward true } : State).remote.focus = .key .ir .outward true := by
  delta movesOpen
  decide

theorem witness_RemoteKeysPressAndHold_focus :
    (∀ nd tag left, up.remote.focus ≠ .nudge nd tag left) ∧ (∀ d fast, up.remote.focus ≠ .key .ir d fast)
      ∧ up.lines.limitOut = false ∧ nudged.remote.focus = .nudge .inward 3 10 ∧ atLimits.lines.limitIn = true
      ∧ atLimits.lines.limitOut = true ∧ nudged.remote.irKey = none ∧ atLimits.remote.irKey = none :=
  ⟨fun _ _ _ h => FocusDrive.noConfusion h, fun _ _ h => FocusDrive.noConfusion h, by decide⟩

theorem witness_RemoteKeysPressAndHold_wired :
    bandOf 1023 = some .noKey ∧ up.remote.stableBand = .noKey ∧ (∃ v b, bandOf v = some b ∧ b ≠ up.remote.stableBand)
      ∧ (∃ v, bandOf v = none)
      ∧ ({ up with remote.candidate := some (.adv, 4) } : State).remote.candidate = some (.adv, 4) ∧ 4 < 5
      ∧ ({ up with remote.candidate := some (.adv, 5) } : State).remote.candidate = some (.adv, 5) ∧ 5 ≤ 5
      ∧ ({ up with remote.stableBand := .adv } : State).remote.stableBand ≠ .noKey
      ∧ ({ up with remote.wiredKey := some (freshHeld .adv false) } : State).remote.wiredKey = some (freshHeld .adv false)
      ∧ (freshHeld .adv false).key = .adv ∧ (freshHeld .adv false).usedUp = false ∧ (freshHeld .adv false).ignored = false
      ∧ up.remote.wiredKey = none ∧ up.remote.focus = .idle ∧ up.lines.limitIn = false ∧ movesOpen (inStage .lift)
      ∧ bandKey .adv = some .adv ∧ bandKey .rev = some .rev ∧ bandKey .hold = some .hold ∧ bandKey .focusIn = some .focusIn
      ∧ bandKey .focusOut = some .focusOut ∧ (Band.focusOut) ≠ up.remote.stableBand
      ∧ ({ up with heat.power := .sleep } : State).heat.power = .sleep ∧ up.heat.power ≠ .sleep ∧ idle.heat.power ≠ .active
      ∧ up.program.hold = none ∧ up.transport.state ≠ .playing ∧ (freshHeld .rev false).key = .rev
      ∧ nudged.remote.wiredKey = none ∧ atLimits.remote.wiredKey = none
      ∧ (inStage .lift).changer.stage ≠ .idle ∧ (inStage .lift).changer.queue = []
      ∧ (holding .power).remote.irKey = some (freshHeld .power false) ∧ (freshHeld .power false).holdTaken = false
      ∧ idle.heat.power = .standby ∧ idle.heat.sleepPending = .clear
      ∧ sleepConditions { idle with heat.cooling := true } = false := by
  refine ⟨by decide, by decide, ⟨0, .adv, by decide, by decide⟩, ⟨100, by decide⟩, ?_⟩
  delta movesOpen
  decide

theorem witness_FocusMovesAndStops :
    servable up ∧ (hdr 3).len = 3 ∧ 1 < (2 : Byte).toNat ∧ (9 : BitVec 16).toNat < 10 ∧ 2000 < (2001 : BitVec 16).toNat
      ∧ (1 : Byte).toNat ≤ 1 ∧ 10 ≤ (10 : BitVec 16).toNat ∧ (2000 : BitVec 16).toNat ≤ 2000 ∧ up.remote.focus = .idle
      ∧ up.lines.limitIn = false ∧ up.lines.limitOut = false ∧ ({ up with lines.limitIn := true } : State).lines.limitIn = true
      ∧ ({ up with remote.focus := .nudge .inward 3 10 } : State).remote.focus = .nudge .inward 3 10
      ∧ ({ up with remote.focus := .key .ir .outward false } : State).remote.focus = .key .ir .outward false
      ∧ nudged.remote.focus ≠ .idle ∧ atLimits.lines.limitOut = true ∧ servable atLimits ∧ atLimits.remote.focus = .idle := by
  delta servable
  decide

/-- R172: with a nudge inward the outward switch is the other end's. -/
theorem witness_FocusMovesAndStops_other_end :
    (∀ tag left, nudged.remote.focus ≠ .nudge .outward tag left) ∧ (∀ owner fast, nudged.remote.focus ≠ .key owner .outward fast)
      ∧ (after (.focusLimit .outward true) nudged).remote.focus = .nudge .inward 3 10 := by
  refine ⟨fun tag left h => ?_, fun owner fast h => FocusDrive.noConfusion h, by decide⟩
  have := congrArg (fun f => match f with | FocusDrive.nudge d _ _ => d | _ => .outward) h
  exact FocusDir.noConfusion this

/-! ### The laws hold somewhere, with a step to take -/

/-- Every law at the state after reset. -/
theorem witness_everyLaw : everyLaw State.reset := by
  refine ⟨?_, ?_, ?_, ?_, ?_, ?_, ?_, ?_, ?_, ?_, ?_, by delta heatLaw; decide, by decide⟩
  · delta traceLaw; decide
  · delta linkLaw; decide
  · delta itemsLaw; decide
  · delta thermalLaw; decide
  · delta lampLaw; exact ⟨by decide, fun h => by cases h⟩
  · delta sleepLaw; decide
  · delta mutedLaw; decide
  · exact ⟨by decide, by decide, by decide, fun e h => by cases h⟩
  · exact ⟨by decide, by decide, by decide, fun e h => by cases h⟩
  · exact ⟨by decide, fun p h => by cases h⟩
  · exact ⟨by decide, by decide, by decide, by decide, by decide, fun h _ _ => absurd h (by decide), by decide, by decide,
      by decide, by decide⟩

/-- With the laws, a command waits and a step answers: the premises of the statements about every step. -/
theorem witness_steps_answer :
    ∃ t, step { State.reset with pending := [.syncByte] } = .next t ∧ t.pending = [] := ⟨_, rfl, rfl⟩

theorem witness_EveryStepKeepsTheTraceLaw :
    ∃ s t : State, traceLaw s ∧ step s = .next t ∧ s.pending = [.autoAdvanceExpiry] ∧ ¬ takesRecords .autoAdvanceExpiry s
      ∧ s.trace.mode = .fill ∧ t.trace.records.length = 1 :=
  ⟨{ idle with trace.mode := .fill, program.timer := .running, pending := [.autoAdvanceExpiry] }, _,
    by delta traceLaw; decide, rfl, rfl, fun h => h, rfl, by decide⟩

theorem witness_EveryStepKeepsTheTraceLaw_frozen :
    ∃ s t : State, traceLaw s ∧ step s = .next t ∧ s.pending = [.autoAdvanceExpiry] ∧ ¬ takesRecords .autoAdvanceExpiry s
      ∧ s.trace.mode = .ringFreeze ∧ s.trace.phase = .frozen :=
  ⟨{ idle with trace.mode := .ringFreeze, trace.phase := .frozen, program.timer := .running, pending := [.autoAdvanceExpiry] }, _,
    by delta traceLaw; decide, rfl, rfl, fun h => h, rfl, rfl⟩

theorem witness_HeatEstimateChangesOnlyAtUpdates :
    heatLaw up ∧ isHeatUpdate .syncByte = false ∧ isHardReset .syncByte = false ∧ up.pending = [] := by
  delta heatLaw
  decide

theorem witness_ProtectedContentDoesNotChange :
    ∃ s t : State, s.program.lock = .exhibit ∧ s.program.service = false ∧ s.program.protectTable = true
      ∧ s.pending = [.clearTable (hdr 0)] ∧ isHardReset (.clearTable (hdr 0)) = false ∧ step s = .next t :=
  ⟨{ oneEntry with program.lock := .exhibit, program.protectTable := true, pending := [.clearTable (hdr 0)] }, _,
    rfl, rfl, rfl, rfl, rfl, rfl⟩

end Sys2Proof.Tests
end

section
/-! ## Tray Unit and Changer: what leaves both alone

One lemma an operation: the Tray Unit and the Changer stand as they were. -/

namespace Sys2Proof.Machine

variable (s : State)

/-! ### Notices, records, faults -/

@[simp] theorem give_tray_changer (n : Notice) : (give n s).tray = s.tray ∧ (give n s).changer = s.changer := ⟨rfl, rfl⟩

@[simp] theorem giveAll_tray_changer (ns : List Notice) :
    (giveAll ns s).tray = s.tray ∧ (giveAll ns s).changer = s.changer := by
  obtain ⟨l, h, -⟩ := giveAll_spec ns s
  simp [h]

@[simp] theorem settleWatermark_tray_changer :
    (settleWatermark s).tray = s.tray ∧ (settleWatermark s).changer = s.changer := by
  obtain ⟨l, t, h, -⟩ := settleWatermark_spec s
  simp [h]

@[simp] theorem offer_tray_changer (b : TraceBody) : (offer b s).tray = s.tray ∧ (offer b s).changer = s.changer := by
  obtain ⟨l, t, h, -⟩ := offer_spec b s
  simp [h]

@[simp] theorem report_tray_changer (n : Notice) (b : TraceBody) :
    (report n b s).tray = s.tray ∧ (report n b s).changer = s.changer := by
  obtain ⟨l, t, h, -⟩ := report_spec n b s
  simp [h]

@[simp] theorem raiseFault_tray_changer (f : FaultKind) (pos : Option LampPos) :
    (raiseFault f pos s).tray = s.tray ∧ (raiseFault f pos s).changer = s.changer := by
  obtain ⟨l, t, h, -⟩ := raiseFault_spec f pos s
  simp [h]

@[simp] theorem clearFault_tray_changer (f : FaultKind) :
    (clearFault f s).tray = s.tray ∧ (clearFault f s).changer = s.changer := by
  obtain ⟨l, t, h, -⟩ := clearFault_spec f s
  simp [h]

@[simp] theorem writeTraceMode_tray_changer (mode : TraceMode) (trigger : BitVec 16) (post : Nat) :
    (writeTraceMode mode trigger post s).tray = s.tray ∧ (writeTraceMode mode trigger post s).changer = s.changer := by
  obtain ⟨l, h, -⟩ := writeTraceMode_spec mode trigger post s
  simp [h]

@[simp] theorem fillReply_tray_changer (p : List Byte) :
    (fillReply p s).tray = s.tray ∧ (fillReply p s).changer = s.changer := by
  unfold fillReply
  split <;> exact ⟨rfl, rfl⟩

/-! ### Heat and power -/

@[simp] theorem startCooldown_tray_changer :
    (startCooldown s).tray = s.tray ∧ (startCooldown s).changer = s.changer := ⟨rfl, rfl⟩

@[simp] theorem endCooldown_tray_changer :
    (endCooldown s).tray = s.tray ∧ (endCooldown s).changer = s.changer := ⟨rfl, rfl⟩

@[simp] theorem recomputeD_tray_changer : (recomputeD s).tray = s.tray ∧ (recomputeD s).changer = s.changer := by
  unfold recomputeD
  dsimp only
  repeat' split
  all_goals exact ⟨rfl, rfl⟩

@[simp] theorem evalCeiling_tray_changer : (evalCeiling s).tray = s.tray ∧ (evalCeiling s).changer = s.changer := by
  simp [evalCeiling]

@[simp] theorem settleThermal_tray_changer (key : FanLevel × Zone × Bool) :
    (settleThermal key s).tray = s.tray ∧ (settleThermal key s).changer = s.changer := by
  obtain ⟨l, t, h, -⟩ := settleThermal_spec key s
  simp [h]

@[simp] theorem relayLost_tray_changer (r : Reason) (fs : List RelayFrame) :
    (relayLost r fs s).tray = s.tray ∧ (relayLost r fs s).changer = s.changer := by
  induction fs generalizing s with
  | nil => exact ⟨rfl, rfl⟩
  | cons f fs ih => simp [relayLost, ih]

@[simp] theorem loseRelayQueue_tray_changer (r : Reason) :
    (loseRelayQueue r s).tray = s.tray ∧ (loseRelayQueue r s).changer = s.changer := by simp [loseRelayQueue]

@[simp] theorem sleepRemote_tray_changer : (sleepRemote s).tray = s.tray ∧ (sleepRemote s).changer = s.changer := by
  unfold sleepRemote sleepFocus
  split <;> simp

@[simp] theorem powerNotice_tray_changer (c : Reason) (w : Option WakeSource) (t : Option Byte) (o : Option Reason) :
    (powerNotice c w t o s).tray = s.tray ∧ (powerNotice c w t o s).changer = s.changer := ⟨rfl, rfl⟩

@[simp] theorem enterSleep_tray_changer (t : Option Byte) :
    (enterSleep t s).tray = s.tray ∧ (enterSleep t s).changer = s.changer := by simp [enterSleep]

@[simp] theorem sleepTest_tray_changer : (sleepTest s).tray = s.tray ∧ (sleepTest s).changer = s.changer := by
  unfold sleepTest
  split <;> [simp; (split <;> simp)]

@[simp] theorem wake_tray_changer (w : WakeSource) : (wake w s).tray = s.tray ∧ (wake w s).changer = s.changer := by
  unfold wake
  split <;> simp

/-! ### Lamp -/

@[simp] theorem reportLamp_tray_changer (c : Reason) :
    (reportLamp c s).tray = s.tray ∧ (reportLamp c s).changer = s.changer := by simp [reportLamp]

@[simp] theorem recordRefusedStrike_tray_changer (r : Reason) :
    (recordRefusedStrike r s).tray = s.tray ∧ (recordRefusedStrike r s).changer = s.changer := by
  simp [recordRefusedStrike]

@[simp] theorem startFade_tray_changer (k : FadeKind) (b n : Nat) :
    (startFade k b n s).tray = s.tray ∧ (startFade k b n s).changer = s.changer := by
  unfold startFade
  split <;> simp

@[simp] theorem lampDark_tray_changer (st : LampState) :
    (lampDark st s).tray = s.tray ∧ (lampDark st s).changer = s.changer := by simp [lampDark]

@[simp] theorem lampGoesOff_tray_changer (c : Reason) :
    (lampGoesOff c s).tray = s.tray ∧ (lampGoesOff c s).changer = s.changer := by simp [lampGoesOff]

@[simp] theorem enterPreheat_tray_changer (c : Reason) (d : Level) (b : Bool) :
    (enterPreheat c d b s).tray = s.tray ∧ (enterPreheat c d b s).changer = s.changer := by
  simp [enterPreheat, apply_ite State.tray, apply_ite State.changer]

@[simp] theorem startSwap_tray_changer (c : Reason) (w : Swap) :
    (startSwap c w s).tray = s.tray ∧ (startSwap c w s).changer = s.changer := by simp [startSwap]

@[simp] theorem makeStrike_tray_changer (c : Reason) :
    (makeStrike c s).tray = s.tray ∧ (makeStrike c s).changer = s.changer := by
  unfold makeStrike
  split <;> [simp; (dsimp only; split <;> simp)]

@[simp] theorem strike_tray_changer (c : Reason) :
    (strike c s).2.tray = s.tray ∧ (strike c s).2.changer = s.changer := by
  unfold strike
  split <;> simp

@[simp] theorem strikeUnanswered_tray_changer (c : Reason) :
    (strikeUnanswered c s).tray = s.tray ∧ (strikeUnanswered c s).changer = s.changer := by
  have hs := strike_tray_changer s c
  unfold strikeUnanswered
  split <;> simp_all

@[simp] theorem takeFade_tray_changer (level n : Nat) :
    (takeFade level n s).tray = s.tray ∧ (takeFade level n s).changer = s.changer := by
  unfold takeFade
  repeat' split
  all_goals simp

@[simp] theorem takeCueFade_tray_changer (level n : Nat) :
    (takeCueFade level n s).tray = s.tray ∧ (takeCueFade level n s).changer = s.changer := by
  unfold takeCueFade
  repeat' split
  all_goals simp

@[simp] theorem darkRequest_tray_changer :
    (darkRequest s).2.tray = s.tray ∧ (darkRequest s).2.changer = s.changer := by
  unfold darkRequest
  split <;> try simp
  split <;> simp

@[simp] theorem lightRequest_tray_changer :
    (lightRequest s).tray = s.tray ∧ (lightRequest s).changer = s.changer := by
  unfold lightRequest
  split <;> try simp
  split <;> simp

@[simp] theorem programLight_tray_changer :
    (programLight s).tray = s.tray ∧ (programLight s).changer = s.changer := by
  unfold programLight
  split <;> simp

@[simp] theorem lampEndFade_tray_changer :
    (lampEndFade s).tray = s.tray ∧ (lampEndFade s).changer = s.changer := by
  unfold lampEndFade
  split <;> try simp
  split <;> simp

@[simp] theorem lampOffNow_tray_changer (c : Reason) :
    (lampOffNow c s).tray = s.tray ∧ (lampOffNow c s).changer = s.changer := by
  unfold lampOffNow
  split <;> simp

@[simp] theorem powerDownLamp_tray_changer :
    (powerDownLamp s).tray = s.tray ∧ (powerDownLamp s).changer = s.changer := by
  unfold powerDownLamp
  repeat' split
  all_goals simp

@[simp] theorem fadeAdvance_tray_changer :
    (fadeAdvance s).tray = s.tray ∧ (fadeAdvance s).changer = s.changer := by
  unfold fadeAdvance
  repeat' split
  all_goals simp

@[simp] theorem lampLights_tray_changer : (lampLights s).tray = s.tray ∧ (lampLights s).changer = s.changer := by
  unfold lampLights
  split <;> simp

@[simp] theorem restrikeLamp_tray_changer (r : Level) :
    (restrikeLamp r s).tray = s.tray ∧ (restrikeLamp r s).changer = s.changer := by
  unfold restrikeLamp
  repeat' split
  all_goals simp

@[simp] theorem swapEnds_tray_changer : (swapEnds s).tray = s.tray ∧ (swapEnds s).changer = s.changer := by
  unfold swapEnds
  split
  · dsimp only
    repeat' split
    all_goals simp
  · simp

@[simp] theorem leaveFailed_tray_changer : (leaveFailed s).tray = s.tray ∧ (leaveFailed s).changer = s.changer := by
  unfold leaveFailed
  split <;> simp

/-! ### Show -/

@[simp] theorem timerMoveDone_tray_changer :
    (timerMoveDone s).tray = s.tray ∧ (timerMoveDone s).changer = s.changer := by
  unfold timerMoveDone
  split <;> simp

@[simp] theorem stopTimer_tray_changer : (stopTimer s).tray = s.tray ∧ (stopTimer s).changer = s.changer := by
  unfold stopTimer
  split <;> simp

@[simp] theorem endLoop_tray_changer (r : Reason) (d : Option Reason) :
    (endLoop r d s).tray = s.tray ∧ (endLoop r d s).changer = s.changer := by
  unfold endLoop
  split <;> simp

@[simp] theorem chaseFailed_tray_changer (o : Option ChaseOwner) (d : Reason) :
    (chaseFailed o d s).tray = s.tray ∧ (chaseFailed o d s).changer = s.changer := by
  unfold chaseFailed
  repeat' split
  all_goals simp

@[simp] theorem reportShort_tray_changer (n : Int) (w : WalkEnd) :
    (reportShort n w s).tray = s.tray ∧ (reportShort n w s).changer = s.changer := by
  unfold reportShort
  split <;> simp

/-! ### Tape -/

@[simp] theorem reportTape_tray_changer (c : Reason) (e : TapeEnds) :
    (reportTape c e s).tray = s.tray ∧ (reportTape c e s).changer = s.changer := by simp [reportTape]

@[simp] theorem recordTapeRefusal_tray_changer (q : MotionReq) (r : Reason) :
    (recordTapeRefusal q r s).tray = s.tray ∧ (recordTapeRefusal q r s).changer = s.changer := by
  simp [recordTapeRefusal]

@[simp] theorem leaveTape_tray_changer : (leaveTape s).tray = s.tray ∧ (leaveTape s).changer = s.changer := by
  unfold leaveTape exitPlaying
  split <;> simp

@[simp] theorem brakeTo_tray_changer (d : PendingDest) :
    (brakeTo d s).tray = s.tray ∧ (brakeTo d s).changer = s.changer := by simp [brakeTo]

@[simp] theorem leaderInRewind_tray_changer :
    (leaderInRewind s).tray = s.tray ∧ (leaderInRewind s).changer = s.changer := by
  unfold leaderInRewind
  split <;> simp

@[simp] theorem enterRewinding_tray_changer (c : Reason) (e : TapeEnds) :
    (enterRewinding c e s).tray = s.tray ∧ (enterRewinding c e s).changer = s.changer := by simp [enterRewinding]

@[simp] theorem reportEnds_tray_changer (c : Reason) (e : TapeEnds) :
    (reportEnds c e s).tray = s.tray ∧ (reportEnds c e s).changer = s.changer := by
  unfold reportEnds
  split <;> simp

@[simp] theorem enterShow_tray_changer (q : MotionReq) (src : MotionSource) (e : TapeEnds) :
    (enterShow q src e s).tray = s.tray ∧ (enterShow q src e s).changer = s.changer := by
  unfold enterShow
  split <;> simp

@[simp] theorem handMotion_tray_changer (q : MotionReq) (src : MotionSource) (b : Bool) :
    (handMotion q src b s).tray = s.tray ∧ (handMotion q src b s).changer = s.changer := by
  unfold handMotion
  cases src <;> dsimp only <;> repeat' split
  all_goals simp

@[simp] theorem endSeek_tray_changer (o r : Reason) :
    (endSeek o r s).tray = s.tray ∧ (endSeek o r s).changer = s.changer := by
  obtain ⟨l, t, h, -⟩ := endSeek_spec o r s
  simp [h]

@[simp] theorem rewindUndone_tray_changer :
    (rewindUndone s).2.tray = s.tray ∧ (rewindUndone s).2.changer = s.changer := by
  unfold rewindUndone
  split <;> simp

@[simp] theorem decideRestart_tray_changer :
    (decideRestart s).tray = s.tray ∧ (decideRestart s).changer = s.changer := by
  unfold decideRestart
  repeat' split
  all_goals simp

@[simp] theorem startTimer_tray_changer (p : Nat) :
    (startTimer p s).tray = s.tray ∧ (startTimer p s).changer = s.changer := by
  unfold startTimer
  dsimp only
  repeat' split
  all_goals simp

end Sys2Proof.Machine
end

section
/-! ## The laws of tray and Changer -/

namespace Sys2Proof.Machine

/-! ### The laws block by block -/

/-- The law of the tray as one of the Tray Unit alone (R5, R8). -/
def TrayLaw (t : Tray) : Prop := t.slots.length = capacity t.code ∧ ∀ p, t.position = some p → p ≤ capacity t.code

/-- The law of the Changer under a tray of capacity `n`, in every moment of a step: the stages TARGET and LIGHT, which are over
at once, among them. -/
structure CycleLaw (n : Nat) (c : Changer) : Prop where
  queue : c.queue.length ≤ 6
  noTray : n = 0 → c.queue = [] ∧ c.stage = .idle
  idle : c.stage = .idle ↔ c.cycle = none
  motor : c.motor.isSome ↔ c.stage = .rotate
  arm : c.liftArm = true ↔ c.stage = .lift
  dark : c.stage = .dark → ∀ y, c.cycle = some y →
    (y.mode = .shutter → c.shutterOpen = false) ∧ (y.mode = .dissolve → c.claim = .requested)
  shut : c.stage = .lift ∨ c.stage = .rotate ∨ c.stage = .drop ∨ c.stage = .settle ∨ c.stage = .paused →
    c.shutterOpen = false ∨ c.claim = .held
  paused : c.pause = .paused → c.stage = .paused

/-- The law of the Changer between steps. -/
structure ChangerLaw (n : Nat) (c : Changer) : Prop extends CycleLaw n c where
  notTarget : c.stage ≠ .target
  notLight : c.stage ≠ .light

theorem trayLaw_iff (s : State) : trayLaw s ↔ TrayLaw s.tray := Iff.rfl

theorem changerLaw_iff (s : State) : changerLaw s ↔ ChangerLaw (capacity s.tray.code) s.changer := by
  constructor
  · rintro ⟨hq, hn, hi, hm, ha, hd, hs, ht, hl, hp⟩
    exact ⟨⟨hq, hn, hi, hm, ha, hd, hs, hp⟩, ht, hl⟩
  · rintro ⟨⟨hq, hn, hi, hm, ha, hd, hs, hp⟩, ht, hl⟩
    exact ⟨hq, hn, hi, hm, ha, hd, hs, ht, hl, hp⟩

/-- A tray and a Changer reached from `s` keep each of the laws that holds in `s`. -/
structure Keeps (s : State) (t : Tray) (c : Changer) : Prop where
  tray : TrayLaw s.tray → TrayLaw t
  cycle : CycleLaw (capacity s.tray.code) s.changer → CycleLaw (capacity t.code) c
  changer : ChangerLaw (capacity s.tray.code) s.changer → ChangerLaw (capacity t.code) c

@[simp] theorem Keeps.refl (s : State) : Keeps s s.tray s.changer := ⟨id, id, id⟩

theorem Keeps.trans {r s : State} {t : Tray} {c : Changer} (h : Keeps r s.tray s.changer) (g : Keeps s t c) :
    Keeps r t c := ⟨g.tray ∘ h.tray, g.cycle ∘ h.cycle, g.changer ∘ h.changer⟩

/-- Where the law between steps follows from the law of every moment, both are kept. -/
theorem Keeps.of_changerLaw {s : State} {t : Tray} {c : Changer} (ht : TrayLaw s.tray → TrayLaw t)
    (hc : CycleLaw (capacity s.tray.code) s.changer → ChangerLaw (capacity t.code) c) : Keeps s t c :=
  ⟨ht, fun h => (hc h).toCycleLaw, fun h => hc h.toCycleLaw⟩

/-- Where the stage stands, the law of every moment is enough. -/
theorem Keeps.of_stage_eq {s : State} {t : Tray} {c : Changer} (ht : TrayLaw s.tray → TrayLaw t)
    (hs : c.stage = s.changer.stage)
    (hc : CycleLaw (capacity s.tray.code) s.changer → CycleLaw (capacity t.code) c) : Keeps s t c :=
  ⟨ht, hc, fun h => ⟨hc h.toCycleLaw, hs ▸ h.notTarget, hs ▸ h.notLight⟩⟩

/-! ### The same tray turned -/

/-- The tray of `t` is the tray of `t0`, with its law kept. -/
def SameTray (t0 t : Tray) : Prop := t.code = t0.code ∧ (TrayLaw t0 → TrayLaw t)

@[simp] theorem SameTray.refl (t : Tray) : SameTray t t := ⟨rfl, id⟩

@[simp] theorem sameTray_search (t0 t : Tray) (k : Option Nat) (m1 m2 m3 : SlotSet) :
    SameTray t0 { code := t.code, position := t.position, search := k, slots := t.slots, map1 := m1, map2 := m2, map3 := m3 }
      ↔ SameTray t0 t := Iff.rfl

@[simp] theorem sameTray_unknown {t0 t : Tray} (k : Option Nat) (m1 m2 m3 : SlotSet) (h : SameTray t0 t) :
    SameTray t0 { code := t.code, position := none, search := k, slots := t.slots, map1 := m1, map2 := m2, map3 := m3 } :=
  ⟨h.1, fun l => ⟨(h.2 l).1, nofun⟩⟩

@[simp] theorem sameTray_gap {t0 t : Tray} (k : Option Nat) (m1 m2 m3 : SlotSet) (h : SameTray t0 t) :
    SameTray t0 { code := t.code, position := some 0, search := k, slots := t.slots, map1 := m1, map2 := m2, map3 := m3 } :=
  ⟨h.1, fun l => ⟨(h.2 l).1, fun p hp => by cases hp; exact Nat.zero_le _⟩⟩

/-! ### A cycle in progress -/

/-- A cycle runs with the lift arm at rest, from which any stage past DARK can be entered. -/
structure InCycle (n : Nat) (c : Changer) : Prop where
  cycle : c.cycle ≠ none
  seated : 0 < n
  queue : c.queue.length ≤ 6
  arm : c.liftArm = false
  pause : c.pause ≠ .paused

/-- The gate is behind a closed shutter or a held dark (R36). -/
def GateShut (c : Changer) : Prop := c.shutterOpen = false ∨ c.claim = .held

/-- A stage past DARK is lawful behind a shut gate, when motor, arm and pause agree with it. -/
theorem ChangerLaw.running {n : Nat} {c : Changer} (hn : 0 < n) (hq : c.queue.length ≤ 6) (hc : c.cycle ≠ none)
    (hs : c.stage = .lift ∨ c.stage = .rotate ∨ c.stage = .drop ∨ c.stage = .settle ∨ c.stage = .paused)
    (hm : c.motor.isSome ↔ c.stage = .rotate) (ha : c.liftArm = true ↔ c.stage = .lift) (hd : GateShut c)
    (hp : c.pause = .paused → c.stage = .paused) : ChangerLaw n c where
  queue := hq
  noTray h := absurd h (by omega)
  idle := by rcases hs with h | h | h | h | h <;> simp [h, hc]
  motor := hm
  arm := ha
  dark h := by rcases hs with g | g | g | g | g <;> simp [g] at h
  shut _ := hd
  paused := hp
  notTarget h := by rcases hs with g | g | g | g | g <;> simp [g] at h
  notLight h := by rcases hs with g | g | g | g | g <;> simp [g] at h

/-- A Changer at rest with an empty queue is lawful under any tray. -/
theorem ChangerLaw.atRest {n : Nat} {c : Changer} (hs : c.stage = .idle) (hc : c.cycle = none) (hm : c.motor = none)
    (ha : c.liftArm = false) (hp : c.pause ≠ .paused) (hq : c.queue.length ≤ 6) (hn : n = 0 → c.queue = []) :
    ChangerLaw n c := by
  constructor <;> [constructor; skip; skip] <;> simp_all

namespace CycleLaw

variable {n : Nat} {c : Changer} (h : CycleLaw n c)
include h

/-- Outside IDLE a tray is seated. -/
theorem seated (hs : c.stage ≠ .idle) : 0 < n := Nat.pos_of_ne_zero fun hn => hs (h.noTray hn).2

/-- Outside IDLE a cycle runs. -/
theorem running (hs : c.stage ≠ .idle) : c.cycle ≠ none := fun hc => hs (h.idle.mpr hc)

/-- Outside ROTATE the motor is at rest. -/
theorem motor_none (hs : c.stage ≠ .rotate) : c.motor = none := by
  cases hm : c.motor with
  | none => rfl
  | some d => exact absurd (h.motor.mp (by simp [hm])) hs

/-- Outside LIFT the arm is at rest. -/
theorem liftArm_false (hs : c.stage ≠ .lift) : c.liftArm = false := by
  cases ha : c.liftArm with
  | false => rfl
  | true => exact absurd (h.arm.mp ha) hs

/-- In IDLE the law of every moment is the law between steps. -/
theorem of_idle (hs : c.stage = .idle) : ChangerLaw n c := ⟨h, by simp [hs], by simp [hs]⟩

/-- The cycle of a stage past DARK, but LIFT and PAUSED. -/
theorem inCycle (hi : c.stage ≠ .idle) (hl : c.stage ≠ .lift) (hp : c.stage ≠ .paused) : InCycle n c :=
  ⟨h.running hi, h.seated hi, h.queue, h.liftArm_false hl, fun g => hp (h.paused g)⟩

end CycleLaw

variable (s : State)

/-! ### IDLE -/

@[simp] theorem toIdle_sameTray {t0 : Tray} (h : SameTray t0 s.tray) : SameTray t0 (toIdle s).tray := h

/-- The Changer back in IDLE is lawful when its queue is. -/
theorem toIdle_law (hq : s.changer.queue.length ≤ 6) (hn : capacity s.tray.code = 0 → s.changer.queue = []) :
    ChangerLaw (capacity (toIdle s).tray.code) (toIdle s).changer :=
  .atRest rfl rfl rfl rfl nofun hq hn

@[simp] theorem reportFailure_tray_changer (r : Reason) (k : Nat) :
    (reportFailure r k s).tray = s.tray ∧ (reportFailure r k s).changer = s.changer := by
  unfold reportFailure
  split <;> simp

@[simp] theorem failMove_sameTray {t0 : Tray} (r : Reason) (h : SameTray t0 s.tray) : SameTray t0 (failMove r s).tray := by
  simpa [failMove] using toIdle_sameTray _ (by simpa using h)

/-- A failed move leaves the Changer in IDLE. -/
theorem failMove_law (r : Reason) (hq : s.changer.queue.length ≤ 6) (hn : capacity s.tray.code = 0 → s.changer.queue = []) :
    ChangerLaw (capacity (failMove r s).tray.code) (failMove r s).changer := by
  have := toIdle_law (reportFailure r 0 s) (by simpa using hq) (by simpa using hn)
  simpa [failMove] using this

@[simp] theorem failEntries_tray_changer (r : Reason) (es : List MoveEntry) :
    (failEntries r es s).tray = s.tray ∧ (failEntries r es s).changer = s.changer := by
  induction es generalizing s with
  | nil => exact ⟨rfl, rfl⟩
  | cons e es ih => simp [failEntries, ih]

/-- A clearing of the queue leaves the tray alone, and of the Changer all but the queue. -/
theorem clearQueue_tray_changer (r : Reason) :
    (clearQueue r s).tray = s.tray ∧ (clearQueue r s).changer = { s.changer with queue := [] } := by simp [clearQueue]

/-! ### The stages past DARK -/

@[simp] theorem toDrop_sameTray {t0 : Tray} (h : SameTray t0 s.tray) : SameTray t0 (toDrop s).tray := by
  unfold toDrop
  dsimp only
  split <;> exact h

@[simp] theorem rotateTo_sameTray {t0 : Tray} (p t : Nat) (h : SameTray t0 s.tray) : SameTray t0 (rotateTo p t s).tray := by
  unfold rotateTo
  repeat' split
  all_goals simp [h]

@[simp] theorem searchFound_sameTray {t0 : Tray} (h : SameTray t0 s.tray) : SameTray t0 (searchFound s).tray := by
  have hg := sameTray_gap none s.tray.map1 s.tray.map2 s.tray.map3 h
  unfold searchFound
  dsimp only
  split
  · exact hg
  · split
    · exact rotateTo_sameTray _ _ _ hg
    · exact rotateTo_sameTray _ _ _ hg
    · split
      · exact failMove_sameTray _ _ hg
      · exact rotateTo_sameTray _ _ _ (by simpa using hg)

@[simp] theorem toRotate_sameTray {t0 : Tray} (h : SameTray t0 s.tray) : SameTray t0 (toRotate s).tray := by
  unfold toRotate
  repeat' split
  all_goals simp [h]

@[simp] theorem toLift_sameTray {t0 : Tray} (h : SameTray t0 s.tray) : SameTray t0 (toLift s).tray := by
  unfold toLift
  split <;> simp [h]

@[simp] theorem toDark_sameTray {t0 : Tray} (m : ChangeMode) (h : SameTray t0 s.tray) : SameTray t0 (toDark m s).tray := by
  unfold toDark
  dsimp only
  repeat' split
  all_goals simp [h]

variable {s}

theorem toSettle_law (h : InCycle (capacity s.tray.code) s.changer) (hd : GateShut s.changer)
    (hm : s.changer.motor = none) : ChangerLaw (capacity (toSettle s).tray.code) (toSettle s).changer :=
  .running h.seated h.queue h.cycle (by simp [toSettle]) (by simp [toSettle, hm]) (by simp [toSettle, h.arm]) hd
    (fun hp => absurd hp h.pause)

theorem toDrop_law (h : InCycle (capacity s.tray.code) s.changer) (hd : GateShut s.changer) :
    ChangerLaw (capacity (toDrop s).tray.code) (toDrop s).changer := by
  unfold toDrop
  dsimp only
  split
  · exact toSettle_law ⟨h.cycle, h.seated, h.queue, h.arm, h.pause⟩ hd rfl
  · exact .running h.seated h.queue h.cycle (by simp) (by simp) (by simp [h.arm]) hd (fun hp => absurd hp h.pause)

theorem toPaused_law (h : InCycle (capacity s.tray.code) s.changer) (hd : GateShut s.changer) :
    ChangerLaw (capacity (toPaused s).tray.code) (toPaused s).changer :=
  .running h.seated h.queue h.cycle (by simp [toPaused]) (by simp [toPaused]) (by simp [toPaused, h.arm]) hd (fun _ => rfl)

theorem driveMotor_law (dir : Turn) (h : InCycle (capacity s.tray.code) s.changer) (hd : GateShut s.changer) :
    ChangerLaw (capacity (driveMotor dir s).tray.code) (driveMotor dir s).changer :=
  .running h.seated h.queue h.cycle (by simp [driveMotor]) (by simp [driveMotor]) (by simp [driveMotor, h.arm]) hd
    (fun hp => absurd hp h.pause)

theorem rotateTo_law (p t : Nat) (h : InCycle (capacity s.tray.code) s.changer) (hd : GateShut s.changer) :
    ChangerLaw (capacity (rotateTo p t s).tray.code) (rotateTo p t s).changer := by
  unfold rotateTo
  split
  · exact toDrop_law h hd
  · split
    · exact toPaused_law h hd
    · exact driveMotor_law _ h hd

/-- A new target leaves the cycle in progress. -/
theorem InCycle.setTarget (t : Option Nat) (h : InCycle (capacity s.tray.code) s.changer) :
    InCycle (capacity (setTarget t s).tray.code) (setTarget t s).changer :=
  ⟨by simpa [Machine.setTarget] using h.cycle, h.seated, h.queue, h.arm, h.pause⟩

theorem searchFound_law (h : InCycle (capacity s.tray.code) s.changer) (hd : GateShut s.changer) :
    ChangerLaw (capacity (searchFound s).tray.code) (searchFound s).changer := by
  unfold searchFound
  dsimp only
  split
  · next hc => exact absurd hc h.cycle
  · split
    · exact rotateTo_law _ _ h hd
    · exact rotateTo_law _ _ (InCycle.setTarget _ h) hd
    · split
      · exact failMove_law _ _ h.queue (fun hn => absurd h.seated (by simp [hn]))
      · exact rotateTo_law _ _ (InCycle.setTarget _ (by simpa using h)) ((by simpa [GateShut, setTarget] using hd))

theorem toRotate_law (h : InCycle (capacity s.tray.code) s.changer) (hd : GateShut s.changer) :
    ChangerLaw (capacity (toRotate s).tray.code) (toRotate s).changer := by
  unfold toRotate
  split
  · next hc => exact absurd hc h.cycle
  · split
    · exact toDrop_law h hd
    · split
      · exact rotateTo_law _ _ h hd
      · exact rotateTo_law _ _ h hd
      · split
        · exact toPaused_law h hd
        · split
          · exact searchFound_law h hd
          · exact driveMotor_law _ h hd

theorem toLift_law (h : InCycle (capacity s.tray.code) s.changer) (hd : GateShut s.changer)
    (hm : s.changer.motor = none) : ChangerLaw (capacity (toLift s).tray.code) (toLift s).changer := by
  unfold toLift
  split
  · exact toRotate_law h hd
  · exact .running h.seated h.queue h.cycle (by simp) (by simp [hm]) (by simp) hd (fun hp => absurd hp h.pause)

/-! ### DARK -/

/-- DARK is lawful when the latched mode's darkening stands: the shutter closed, or the claim REQUESTED. -/
theorem ChangerLaw.darkening {n : Nat} {c : Changer} {y : Cycle} (h : InCycle n c) (hs : c.stage = .dark)
    (hm : c.motor = none) (hy : c.cycle = some y)
    (hd : (y.mode = .shutter → c.shutterOpen = false) ∧ (y.mode = .dissolve → c.claim = .requested)) : ChangerLaw n c where
  queue := h.queue
  noTray hn := absurd h.seated (by simp [hn])
  idle := by simp [hs, hy]
  motor := by simp [hs, hm]
  arm := by simp [hs, h.arm]
  dark _ z hz := by
    cases hy.symm.trans hz
    exact hd
  shut := by simp [hs]
  paused hp := absurd hp h.pause
  notTarget := by simp [hs]
  notLight := by simp [hs]

theorem toDark_law {y : Cycle} (h : InCycle (capacity s.tray.code) s.changer) (hm : s.changer.motor = none)
    (hy : s.changer.cycle = some y) :
    ChangerLaw (capacity (toDark y.mode s).tray.code) (toDark y.mode s).changer := by
  cases hmode : y.mode with
  | shutter =>
    unfold toDark
    dsimp only
    split
    · exact .darkening (y := y) ⟨h.cycle, h.seated, h.queue, h.arm, h.pause⟩ rfl hm hy (by simp [hmode])
    · next ho => exact toLift_law h (.inl (by simpa using ho)) hm
  | dissolve =>
    unfold toDark
    dsimp only
    split
    · next hc => exact toLift_law h (.inr hc) hm
    · next hc =>
      exact .darkening (y := y) ⟨h.cycle, h.seated, h.queue, h.arm, h.pause⟩ rfl hm hy (by simp [hmode, hc])
    · split
      · refine toLift_law ?_ (.inr rfl) ?_
        · simpa using ⟨h.cycle, h.seated, h.queue, h.arm, h.pause⟩
        · simpa using hm
      · refine .darkening (y := y) ?_ ?_ ?_ ?_ ?_
        · simpa using ⟨h.cycle, h.seated, h.queue, h.arm, h.pause⟩
        · simp
        · simpa using hm
        · simpa using hy
        · simp [hmode]

end Sys2Proof.Machine
end

section
/-! ## Starts, ends and events of the cycle keep the laws -/

namespace Sys2Proof.Machine

variable {s s0 : State}

/-! ### TARGET and the start of cycles -/

theorem targetOf_tray_changer {m : Move} {t : Option Nat} {u : State} (h : targetOf m s = .inr (t, u)) :
    u.tray = s.tray ∧ u.changer = s.changer := by
  unfold targetOf at h
  split at h
  · split at h
    · cases h
    · cases h; exact ⟨rfl, rfl⟩
  · split at h
    · cases h
    · split at h <;> cases h <;> simp

theorem runEntry_sameTray (e : MoveEntry) : SameTray s.tray (runEntry e s).tray := by
  unfold runEntry
  dsimp only
  split
  · exact failMove_sameTray _ _ (.refl _)
  · next ht => exact toDark_sameTray _ _ (by simp [targetOf_tray_changer ht])

/-- A lawful IDLE with a seated tray starts a cycle lawfully. -/
theorem runEntry_law (e : MoveEntry) (h : ChangerLaw (capacity s.tray.code) s.changer) (hi : s.changer.stage = .idle)
    (hn : 0 < capacity s.tray.code) : ChangerLaw (capacity (runEntry e s).tray.code) (runEntry e s).changer := by
  have hm := h.motor_none (by simp [hi])
  have ha := h.liftArm_false (by simp [hi])
  have hp : s.changer.pause ≠ .paused := fun g => by simpa [hi] using h.paused g
  unfold runEntry
  dsimp only
  split
  · exact failMove_law _ _ h.queue (fun g => absurd hn (by simp [g]))
  · next t u ht =>
    obtain ⟨htray, hchg⟩ := targetOf_tray_changer ht
    have hc : InCycle (capacity (setTarget t u).tray.code) (setTarget t u).changer := by
      constructor <;> simp [setTarget, htray, hchg, hn, h.queue, ha, hp]
    exact toDark_law (y := { freshCycle e s.items.changeMode with target := t }) hc (by simp [setTarget, hchg, hm])
      (by simp [setTarget, hchg])

/-- The queue of a lawful Changer under a seated tray is any of at most six entries. -/
theorem ChangerLaw.withQueue {n : Nat} {c : Changer} (h : ChangerLaw n c) (hn : 0 < n) {q : List MoveEntry}
    (hq : q.length ≤ 6) : ChangerLaw n { c with queue := q } :=
  ⟨⟨hq, fun g => absurd hn (by simp [g]), h.idle, h.motor, h.arm, h.dark, h.shut, h.paused⟩, h.notTarget, h.notLight⟩

/-- Cycles started one after another from a lawful IDLE keep the tray and end lawfully. -/
theorem startCycles_law (es : List MoveEntry) (h : ChangerLaw (capacity s.tray.code) s.changer)
    (hi : s.changer.stage = .idle) (hn : 0 < capacity s.tray.code) (hq : es.length ≤ 6) :
    ChangerLaw (capacity (startCycles es s).tray.code) (startCycles es s).changer := by
  induction es generalizing s with
  | nil => exact h
  | cons e rest ih =>
    have hr : rest.length ≤ 6 := Nat.le_of_succ_le hq
    have law := runEntry_law (s := { s with changer.queue := rest }) e (h.withQueue hn hr) hi hn
    have same := (runEntry_sameTray (s := { s with changer.queue := rest }) e).1
    unfold startCycles
    dsimp only
    split
    · next hidle => exact ih law hidle (by simpa [same] using hn) hr
    · exact law

theorem startCycles_sameTray (es : List MoveEntry) {t0 : Tray} (h : SameTray t0 s.tray) :
    SameTray t0 (startCycles es s).tray := by
  induction es generalizing s with
  | nil => exact h
  | cons e rest ih =>
    have run := runEntry_sameTray (s := { s with changer.queue := rest }) e
    have same : SameTray t0 (runEntry e { s with changer.queue := rest }).tray :=
      ⟨run.1.trans h.1, fun l => run.2 (h.2 l)⟩
    unfold startCycles
    dsimp only
    split
    · exact ih same
    · exact same

theorem startReady_sameTray {t0 : Tray} (h : SameTray t0 s.tray) : SameTray t0 (startReady s).tray := by
  unfold startReady
  split
  · exact startCycles_sameTray _ h
  · exact h

theorem traySeated_iff : traySeated s = true ↔ 0 < capacity s.tray.code := by
  simp only [traySeated, decide_eq_true_eq]
  rfl

/-- What a start needs, the Changer in IDLE under a seated tray among it (R20). -/
theorem mayStart_iff : mayStart s = true ↔
    s.changer.stage = .idle ∧ 0 < capacity s.tray.code ∧ s.heat.power = .active ∧ changerFault s = false := by
  simp [mayStart, traySeated_iff, and_assoc]

@[simp] theorem startReady_keeps (h : Keeps s0 s.tray s.changer) :
    Keeps s0 (startReady s).tray (startReady s).changer := by
  refine h.trans ?_
  by_cases hm : mayStart s = true
  · obtain ⟨hi, hn, -, -⟩ := mayStart_iff.mp hm
    refine .of_changerLaw (startReady_sameTray (.refl _)).2 fun l => ?_
    simpa [startReady, hm] using startCycles_law s.changer.queue (l.of_idle hi) hi hn l.queue
  · simp [startReady, hm]

/-- A Changer that is not IDLE starts nothing. -/
theorem startReady_busy (h : s.changer.stage ≠ .idle) : startReady s = s := by
  simp [startReady, mayStart, h]

/-! ### Fields the law does not read -/

section Unread

variable {n : Nat} {c : Changer} (x : Nat) (g : Gate) (b : Bool) (w : Option Nat)

/-- The extension count, the gate, the seat window and the stage window are no part of the law. -/
theorem CycleLaw.unread (h : CycleLaw n c) :
    CycleLaw n { c with extension := x, gate := g, seatWindow := b, window := w } :=
  ⟨h.queue, h.noTray, h.idle, h.motor, h.arm, h.dark, h.shut, h.paused⟩

theorem ChangerLaw.unread (h : ChangerLaw n c) :
    ChangerLaw n { c with extension := x, gate := g, seatWindow := b, window := w } :=
  ⟨h.toCycleLaw.unread x g b w, h.notTarget, h.notLight⟩

theorem keeps_unread {t : Tray} (h : Keeps s0 t c) :
    Keeps s0 t { c with extension := x, gate := g, seatWindow := b, window := w } :=
  ⟨h.tray, fun l => (h.cycle l).unread x g b w, fun l => (h.changer l).unread x g b w⟩

end Unread

/-- A stage entry from a lawful Changer keeps both laws. -/
theorem Keeps.of_sameTray {t : Tray} {c : Changer} (ht : SameTray s.tray t)
    (hc : CycleLaw (capacity s.tray.code) s.changer → ChangerLaw (capacity t.code) c) : Keeps s t c :=
  .of_changerLaw ht.2 hc

/-! ### Dark reached -/

/-- The claim once dark is reached: REQUESTED becomes HELD (R36). -/
def darkAnswered (s : State) : State :=
  { s with
    lamp.darkWaiting := false
    changer.claim := if s.changer.claim = .requested then .held else s.changer.claim }

/-- Outside the DARK of a DISSOLVE cycle a claim made HELD shuts the gate no less. -/
theorem darkAnswered_keeps (h : ∀ c, s.changer.stage = .dark → s.changer.cycle = some c → c.mode ≠ .dissolve) :
    Keeps s (darkAnswered s).tray (darkAnswered s).changer := by
  refine .of_stage_eq id rfl fun l => ⟨l.queue, l.noTray, l.idle, l.motor, l.arm, fun hs y hy => ?_, fun hs => ?_, l.paused⟩
  · exact ⟨(l.dark hs y hy).1, fun hm => absurd hm (h y hs hy)⟩
  · exact (l.shut hs).imp_right fun hc => by simp [darkAnswered, hc]

@[simp] theorem darkReached_keeps (h : Keeps s0 s.tray s.changer) : Keeps s0 (darkReached s).tray (darkReached s).changer := by
  refine h.trans ?_
  unfold darkReached
  dsimp only
  split
  · next c hs hc =>
    split
    · next hmode =>
      have lift : Keeps s (toLift (darkAnswered s)).tray (toLift (darkAnswered s)).changer :=
        .of_sameTray (toLift_sameTray _ (.refl _)) fun l => by
          have ic := l.inCycle (by simp [hs]) (by simp [hs]) (by simp [hs])
          exact toLift_law ⟨ic.cycle, ic.seated, ic.queue, ic.arm, ic.pause⟩
            (.inr (by simp [darkAnswered, (l.dark hs c hc).2 hmode])) (l.motor_none (by simp [hs]))
      exact startReady_keeps lift
    · next hmode =>
      exact darkAnswered_keeps fun y _ hy => by cases hc.symm.trans hy; exact hmode
  · next hno => exact darkAnswered_keeps fun y hs hy => (hno y hs hy).elim

@[simp] theorem darkTest_keeps (h : Keeps s0 s.tray s.changer) : Keeps s0 (darkTest s).tray (darkTest s).changer := by
  unfold darkTest
  split
  · exact darkReached_keeps h
  · exact h

theorem withDarkTest_keeps (f : State → State) (h : Keeps s0 (f s).tray (f s).changer) :
    Keeps s0 (withDarkTest f s).tray (withDarkTest f s).changer := by
  unfold withDarkTest
  split
  · exact h
  · exact darkTest_keeps h

/-! ### The queue -/

@[simp] theorem clearQueue_keeps (r : Reason) (h : Keeps s0 s.tray s.changer) :
    Keeps s0 (clearQueue r s).tray (clearQueue r s).changer := by
  obtain ⟨ht, hc⟩ := clearQueue_tray_changer s r
  rw [ht, hc]
  exact h.trans (.of_stage_eq id rfl fun l =>
    ⟨Nat.zero_le _, fun hn => ⟨rfl, (l.noTray hn).2⟩, l.idle, l.motor, l.arm, l.dark, l.shut, l.paused⟩)

/-- An offer that no check refuses finds a seated tray. -/
theorem seated_of_offerRefusal {e : MoveEntry} (h : offerRefusal e s = none) : 0 < capacity s.tray.code := by
  unfold offerRefusal at h
  split at h
  · cases h
  · split at h
    · cases h
    · next ht => exact traySeated_iff.mp (by simpa using ht)

/-- A merge takes place with the last entry of the queue. -/
theorem getLast_of_mergeSum {e last : MoveEntry} {sum : Int} (h : mergeSum e s = some (last, sum)) :
    s.changer.queue.getLast? = some last := by
  unfold mergeSum at h
  split at h
  · next hl =>
    split at h
    · split at h <;> cases h
      exact hl
    · cases h
  · cases h

/-- A queue of at most six entries under a seated tray is lawful. -/
theorem Keeps.withQueue {t : Tray} {c : Changer} {q : List MoveEntry} (h : Keeps s0 t c) (hn : 0 < capacity t.code)
    (hq : c.queue.length ≤ 6 → q.length ≤ 6) : Keeps s0 t { c with queue := q } :=
  have law : CycleLaw (capacity t.code) c → CycleLaw (capacity t.code) { c with queue := q } := fun l =>
    ⟨hq l.queue, fun g => absurd hn (by simp [g]), l.idle, l.motor, l.arm, l.dark, l.shut, l.paused⟩
  ⟨h.tray, law ∘ h.cycle, fun g => ⟨law (h.changer g).toCycleLaw, (h.changer g).notTarget, (h.changer g).notLight⟩⟩

theorem mergeEntry_keeps {last : MoveEntry} (sum : Int) (tags : List Byte) (h : Keeps s0 s.tray s.changer)
    (hn : 0 < capacity s.tray.code) (hl : s.changer.queue.getLast? = some last) :
    Keeps s0 (mergeEntry last sum tags s).tray (mergeEntry last sum tags s).changer := by
  have hpos : 0 < s.changer.queue.length := List.length_pos_of_ne_nil (by rintro g; simp [g] at hl)
  unfold mergeEntry
  dsimp only
  split
  · simpa using h.withQueue hn (q := s.changer.queue.dropLast) (by simp; omega)
  · exact h.withQueue hn (by simp; omega)

@[simp] theorem offerMove_keeps (e : MoveEntry) (h : Keeps s0 s.tray s.changer) :
    Keeps s0 (offerMove e s).2.tray (offerMove e s).2.changer := by
  unfold offerMove
  split
  · exact h
  · next hr =>
    have hn := seated_of_offerRefusal hr
    split
    · next hm => exact startReady_keeps (mergeEntry_keeps _ _ h hn (getLast_of_mergeSum hm))
    · split
      · next hlen => exact startReady_keeps (h.withQueue hn (by simp; omega))
      · exact h

@[simp] theorem offerKeyMove_keeps (k : Key) (r : Remote) (m : Move) (h : Keeps s0 s.tray s.changer) :
    Keeps s0 (offerKeyMove k r m s).tray (offerKeyMove k r m s).changer := by
  have ho := offerMove_keeps (plainMove .remote m) h
  unfold offerKeyMove
  split <;> simp_all [ignoreKey]

@[simp] theorem offerCueMove_keeps (i : Nat) (m : Move) (h : Keeps s0 s.tray s.changer) :
    Keeps s0 (offerCueMove i m s).tray (offerCueMove i m s).changer := by
  have ho := offerMove_keeps (plainMove .cue m) h
  unfold offerCueMove
  split <;> simp_all

@[simp] theorem offerTimerMove_keeps (h : Keeps s0 s.tray s.changer) :
    Keeps s0 (offerTimerMove s).tray (offerTimerMove s).changer := by
  have ho := offerMove_keeps (plainMove .timer (.step 1)) h
  unfold offerTimerMove
  split <;> simp_all

@[simp] theorem offerChaseMove_keeps (o : Option ChaseOwner) (t : Nat) (h : Keeps s0 s.tray s.changer) :
    Keeps s0 (offerChaseMove o t s).tray (offerChaseMove o t s).changer := by
  have ho := offerMove_keeps { source := .chase, move := .goto t, tags := [], owner := o } h
  unfold offerChaseMove
  dsimp only
  split <;> simp_all

@[simp] theorem hostMove_keeps (m : Move) (tag : Byte) (h : Keeps s0 s.tray s.changer) :
    Keeps s0 (hostMove m tag s).2.tray (hostMove m tag s).2.changer := by
  have ho := offerMove_keeps { source := .host, move := m, tags := [tag], owner := none } h
  unfold hostMove
  split <;> simp_all

/-! ### The end of a cycle -/

/-- What ends a cycle in IDLE is lawful where its queue is. -/
theorem toIdle_keeps (h : Keeps s0 s.tray s.changer) : Keeps s0 (toIdle s).tray (toIdle s).changer :=
  h.trans (.of_changerLaw id fun l => toIdle_law s l.queue fun hn => (l.noTray hn).1)

/-- A changer fault leaves the Changer in IDLE, motor and arm at rest, the queue empty (R37). -/
@[simp] theorem changerFails_keeps (f : FaultKind) (r : Reason) (h : Keeps s0 s.tray s.changer) :
    Keeps s0 (changerFails f r s).tray (changerFails f r s).changer := by
  refine h.trans (.of_changerLaw (fun l => ?_) fun l => ?_)
  · refine ⟨by simpa [changerFails, toIdle, clearQueue_tray_changer] using l.1, fun p hp => ?_⟩
    simp only [changerFails, sleepTest_tray_changer, toIdle, clearQueue_tray_changer,
      reportFailure_tray_changer, raiseFault_tray_changer] at hp ⊢
    split at hp
    · cases hp
    · exact l.2 p hp
  · unfold changerFails
    simp only [sleepTest_tray_changer]
    exact toIdle_law _ (by simp [clearQueue_tray_changer]) (by simp [clearQueue_tray_changer])

@[simp] theorem doneStage_tray_changer (s : State) : (doneStage s).tray = s.tray ∧ (doneStage s).changer = s.changer := by
  unfold doneStage
  split <;> simp

/-- LIGHT sets the stage, the shutter and the claim, and nothing else of tray and Changer (R34). -/
theorem lightStage_tray_changer (s : State) :
    (lightStage s).tray = s.tray ∧
      ∃ o cl, (lightStage s).changer = { s.changer with stage := .light, shutterOpen := o, claim := cl } := by
  unfold lightStage
  split
  · dsimp only
    split
    · exact ⟨rfl, _, _, rfl⟩
    · exact ⟨by simp, true, .clear, by simp⟩
  · exact ⟨rfl, _, _, rfl⟩

/-- LIGHT and DONE cut short keep the tray's law and end in a lawful IDLE (R42). -/
theorem finishAborted_keeps (h : Keeps s0 s.tray s.changer) :
    Keeps s0 (finishAborted s).tray (finishAborted s).changer := by
  obtain ⟨ht, o, cl, hc⟩ := lightStage_tray_changer s
  have same : (finishAborted s).tray = { s.tray with search := none } := by simp [finishAborted, toIdle, ht]
  refine h.trans (.of_changerLaw (fun l => same ▸ l) fun l => ?_)
  unfold finishAborted
  simp only [sleepTest_tray_changer]
  exact toIdle_law _ (by simpa [hc] using l.queue) (by simpa [hc, ht] using fun hn => (l.noTray hn).1)

/-- LIGHT entered from SETTLE keeps the law of every moment. -/
theorem lightStage_law {n : Nat} (l : CycleLaw n s.changer) (hs : s.changer.stage = .settle) :
    CycleLaw n (lightStage s).changer := by
  obtain ⟨-, o, cl, hc⟩ := lightStage_tray_changer s
  have hn := l.seated (by simp [hs])
  rw [hc]
  exact ⟨l.queue, fun g => absurd hn (by simp [g]), by simpa using l.running (by simp [hs]),
    by simp [l.motor_none (by simp [hs])], by simp [l.liftArm_false (by simp [hs])], nofun, by simp,
    fun g => absurd (l.paused g) (by simp [hs])⟩

/-! ### Reports and windows of the stages -/

@[simp] theorem shutterCloses_keeps (h : Keeps s0 s.tray s.changer) :
    Keeps s0 (shutterCloses s).tray (shutterCloses s).changer := by
  refine h.trans ?_
  unfold shutterCloses
  split
  · next c hs hc =>
    split
    · next hmode =>
      refine startReady_keeps (.of_sameTray (toLift_sameTray _ (.refl _)) fun l => ?_)
      exact toLift_law (l.inCycle (by simp [hs]) (by simp [hs]) (by simp [hs])) (.inl ((l.dark hs c hc).1 hmode))
        (l.motor_none (by simp [hs]))
    · exact .refl s
  · exact .refl s

@[simp] theorem liftReported_keeps (h : Keeps s0 s.tray s.changer) :
    Keeps s0 (liftReported s).tray (liftReported s).changer := by
  refine h.trans ?_
  unfold liftReported
  split
  · next hs =>
    refine startReady_keeps (.of_sameTray (toRotate_sameTray _ (.refl _)) fun l => ?_)
    exact toRotate_law ⟨l.running (by simp [hs]), l.seated (by simp [hs]), l.queue, rfl,
      fun g => by simpa [hs] using l.paused g⟩ (l.shut (by simp [hs]))
  · exact .refl s

@[simp] theorem liftExpires_keeps (h : Keeps s0 s.tray s.changer) :
    Keeps s0 (liftExpires s).tray (liftExpires s).changer := by
  unfold liftExpires
  split <;> simp [h]

@[simp] theorem stallExpires_keeps (h : Keeps s0 s.tray s.changer) :
    Keeps s0 (stallExpires s).tray (stallExpires s).changer := by
  unfold stallExpires
  split <;> simp [h]

/-- A pulse's position lies in the tray (R5). -/
theorem pulsed_le (n p : Nat) (dir : Turn) : pulsed n p dir ≤ n := by
  cases dir <;> exact Nat.lt_succ_iff.mp (Nat.mod_lt _ n.succ_pos)

theorem countPulse_sameTray (p : Nat) (dir : Turn) (mark : Bool) (s : State) :
    SameTray s.tray (countPulse p dir mark s).tray := by
  unfold countPulse
  dsimp only
  split
  · simp
  · exact ⟨rfl, fun l => ⟨l.1, fun q hq => by cases hq; exact pulsed_le _ _ _⟩⟩

@[simp] theorem countPulse_changer (p : Nat) (dir : Turn) (mark : Bool) (s : State) :
    (countPulse p dir mark s).changer = s.changer := by
  unfold countPulse
  dsimp only
  split <;> simp

/-- The motor runs in ROTATE alone, behind a shut gate. -/
theorem CycleLaw.rotating {n : Nat} {c : Changer} {dir : Turn} (l : CycleLaw n c) (hm : c.motor = some dir) :
    InCycle n c ∧ GateShut c := by
  have hs := l.motor.mp (by simp [hm])
  exact ⟨l.inCycle (by simp [hs]) (by simp [hs]) (by simp [hs]), l.shut (by simp [hs])⟩

theorem rotationPulse_keeps {dir : Turn} (h : Keeps s0 s.tray s.changer) (hm : s.changer.motor = some dir) :
    Keeps s0 (rotationPulse s).tray (rotationPulse s).changer := by
  refine h.trans ?_
  unfold rotationPulse
  split
  · split
    · refine .of_sameTray (toDrop_sameTray _ (by simp)) fun l => ?_
      exact toDrop_law (InCycle.setTarget _ (l.rotating hm).1) (l.rotating hm).2
    · split
      · exact .of_sameTray (toDrop_sameTray _ (.refl _)) fun l => toDrop_law (l.rotating hm).1 (l.rotating hm).2
      · split
        · exact .of_sameTray (.refl _) fun l => toPaused_law (l.rotating hm).1 (l.rotating hm).2
        · exact keeps_unread _ _ _ _ (.refl s)
  · exact .refl s

theorem searchPulse_keeps {dir : Turn} (mark : Bool) (h : Keeps s0 s.tray s.changer) (hm : s.changer.motor = some dir) :
    Keeps s0 (searchPulse mark s).tray (searchPulse mark s).changer := by
  refine h.trans ?_
  unfold searchPulse
  dsimp only
  split
  · exact .of_sameTray (searchFound_sameTray _ (.refl _)) fun l => searchFound_law (l.rotating hm).1 (l.rotating hm).2
  · split
    · exact changerFails_keeps _ _ (.refl s)
    · split
      · exact .of_sameTray (by simp) fun l => toPaused_law (s := { s with tray.search := _ }) (l.rotating hm).1 (l.rotating hm).2
      · exact keeps_unread _ _ _ _ ⟨id, id, id⟩

/-- A tray with its position lost keeps the laws. -/
theorem Keeps.unknown {t : Tray} {c : Changer} (h : Keeps s0 t c) : Keeps s0 { t with position := none } c :=
  ⟨fun l => ⟨(h.tray l).1, nofun⟩, h.cycle, h.changer⟩

theorem indexPulseEvent_keeps (mark : Bool) (h : Keeps s0 s.tray s.changer) :
    Keeps s0 (indexPulseEvent mark s).tray (indexPulseEvent mark s).changer := by
  refine h.trans ?_
  unfold indexPulseEvent
  dsimp only
  split
  · exact (Keeps.refl s).unknown
  · next dir p hm hp =>
    refine startReady_keeps (rotationPulse_keeps (dir := dir) ?_ (by simpa using hm))
    have same := countPulse_sameTray p dir mark { s with lines.homeMark := mark }
    simp only [countPulse_changer]
    exact ⟨same.2, by simp [same.1], by simp [same.1]⟩
  · next dir hm hp => exact startReady_keeps (searchPulse_keeps (dir := dir) mark (.refl s) hm)

end Sys2Proof.Machine
end

section
/-! ## Drops, aborts, removal and chases keep the laws -/

namespace Sys2Proof.Machine

variable {s s0 : State}

/-! ### DROP -/

/-- What a drop teaches keeps a record for each slot (R9). -/
theorem learn_sameTray (pres : Presence) (shown : Bool) (s : State) : SameTray s.tray (learn pres shown s).tray := by
  unfold learn
  split
  · split
    · exact ⟨rfl, fun l => ⟨by simpa [setSlot] using l.1, l.2⟩⟩
    · exact .refl _
  · exact .refl _

@[simp] theorem learn_changer (pres : Presence) (shown : Bool) (s : State) :
    (learn pres shown s).changer = s.changer := by
  unfold learn
  repeat' split
  all_goals rfl

/-- What a drop teaches keeps the laws. -/
theorem learn_keeps (pres : Presence) (shown : Bool) (h : Keeps s0 s.tray s.changer) :
    Keeps s0 (learn pres shown s).tray (learn pres shown s).changer := by
  have same := learn_sameTray pres shown s
  rw [learn_changer]
  exact ⟨same.2 ∘ h.tray, by rw [same.1]; exact h.cycle, by rw [same.1]; exact h.changer⟩

@[simp] theorem dropReported_keeps (h : Keeps s0 s.tray s.changer) :
    Keeps s0 (dropReported s).tray (dropReported s).changer := by
  unfold dropReported
  split
  · split
    · exact h
    · exact keeps_unread _ _ _ _ h
  · exact keeps_unread _ _ _ _ h

/-- In DROP the gate is shut, motor and arm at rest. -/
theorem CycleLaw.dropping {n : Nat} {c : Changer} (l : CycleLaw n c) (hs : c.stage = .drop) :
    InCycle n c ∧ GateShut c ∧ c.motor = none :=
  ⟨l.inCycle (by simp [hs]) (by simp [hs]) (by simp [hs]), l.shut (by simp [hs]), l.motor_none (by simp [hs])⟩

/-- SETTLE entered from DROP keeps the laws. -/
theorem toSettle_keeps (h : Keeps s0 s.tray s.changer) (hs : s.changer.stage = .drop) :
    Keeps s0 (toSettle s).tray (toSettle s).changer :=
  h.trans (.of_sameTray (.refl _) fun l =>
    have ⟨hc, hd, hm⟩ := l.dropping hs
    toSettle_law hc hd hm)

@[simp] theorem seatReported_keeps (h : Keeps s0 s.tray s.changer) :
    Keeps s0 (seatReported s).tray (seatReported s).changer := by
  unfold seatReported
  split
  · next hs => exact toSettle_keeps (learn_keeps _ _ (keeps_unread _ _ _ _ h)) (by simpa using hs.1)
  · exact h

theorem extend_keeps (n : Int) (p : Nat) (h : Keeps s0 s.tray s.changer) (hs : s.changer.stage = .drop) :
    Keeps s0 (extend n p s).tray (extend n p s).changer := by
  refine h.trans ?_
  unfold extend
  dsimp only
  have fails : Keeps s (failMove .noEligible { s with changer.extension := s.changer.extension + 1 }).tray
      (failMove .noEligible { s with changer.extension := s.changer.extension + 1 }).changer :=
    .of_sameTray (failMove_sameTray _ _ (.refl _)) fun l => failMove_law _ _ l.queue fun hn => (l.noTray hn).1
  split
  · exact fails
  · split
    · exact fails
    · split
      · exact toSettle_keeps (by simpa using keeps_unread _ _ _ _ (.refl s)) (by simpa using hs)
      · refine .of_sameTray (toLift_sameTray _ (.refl _)) fun l => ?_
        obtain ⟨hc, hd, hm⟩ := l.dropping hs
        exact toLift_law (InCycle.setTarget (s := { s with changer.extension := _, changer.window := none }) _
          ⟨hc.cycle, hc.seated, hc.queue, hc.arm, hc.pause⟩) hd hm

theorem afterEmptyDrop_keeps (h : Keeps s0 s.tray s.changer) (hs : s.changer.stage = .drop) :
    Keeps s0 (afterEmptyDrop s).tray (afterEmptyDrop s).changer := by
  have settles := toSettle_keeps h hs
  unfold afterEmptyDrop
  split
  · split
    · split
      · exact extend_keeps _ _ h hs
      · exact settles
    · exact settles
  · exact settles

@[simp] theorem dropExpires_keeps (h : Keeps s0 s.tray s.changer) :
    Keeps s0 (dropExpires s).tray (dropExpires s).changer := by
  unfold dropExpires
  split
  · next hs =>
    exact startReady_keeps (afterEmptyDrop_keeps (learn_keeps _ _ (keeps_unread _ _ _ _ h)) (by simpa using hs.1))
  · exact h

@[simp] theorem seatExpires_keeps (h : Keeps s0 s.tray s.changer) :
    Keeps s0 (seatExpires s).tray (seatExpires s).changer := by
  unfold seatExpires
  split
  · exact changerFails_keeps _ _ (learn_keeps _ _ h)
  · exact h

/-! ### Pause, continue, abort -/

/-- A pause that is not PAUSED keeps the laws in any stage. -/
theorem keeps_pause {t : Tray} {c : Changer} {p : Pause} (h : Keeps s0 t c) (hp : p ≠ .paused) :
    Keeps s0 t { c with pause := p } :=
  have law : ∀ {n}, CycleLaw n c → CycleLaw n { c with pause := p } := fun l =>
    ⟨l.queue, l.noTray, l.idle, l.motor, l.arm, l.dark, l.shut, fun g => absurd g hp⟩
  ⟨h.tray, law ∘ h.cycle, fun g => ⟨law (h.changer g).toCycleLaw, (h.changer g).notTarget, (h.changer g).notLight⟩⟩

@[simp] theorem pauseCycle_keeps (h : Keeps s0 s.tray s.changer) :
    Keeps s0 (pauseCycle s).tray (pauseCycle s).changer := by
  unfold pauseCycle
  split
  · exact h
  · exact h
  · exact h
  · split
    · exact h
    · exact keeps_pause h (by simp)

/-- A PAUSED cycle, its pause taken off, stands behind a shut gate. -/
theorem CycleLaw.resumable {n : Nat} {c : Changer} (l : CycleLaw n c) (hs : c.stage = .paused) :
    InCycle n { c with pause := .clear } ∧ GateShut c :=
  ⟨⟨l.running (by simp [hs]), l.seated (by simp [hs]), l.queue, l.liftArm_false (by simp [hs]), by simp⟩, l.shut (by simp [hs])⟩

@[simp] theorem continueCycle_keeps (h : Keeps s0 s.tray s.changer) :
    Keeps s0 (continueCycle s).tray (continueCycle s).changer := by
  refine h.trans ?_
  unfold continueCycle
  split
  · exact .refl s
  · exact keeps_pause (.refl s) (by simp)
  · next hp =>
    refine startReady_keeps (.of_sameTray (toRotate_sameTray _ (.refl _)) fun l => ?_)
    obtain ⟨hc, hd⟩ := l.resumable (l.paused hp)
    exact toRotate_law hc hd

/-- A redirection changes the cycle's target and marks, and keeps its mode: the laws stand (R43). -/
theorem redirect_keeps {f : Cycle → Cycle} (hf : ∀ c, (f c).mode = c.mode) (h : Keeps s0 s.tray s.changer) :
    Keeps s0 (redirect f s).tray (redirect f s).changer := by
  refine h.trans (.of_stage_eq id rfl fun l => ⟨l.queue, l.noTray, ?_, l.motor, l.arm, fun hs y hy => ?_, l.shut, l.paused⟩)
  · simpa [redirect] using l.idle
  · obtain ⟨c, hc, rfl⟩ := Option.map_eq_some_iff.mp hy
    rw [hf]
    exact l.dark hs c hc

/-- A redirection leaves the cycle in progress. -/
theorem InCycle.redirect (f : Cycle → Cycle) (h : InCycle (capacity s.tray.code) s.changer) :
    InCycle (capacity (redirect f s).tray.code) (redirect f s).changer :=
  ⟨by simpa [Machine.redirect] using h.cycle, h.seated, h.queue, h.arm, h.pause⟩

theorem abortPaused_keeps (h : Keeps s0 s.tray s.changer) (hs : s.changer.stage = .paused) :
    Keeps s0 (abortPaused s).tray (abortPaused s).changer := by
  refine h.trans ?_
  unfold abortPaused
  split
  · refine .of_sameTray (toDrop_sameTray _ (.refl _)) fun l => ?_
    obtain ⟨hc, hd⟩ := l.resumable hs
    exact toDrop_law (InCycle.redirect (s := { s with changer.pause := .clear }) _ hc) hd
  · refine .of_sameTray (toRotate_sameTray _ (.refl _)) fun l => ?_
    obtain ⟨hc, hd⟩ := l.resumable hs
    exact toRotate_law (InCycle.redirect (s := { s with changer.pause := .clear }) _ hc) hd

@[simp] theorem abortCycle_keeps (h : Keeps s0 s.tray s.changer) :
    Keeps s0 (abortCycle s).tray (abortCycle s).changer := by
  unfold abortCycle
  split
  · exact h
  · split
    · exact h
    · split
      · exact h
      · exact startReady_keeps (finishAborted_keeps (redirect_keeps (fun _ => rfl) h))
      · exact startReady_keeps (finishAborted_keeps (redirect_keeps (fun _ => rfl) h))
      · exact redirect_keeps (fun _ => rfl) h
      · split <;> exact redirect_keeps (fun _ => rfl) h
      · next hs => exact startReady_keeps (abortPaused_keeps h hs)
      · exact redirect_keeps (fun _ => rfl) h
      · exact redirect_keeps (fun _ => rfl) h
      · exact redirect_keeps (fun _ => rfl) h

@[simp] theorem abortAll_keeps (h : Keeps s0 s.tray s.changer) :
    Keeps s0 (abortAll s).tray (abortAll s).changer :=
  abortCycle_keeps (keeps_pause (clearQueue_keeps .aborted h) (by simp))

@[simp] theorem changerStandby_keeps (h : Keeps s0 s.tray s.changer) :
    Keeps s0 (changerStandby s).tray (changerStandby s).changer := by
  have hq := clearQueue_keeps .notActive h
  unfold changerStandby
  dsimp only
  split
  · next hs => exact abortPaused_keeps hq hs
  · exact hq

/-! ### Removal and seating -/

/-- A removal leaves the Changer at rest with an empty queue, lawful under any tray (R3, R39). -/
theorem removeFromChanger_law (n : Nat) (l : CycleLaw (capacity s.tray.code) s.changer) :
    ChangerLaw n (removeFromChanger s).changer := by
  unfold removeFromChanger
  dsimp only
  split
  · next hs =>
    rw [(clearQueue_tray_changer s _).2]
    exact .atRest hs (l.idle.mp hs) (l.motor_none (by simp [hs])) (l.liftArm_false (by simp [hs]))
      (fun g => by simpa [hs] using l.paused g) (by simp) (by simp)
  · simp only [sleepTest_tray_changer]
    exact .atRest rfl rfl rfl rfl nofun (by simp [clearQueue_tray_changer]) (by simp [clearQueue_tray_changer])

/-- N fresh records, with the position lost or at the gap, make a lawful tray (R2, R3, R8). -/
theorem trayLaw_fresh {t : Tray} (hs : t.slots = freshSlots t.code) (hp : t.position = none ∨ t.position = some 0) :
    TrayLaw t := by
  refine ⟨by simp [hs, freshSlots], fun p h => ?_⟩
  rcases hp with g | g <;> cases g.symm.trans h
  exact Nat.zero_le _

/-- A code that seats no tray has no fresh records. -/
theorem freshSlots_nil {code : Fin 4} (h : ¬ 0 < capacity code) : freshSlots code = [] := by
  simp [freshSlots, Nat.eq_zero_of_not_pos h]

@[simp] theorem settleTrayCode_tray_changer (code : Fin 4) (s : State) :
    (settleTrayCode code s).tray = s.tray ∧ (settleTrayCode code s).changer = s.changer := by
  unfold settleTrayCode
  split <;> simp

/-- The code's change but for the seating: the laws but for the records of a tray to be seated. -/
theorem codeTaken_keeps {code : Fin 4} {u : State}
    (hu : u = if traySeated s then removeTray code s else { s with tray.code := code }) :
    u.tray.code = code ∧ (TrayLaw s.tray → ¬ 0 < capacity code → TrayLaw u.tray)
      ∧ (CycleLaw (capacity s.tray.code) s.changer → ∀ n, ChangerLaw n u.changer) := by
  subst hu
  by_cases hseat : traySeated s = true
  · rw [if_pos hseat]
    exact ⟨rfl, fun _ hc => trayLaw_fresh (freshSlots_nil hc).symm (.inl rfl), fun l n => removeFromChanger_law n l⟩
  · have hn : capacity s.tray.code = 0 := Nat.eq_zero_of_not_pos fun g => hseat (traySeated_iff.mpr g)
    rw [if_neg hseat]
    refine ⟨rfl, fun l hc => ?_, fun l n => ?_⟩
    · rw [TrayLaw, hn] at l
      exact ⟨l.1.trans (Nat.eq_zero_of_not_pos hc).symm, fun p hp => (l.2 p hp).trans (Nat.zero_le _)⟩
    · obtain ⟨hq, hs⟩ := l.noTray hn
      exact .atRest hs (l.idle.mp hs) (l.motor_none (by simp [hs])) (l.liftArm_false (by simp [hs]))
        (fun g => by simpa [hs] using l.paused g) (by simp [hq]) (fun _ => hq)

@[simp] theorem trayCodeChanges_keeps (code : Fin 4) (h : Keeps s0 s.tray s.changer) :
    Keeps s0 (trayCodeChanges code s).tray (trayCodeChanges code s).changer := by
  refine h.trans ?_
  obtain ⟨hcode, htray, hchg⟩ := codeTaken_keeps (s := s) (code := code) rfl
  unfold trayCodeChanges
  dsimp only
  split
  · exact .refl s
  · refine startReady_keeps ?_
    split
    · exact .of_changerLaw (fun _ => trayLaw_fresh rfl (.inr rfl))
        fun l => by simpa [seatTray] using hchg l (capacity code)
    · next hc => exact .of_changerLaw (fun l => by simpa using htray l hc) fun l => by simpa using hchg l _

/-! ### Chases -/

/-- Entries without their chase owner are as lawful (log 23). -/
@[simp] theorem disownAll_keeps (h : Keeps s0 s.tray s.changer) :
    Keeps s0 (disownAll s).tray (disownAll s).changer := by
  refine h.trans (.of_stage_eq id rfl fun l =>
    ⟨by simpa [disownAll] using l.queue, ?_, ?_, l.motor, l.arm, fun hs y hy => ?_, l.shut, l.paused⟩)
  · simpa [disownAll] using l.noTray
  · simpa [disownAll] using l.idle
  · obtain ⟨c, hc, rfl⟩ := Option.map_eq_some_iff.mp hy
    exact l.dark hs c hc

@[simp] theorem runChase_keeps (o : Option ChaseOwner) (i : Nat) (h : Keeps s0 s.tray s.changer) :
    Keeps s0 (runChase o i s).tray (runChase o i s).changer :=
  offerChaseMove_keeps o _ (clearQueue_keeps .aborted (s := { s with program.activeMap := (chaseResult i s).map }) h)

@[simp] theorem logChase_keeps (o : ChaseOwner) (i : Nat) (h : Keeps s0 s.tray s.changer) :
    Keeps s0 (logChase o i s).tray (logChase o i s).changer := by
  unfold logChase
  split
  · exact runChase_keeps _ _ (disownAll_keeps h)
  · simpa using h

end Sys2Proof.Machine
end

section
/-! ## Tape, show and cues keep the laws of tray and Changer -/

namespace Sys2Proof.Machine

variable {s s0 : State}

/-! ### Rest and the entries of the Transport -/

@[simp] theorem loopRest_keeps (h : Keeps s0 s.tray s.changer) : Keeps s0 (loopRest s).tray (loopRest s).changer := by
  unfold loopRest
  repeat' split
  all_goals simp [h]

@[simp] theorem restEvent_keeps (h : Keeps s0 s.tray s.changer) : Keeps s0 (restEvent s).tray (restEvent s).changer := by
  unfold restEvent
  split
  · exact loopRest_keeps h
  · exact h

@[simp] theorem seekEndHanded_keeps (k : Seek) (h : Keeps s0 s.tray s.changer) :
    Keeps s0 (seekEndHanded k s).tray (seekEndHanded k s).changer := by
  unfold seekEndHanded
  dsimp only
  split
  · split <;> split <;> simp [h]
  · split <;> simp [h]

@[simp] theorem seekReached_keeps (k : Seek) (h : Keeps s0 s.tray s.changer) :
    Keeps s0 (seekReached k s).tray (seekReached k s).changer := by simp [seekReached, h]

@[simp] theorem enterStopped_keeps (c : Reason) (e : TapeEnds) (h : Keeps s0 s.tray s.changer) :
    Keeps s0 (enterStopped c e s).tray (enterStopped c e s).changer := by
  unfold enterStopped
  dsimp only
  split <;> simp [h]

@[simp] theorem enterPaused_keeps (c : Reason) (e : TapeEnds) (h : Keeps s0 s.tray s.changer) :
    Keeps s0 (enterPaused c e s).tray (enterPaused c e s).changer := by simp [enterPaused, h]

/-! ### Motion requests -/

/-- A taken motion request keeps the laws when the entries it may make keep them. -/
theorem moveTape_keeps {enter : MotionReq → MotionSource → TapeEnds → State → State}
    (he : ∀ q src e (u : State), Keeps s0 u.tray u.changer → Keeps s0 (enter q src e u).tray (enter q src e u).changer)
    (req : MotionReq) (source : MotionSource) (tag : Option Byte) (h : Keeps s0 s.tray s.changer) :
    Keeps s0 (moveTape enter req source tag s).2.tray (moveTape enter req source tag s).2.changer := by
  have enters : ∀ u : State, u.tray = s.tray → u.changer = s.changer → Keeps s0
      (enter req source (replacedEnds (cancelledSeek source s) s) u).tray
      (enter req source (replacedEnds (cancelledSeek source s) s) u).changer :=
    fun u ht hc => he _ _ _ _ (by rw [ht, hc]; exact h)
  unfold moveTape
  dsimp only
  repeat' split
  all_goals simp [h, enters]

theorem takeMotion_keeps {enter : MotionReq → MotionSource → TapeEnds → State → State} {hand cut : State → State}
    (he : ∀ q src e (u : State), Keeps s0 u.tray u.changer → Keeps s0 (enter q src e u).tray (enter q src e u).changer)
    (hh : ∀ u : State, Keeps s0 u.tray u.changer → Keeps s0 (hand u).tray (hand u).changer)
    (hc : ∀ u : State, Keeps s0 u.tray u.changer → Keeps s0 (cut u).tray (cut u).changer)
    (req : MotionReq) (source : MotionSource) (tag : Option Byte) (h : Keeps s0 s.tray s.changer) :
    Keeps s0 (takeMotion enter hand cut req source tag s).2.tray (takeMotion enter hand cut req source tag s).2.changer := by
  have hm := hh _ (moveTape_keeps he req source tag h)
  unfold takeMotion
  dsimp only
  split
  · exact hc _ hm
  · exact hm

theorem showMotion_keeps {cut : State → State}
    (hc : ∀ u : State, Keeps s0 u.tray u.changer → Keeps s0 (cut u).tray (cut u).changer)
    (req : MotionReq) (h : Keeps s0 s.tray s.changer) :
    Keeps s0 (showMotion cut req s).2.tray (showMotion cut req s).2.changer := by
  unfold showMotion
  split
  · split <;> simp [h]
  · exact takeMotion_keeps (fun _ _ _ _ g => by simpa using g) (fun _ g => by simpa using g) hc _ _ _ h

/-! ### The end of the audio fade and the end sequence -/

theorem fadeEndsWith_keeps {stop : State → State} {rewind : State → Option Reason × State}
    (hs : ∀ u : State, Keeps s0 u.tray u.changer → Keeps s0 (stop u).tray (stop u).changer)
    (hr : ∀ u : State, Keeps s0 u.tray u.changer → Keeps s0 (rewind u).2.tray (rewind u).2.changer)
    (h : Keeps s0 s.tray s.changer) :
    Keeps s0 (fadeEndsWith stop rewind s).tray (fadeEndsWith stop rewind s).changer := by
  have hstop := hs s h
  unfold fadeEndsWith
  dsimp only
  split
  · split
    · have hrew := hr { stop s with cueLog.phase := .rewinding } hstop
      split
      · next hq => simpa [hq] using hrew
      · next hq => simpa [hq] using hrew
    · exact hstop
  · exact h

@[simp] theorem fadeEndStop_keeps (h : Keeps s0 s.tray s.changer) :
    Keeps s0 (fadeEndStop s).tray (fadeEndStop s).changer := by
  unfold fadeEndStop
  split
  · exact showMotion_keeps (fun _ g => g) _ h
  · exact h

@[simp] theorem audioFadeEnd_keeps (h : Keeps s0 s.tray s.changer) :
    Keeps s0 (audioFadeEnd s).tray (audioFadeEnd s).changer :=
  fadeEndsWith_keeps (fun _ => fadeEndStop_keeps) (fun _ => showMotion_keeps (fun _ g => g) _) h

@[simp] theorem fadeEndsAtRemoval_keeps (h : Keeps s0 s.tray s.changer) :
    Keeps s0 (fadeEndsAtRemoval s).tray (fadeEndsAtRemoval s).changer :=
  fadeEndsWith_keeps (fun _ g => g) (fun _ g => by simpa using g) h

@[simp] theorem requestEndFade_keeps (h : Keeps s0 s.tray s.changer) :
    Keeps s0 (requestEndFade s).tray (requestEndFade s).changer := by
  unfold requestEndFade
  repeat' split
  all_goals simp [h]

@[simp] theorem endSequence_keeps (h : Keeps s0 s.tray s.changer) :
    Keeps s0 (endSequence s).tray (endSequence s).changer := by
  unfold endSequence
  split
  · exact requestEndFade_keeps (withDarkTest_keeps _ (by simpa using h))
  · exact h

@[simp] theorem endFadeAdvance_keeps (h : Keeps s0 s.tray s.changer) :
    Keeps s0 (endFadeAdvance s).tray (endFadeAdvance s).changer := by
  unfold endFadeAdvance
  repeat' split
  all_goals simp [h]

@[simp] theorem showPause_keeps (h : Keeps s0 s.tray s.changer) : Keeps s0 (showPause s).tray (showPause s).changer :=
  showMotion_keeps (fun _ => audioFadeEnd_keeps) _ h

@[simp] theorem cutIf_keeps (b : Bool) (h : Keeps s0 s.tray s.changer) :
    Keeps s0 (cutIf b s).tray (cutIf b s).changer := by
  unfold cutIf
  split <;> simp [h]

/-! ### Removal, insertion, stall, STANDBY -/

@[simp] theorem insertCassette_tray_changer (s : State) :
    (insertCassette s).tray = s.tray ∧ (insertCassette s).changer = s.changer := by
  unfold insertCassette
  split <;> simp

@[simp] theorem removeCassette_keeps (h : Keeps s0 s.tray s.changer) :
    Keeps s0 (removeCassette s).tray (removeCassette s).changer := by
  unfold removeCassette
  dsimp only
  split
  · exact h
  · split <;> simp [h]

@[simp] theorem tapeStalls_keeps (h : Keeps s0 s.tray s.changer) :
    Keeps s0 (tapeStalls s).tray (tapeStalls s).changer := by
  unfold tapeStalls
  split <;> simp [h]

@[simp] theorem tapeStandby_keeps (h : Keeps s0 s.tray s.changer) :
    Keeps s0 (tapeStandby s).tray (tapeStandby s).changer := by
  unfold tapeStandby
  dsimp only
  split <;> simp [h]

/-! ### Taking a cue -/

@[simp] theorem startTimerAction_tray_changer (p : Nat) (s : State) :
    (startTimerAction p s).tray = s.tray ∧ (startTimerAction p s).changer = s.changer := by
  unfold startTimerAction
  split <;> simp

@[simp] theorem timerExpires_keeps (h : Keeps s0 s.tray s.changer) :
    Keeps s0 (timerExpires s).tray (timerExpires s).changer := by
  unfold timerExpires
  split <;> simp [h]

@[simp] theorem holdTimer_tray_changer (s : State) :
    (holdTimer s).tray = s.tray ∧ (holdTimer s).changer = s.changer := by
  unfold holdTimer
  split <;> simp

@[simp] theorem takeHold_keeps (h : Keeps s0 s.tray s.changer) : Keeps s0 (takeHold s).tray (takeHold s).changer := by
  unfold takeHold
  dsimp only
  repeat' split
  all_goals simp [h]

@[simp] theorem takeAction_keeps (k : CueKind) (i : Nat) (a : Action) (h : Keeps s0 s.tray s.changer) :
    Keeps s0 (takeAction k i a s).tray (takeAction k i a s).changer := by
  cases a with
  | fade level duration => exact withDarkTest_keeps _ (by simpa using h)
  | _ => simp [takeAction, h]

@[simp] theorem takeActions_keeps (k : CueKind) (i : Nat) (as : List Action) (h : Keeps s0 s.tray s.changer) :
    Keeps s0 (takeActions k i as s).tray (takeActions k i as s).changer := by
  induction as generalizing s with
  | nil => exact h
  | cons a as ih => exact ih (takeAction_keeps k i a h)

@[simp] theorem actOnCue_keeps (k : CueKind) (i : Nat) (h : Keeps s0 s.tray s.changer) :
    Keeps s0 (actOnCue k i s).tray (actOnCue k i s).changer := by
  unfold actOnCue
  repeat' split
  all_goals simp [h]

@[simp] theorem reportCue_tray_changer (k : CueKind) (i : Nat) (o : Origin) (r : Option Nat) (s : State) :
    (reportCue k i o r s).tray = s.tray ∧ (reportCue k i o r s).changer = s.changer := by
  unfold reportCue
  dsimp only
  split <;> simp

@[simp] theorem offerRelay_tray_changer (f : RelayFrame) (s : State) :
    (offerRelay f s).tray = s.tray ∧ (offerRelay f s).changer = s.changer := by
  unfold offerRelay
  repeat' split
  all_goals simp

@[simp] theorem takeCue_keeps (k : CueKind) (o : Origin) (i r : Option Nat) (h : Keeps s0 s.tray s.changer) :
    Keeps s0 (takeCue k o i r s).tray (takeCue k o i r s).changer := by
  unfold takeCue
  dsimp only
  split <;> simp [h]

@[simp] theorem slipTest_tray_changer (i : Nat) (o : Origin) (r : Option Nat) (s : State) :
    (slipTest i o r s).tray = s.tray ∧ (slipTest i o r s).changer = s.changer := by
  unfold slipTest
  dsimp only
  split <;> simp

@[simp] theorem handCue_keeps (k : CueKind) (o : Origin) (i : Option Nat) (r : Nat) (h : Keeps s0 s.tray s.changer) :
    Keeps s0 (handCue k o i r s).tray (handCue k o i r s).changer := by
  unfold handCue
  split <;> simp [h]

@[simp] theorem logCue_keeps (k : CueKind) (h : Keeps s0 s.tray s.changer) :
    Keeps s0 (logCue k s).tray (logCue k s).changer := by
  unfold logCue
  dsimp only
  repeat' split
  all_goals simp [h]

@[simp] theorem takeMissed_keeps (v : Nat) (b : Bool) (e : LogEntry) (h : Keeps s0 s.tray s.changer) :
    Keeps s0 (takeMissed v b e s).tray (takeMissed v b e s).changer := by
  unfold takeMissed
  split <;> simp [h]

@[simp] theorem takeAllMissed_keeps (v : Nat) (b : Bool) (es : List LogEntry) (h : Keeps s0 s.tray s.changer) :
    Keeps s0 (takeAllMissed v b es s).tray (takeAllMissed v b es s).changer := by
  induction es generalizing s with
  | nil => exact h
  | cons e es ih => exact ih (takeMissed_keeps v b e h)

@[simp] theorem missedTest_keeps (h : Keeps s0 s.tray s.changer) :
    Keeps s0 (missedTest s).tray (missedTest s).changer := by
  unfold missedTest
  dsimp only
  split <;> simp [h]

/-! ### Forward motion -/

@[simp] theorem tapeEnds_keeps (h : Keeps s0 s.tray s.changer) : Keeps s0 (tapeEnds s).tray (tapeEnds s).changer := by
  simp [tapeEnds, h]

@[simp] theorem leaderAhead_keeps (h : Keeps s0 s.tray s.changer) :
    Keeps s0 (leaderAhead s).tray (leaderAhead s).changer := by
  unfold leaderAhead
  split <;> simp [h]

@[simp] theorem playingHanded_tray_changer (src : MotionSource) (s : State) :
    (playingHanded src s).tray = s.tray ∧ (playingHanded src s).changer = s.changer := by
  unfold playingHanded playFromZero
  dsimp only
  repeat' split
  all_goals simp

@[simp] theorem enterPlaying_keeps (src : MotionSource) (c : Reason) (e : TapeEnds) (h : Keeps s0 s.tray s.changer) :
    Keeps s0 (enterPlaying src c e s).tray (enterPlaying src c e s).changer := by simp [enterPlaying, h]

@[simp] theorem enterWinding_keeps (c : Reason) (e : TapeEnds) (h : Keeps s0 s.tray s.changer) :
    Keeps s0 (enterWinding c e s).tray (enterWinding c e s).changer := by simp [enterWinding, h]

@[simp] theorem enterNow_keeps (q : MotionReq) (src : MotionSource) (e : TapeEnds) (h : Keeps s0 s.tray s.changer) :
    Keeps s0 (enterNow q src e s).tray (enterNow q src e s).changer := by
  cases q <;> simp [enterNow, h]

@[simp] theorem takeRequest_keeps (q : MotionReq) (src : MotionSource) (t : Option Byte) (h : Keeps s0 s.tray s.changer) :
    Keeps s0 (takeRequest q src t s).2.tray (takeRequest q src t s).2.changer :=
  takeMotion_keeps (fun _ _ _ _ => enterNow_keeps _ _ _) (fun _ g => by simpa using g) (fun _ => audioFadeEnd_keeps) _ _ _ h

@[simp] theorem hostMotion_keeps (q : MotionReq) (t : Byte) (h : Keeps s0 s.tray s.changer) :
    Keeps s0 (hostMotion q t s).2.tray (hostMotion q t s).2.changer := by
  unfold hostMotion
  split <;> simp [h]

@[simp] theorem keyMotion_keeps (k : Key) (r : Remote) (q : MotionReq) (h : Keeps s0 s.tray s.changer) :
    Keeps s0 (keyMotion k r q s).tray (keyMotion k r q s).changer := by
  unfold keyMotion ignoreKey
  repeat' split
  all_goals simp [h]

@[simp] theorem ownPlay_keeps (src : MotionSource) (h : Keeps s0 s.tray s.changer) :
    Keeps s0 (ownPlay src s).2.tray (ownPlay src s).2.changer := by
  unfold ownPlay
  split
  · simpa using h
  · refine takeMotion_keeps (fun _ _ _ _ => enterNow_keeps _ _ _) (fun u g => ?_) (fun _ => audioFadeEnd_keeps) _ _ _ h
    split <;> simpa using g

@[simp] theorem continueHold_keeps (h : Keeps s0 s.tray s.changer) :
    Keeps s0 (continueHold s).tray (continueHold s).changer := by
  unfold continueHold
  dsimp only
  repeat' split
  all_goals simp [h]

/-! ### Seeks -/

@[simp] theorem playAfter_keeps (k : Seek) (h : Keeps s0 s.tray s.changer) :
    Keeps s0 (playAfter k s).tray (playAfter k s).changer := by
  unfold playAfter
  split <;> simp [h]

@[simp] theorem seekDue_keeps (k : Seek) (h : Keeps s0 s.tray s.changer) :
    Keeps s0 (seekDue k s).tray (seekDue k s).changer := by
  unfold seekDue
  repeat' split
  all_goals simp [h]

theorem beginSeek_keeps {hand : State → State}
    (hh : ∀ u : State, Keeps s0 u.tray u.changer → Keeps s0 (hand u).tray (hand u).changer) (k : Seek)
    (h : Keeps s0 s.tray s.changer) : Keeps s0 (beginSeek hand k s).2.tray (beginSeek hand k s).2.changer := by
  unfold beginSeek
  dsimp only
  split
  · exact hh _ (seekDue_keeps _ (by simpa using h))
  · exact hh _ (seekDue_keeps _ (by simpa using h))
  · exact hh _ (by simpa using h)
  all_goals exact cutIf_keeps _ (hh _ (by simpa using h))

@[simp] theorem hostSeek_keeps (n : Nat) (t : Byte) (h : Keeps s0 s.tray s.changer) :
    Keeps s0 (hostSeek n t s).2.tray (hostSeek n t s).2.changer := by
  unfold hostSeek
  split
  · simpa using h
  · exact beginSeek_keeps (fun _ g => by simpa using g) _ h

@[simp] theorem takeSeekCue_keeps (k : Nat) (e : LogEntry) (h : Keeps s0 s.tray s.changer) :
    Keeps s0 (takeSeekCue k e s).tray (takeSeekCue k e s).changer :=
  beginSeek_keeps (fun _ g => g) _ (by simpa using h)

/-! ### The end of the brake, reel pulses, the leader -/

@[simp] theorem enterPending_keeps (d : PendingDest) (h : Keeps s0 s.tray s.changer) :
    Keeps s0 (enterPending d s).tray (enterPending d s).changer := by
  unfold enterPending
  dsimp only
  repeat' split
  all_goals simp [h]

@[simp] theorem brakeEnds_keeps (h : Keeps s0 s.tray s.changer) : Keeps s0 (brakeEnds s).tray (brakeEnds s).changer := by
  unfold brakeEnds
  split <;> simp [h]

@[simp] theorem seekStops_tray_changer (s : State) : (seekStops s).tray = s.tray ∧ (seekStops s).changer = s.changer := by
  unfold seekStops stopSeek
  repeat' split
  all_goals simp

@[simp] theorem reelPulse_keeps (h : Keeps s0 s.tray s.changer) : Keeps s0 (reelPulse s).tray (reelPulse s).changer := by
  unfold reelPulse
  dsimp only
  split <;> simp [h]

@[simp] theorem leaderChanges_keeps (b : Bool) (h : Keeps s0 s.tray s.changer) :
    Keeps s0 (leaderChanges b s).tray (leaderChanges b s).changer := by simp [leaderChanges, h]

/-! ### The end of SETTLE -/

@[simp] theorem chaseComplete_keeps (o : Option ChaseOwner) (h : Keeps s0 s.tray s.changer) :
    Keeps s0 (chaseComplete o s).tray (chaseComplete o s).changer := by
  unfold chaseComplete
  split
  · split
    · split
      · dsimp only
        split
        · exact ownPlay_keeps _ h
        · exact h
      · exact h
    · exact h
  · split
    · have hl : Keeps s0 (withDarkTest programLight { s with cueLog.phase := .idle, cueLog.restart := false }).tray
          (withDarkTest programLight { s with cueLog.phase := .idle, cueLog.restart := false }).changer :=
        withDarkTest_keeps _ (by simpa using h)
      have hp := ownPlay_keeps .restart hl
      dsimp only
      split
      · next hq => simpa [hq] using hp
      · next hq => simpa [hq] using hp
    · exact h
  · exact h

/-- What waits on the chase of a cycle that is done keeps the laws from LIGHT on (R35). -/
theorem settled_keeps (c : Cycle) : Keeps s
    (if c.aborted then chaseFailed c.entry.owner .aborted s else chaseComplete c.entry.owner s).tray
    (if c.aborted then chaseFailed c.entry.owner .aborted s else chaseComplete c.entry.owner s).changer := by
  split <;> simp

@[simp] theorem settleEnds_keeps (h : Keeps s0 s.tray s.changer) :
    Keeps s0 (settleEnds s).tray (settleEnds s).changer := by
  refine h.trans ?_
  unfold settleEnds
  split
  · next c hs hc =>
    obtain ⟨htray, -⟩ := lightStage_tray_changer s
    have hk := settled_keeps (s := doneStage (lightStage s)) c
    refine startReady_keeps ?_
    simp only [sleepTest_tray_changer]
    refine .of_changerLaw (fun l => ?_) fun l => ?_
    · exact hk.tray (by simpa [htray] using l)
    · have law := hk.cycle (by simpa [htray] using lightStage_law l hs)
      exact toIdle_law _ law.queue fun hn => (law.noTray hn).1
  · exact .refl s

end Sys2Proof.Machine
end

section
/-! ## Decoder, heat, power, remotes, resets and requests keep the laws of tray and Changer -/

namespace Sys2Proof.Machine

variable {s s0 : State}

/-! ### Cue Decoder and relay -/

@[simp] theorem recognised_keeps (t : BitVec 3) (n : Nat) (h : Keeps s0 s.tray s.changer) :
    Keeps s0 (recognised t n s).tray (recognised t n s).changer := by
  unfold recognised
  dsimp only
  repeat' split
  all_goals simp [h]

@[simp] theorem burstFrame_tray_changer (s : State) :
    (burstFrame s).tray = s.tray ∧ (burstFrame s).changer = s.changer := by
  unfold burstFrame
  dsimp only
  split <;> simp

@[simp] theorem gapFrame_tray_changer (n : Nat) (s : State) :
    (gapFrame n s).tray = s.tray ∧ (gapFrame n s).changer = s.changer := by
  unfold gapFrame
  split <;> simp

@[simp] theorem recogniserStep_keeps (t : BitVec 3) (h : Keeps s0 s.tray s.changer) :
    Keeps s0 (recogniserStep t s).tray (recogniserStep t s).changer := by
  unfold recogniserStep candidateAt
  repeat' split
  all_goals simp [h]

@[simp] theorem analyse_keeps (l1 l2 l3 : Byte) (h : Keeps s0 s.tray s.changer) :
    Keeps s0 (analyse l1 l2 l3 s).tray (analyse l1 l2 l3 s).changer := by
  unfold analyse
  dsimp only
  split <;> simp [h]

@[simp] theorem dropRelay_tray_changer (r : Reason) (s : State) :
    (dropRelay r s).tray = s.tray ∧ (dropRelay r s).changer = s.changer := by simp [dropRelay]

@[simp] theorem lineSlip_tray_changer (i : Nat) (s : State) :
    (lineSlip i s).tray = s.tray ∧ (lineSlip i s).changer = s.changer := by
  unfold lineSlip
  dsimp only
  split <;> simp

@[simp] theorem lineCue_keeps (k : CueKind) (i : Nat) (h : Keeps s0 s.tray s.changer) :
    Keeps s0 (lineCue k i s).tray (lineCue k i s).changer := by
  unfold lineCue
  split
  · split <;> simp [h]
  · simp [h]

@[simp] theorem relayFrameTaken_keeps (w : BitVec 14) (h : Keeps s0 s.tray s.changer) :
    Keeps s0 (relayFrameTaken w s).tray (relayFrameTaken w s).changer := by
  unfold relayFrameTaken relayConflict
  dsimp only
  repeat' split
  all_goals simp [h]

@[simp] theorem relayTimingError_tray_changer (s : State) :
    (relayTimingError s).tray = s.tray ∧ (relayTimingError s).changer = s.changer := by
  unfold relayTimingError
  split <;> simp

@[simp] theorem relayStartPulse_tray_changer (s : State) :
    (relayStartPulse s).tray = s.tray ∧ (relayStartPulse s).changer = s.changer := by
  unfold relayStartPulse
  repeat' split
  all_goals simp

@[simp] theorem conflictExpires_tray_changer (s : State) :
    (conflictExpires s).tray = s.tray ∧ (conflictExpires s).changer = s.changer := by
  unfold conflictExpires
  split <;> simp

@[simp] theorem relayFrameEnds_tray_changer (s : State) :
    (relayFrameEnds s).tray = s.tray ∧ (relayFrameEnds s).changer = s.changer := by
  unfold relayFrameEnds
  split <;> simp

@[simp] theorem relayGapEnds_tray_changer (s : State) :
    (relayGapEnds s).tray = s.tray ∧ (relayGapEnds s).changer = s.changer := by
  unfold relayGapEnds
  split <;> simp

/-! ### Power states -/

@[simp] theorem programStandby_tray_changer (s : State) :
    (programStandby s).tray = s.tray ∧ (programStandby s).changer = s.changer := by simp [programStandby]

@[simp] theorem enterStandby_keeps (h : Keeps s0 s.tray s.changer) :
    Keeps s0 (enterStandby s).tray (enterStandby s).changer := by
  have lamp : Keeps s0 (lampStandby (evalFan { s with heat.power := .standby })).tray
      (lampStandby (evalFan { s with heat.power := .standby })).changer := withDarkTest_keeps _ (by simpa using h)
  exact tapeStandby_keeps (by simpa using changerStandby_keeps lamp)

@[simp] theorem activate_keeps (c : Reason) (h : Keeps s0 s.tray s.changer) :
    Keeps s0 (activate c s).tray (activate c s).changer := startReady_keeps h

@[simp] theorem supersedeSleep_tray_changer (s : State) :
    (supersedeSleep s).tray = s.tray ∧ (supersedeSleep s).changer = s.changer := by
  unfold supersedeSleep
  split <;> simp

@[simp] theorem askSleep_tray_changer (t : Byte) (s : State) :
    (askSleep t s).2.tray = s.tray ∧ (askSleep t s).2.changer = s.changer := by
  unfold askSleep
  dsimp only
  repeat' split
  all_goals simp

@[simp] theorem sleepFromActive_keeps (t : Byte) (h : Keeps s0 s.tray s.changer) :
    Keeps s0 (sleepFromActive t s).2.tray (sleepFromActive t s).2.changer := by
  unfold sleepFromActive
  dsimp only
  split <;> simp [h]

@[simp] theorem powerModeTo_keeps (m : PowerState) (t : Byte) (h : Keeps s0 s.tray s.changer) :
    Keeps s0 (powerModeTo m t s).2.tray (powerModeTo m t s).2.changer := by
  unfold powerModeTo
  dsimp only
  repeat' split
  all_goals simp [h]

@[simp] theorem powerKeyToggles_keeps (h : Keeps s0 s.tray s.changer) :
    Keeps s0 (powerKeyToggles s).tray (powerKeyToggles s).changer := by
  unfold powerKeyToggles
  split <;> simp [h]

@[simp] theorem keyPending_tray_changer (s : State) :
    (keyPending s).tray = s.tray ∧ (keyPending s).changer = s.changer := by
  unfold keyPending
  split <;> simp

@[simp] theorem powerKeyHeld_keeps (h : Keeps s0 s.tray s.changer) :
    Keeps s0 (powerKeyHeld s).tray (powerKeyHeld s).changer := by
  unfold powerKeyHeld
  dsimp only
  repeat' split
  all_goals simp [h]

/-! ### Heat -/

@[simp] theorem forceLampOff_keeps (c : Reason) (h : Keeps s0 s.tray s.changer) :
    Keeps s0 (forceLampOff c s).tray (forceLampOff c s).changer := withDarkTest_keeps _ (by simpa using h)

@[simp] theorem handCeiling_keeps (h : Keeps s0 s.tray s.changer) :
    Keeps s0 (handCeiling s).tray (handCeiling s).changer := withDarkTest_keeps _ (by simpa using h)

@[simp] theorem ensureCooldown_tray_changer (s : State) :
    (ensureCooldown s).tray = s.tray ∧ (ensureCooldown s).changer = s.changer := by
  unfold ensureCooldown
  split <;> simp

@[simp] theorem heatFaultRaised_keeps (c : Reason) (h : Keeps s0 s.tray s.changer) :
    Keeps s0 (heatFaultRaised c s).tray (heatFaultRaised c s).changer := by
  simpa [heatFaultRaised] using handCeiling_keeps (s := ensureCooldown (forceLampOff c s)) (by simp [h])

@[simp] theorem evalLatch_keeps (h : Keeps s0 s.tray s.changer) : Keeps s0 (evalLatch s).tray (evalLatch s).changer := by
  unfold evalLatch
  repeat' split
  all_goals simp [h]

@[simp] theorem readAmbient_tray_changer (r : Option Int) (s : State) :
    (readAmbient r s).tray = s.tray ∧ (readAmbient r s).changer = s.changer := by
  unfold readAmbient
  split <;> simp

@[simp] theorem advanceCooldown_tray_changer (s : State) :
    (advanceCooldown s).tray = s.tray ∧ (advanceCooldown s).changer = s.changer := by
  unfold advanceCooldown
  dsimp only
  repeat' split
  all_goals simp

@[simp] theorem updateDecisions_keeps (b : Bool) (h : Keeps s0 s.tray s.changer) :
    Keeps s0 (updateDecisions b s).tray (updateDecisions b s).changer := by
  have hc : Keeps s0 (handCeiling (evalFloor s)).tray (handCeiling (evalFloor s)).changer := handCeiling_keeps h
  unfold updateDecisions
  dsimp only
  split <;> simpa using hc

@[simp] theorem heatUpdated_keeps (r : Option Int) (h : Keeps s0 s.tray s.changer) :
    Keeps s0 (heatUpdated r s).tray (heatUpdated r s).changer := by
  have hu : Keeps s0 (updateEstimate (readAmbient r { s with heat.updateTimer := some 0 })).tray
      (updateEstimate (readAmbient r { s with heat.updateTimer := some 0 })).changer := by simpa [updateEstimate] using h
  unfold heatUpdated
  dsimp only
  split
  · exact h
  · split <;> simpa using updateDecisions_keeps _ (evalLatch_keeps hu)

@[simp] theorem fanStalls_keeps (h : Keeps s0 s.tray s.changer) : Keeps s0 (fanStalls s).tray (fanStalls s).changer := by
  unfold fanStalls
  split <;> simp [h]

@[simp] theorem fanTach_keeps (h : Keeps s0 s.tray s.changer) : Keeps s0 (fanTach s).tray (fanTach s).changer := by
  unfold fanTach
  dsimp only
  split <;> simp [h]

@[simp] theorem tcoOpens_keeps (h : Keeps s0 s.tray s.changer) : Keeps s0 (tcoOpens s).tray (tcoOpens s).changer := by
  simp [tcoOpens, h]

@[simp] theorem tcoCloses_keeps (h : Keeps s0 s.tray s.changer) : Keeps s0 (tcoCloses s).tray (tcoCloses s).changer := by
  simp [tcoCloses, h]

/-- A command with its THERMAL report keeps what the command keeps. -/
theorem withThermal_keeps {f : State → State} (h : Keeps s (f s).tray (f s).changer) :
    Keeps s (withThermal f s).tray (withThermal f s).changer := by simpa [withThermal] using h

@[simp] theorem tcoChanges_keeps (b : Bool) : Keeps s (tcoChanges b s).tray (tcoChanges b s).changer := by
  unfold tcoChanges
  repeat' split
  · exact .refl s
  · exact withThermal_keeps (by simp)
  · simpa using withThermal_keeps (s := s) (f := tcoCloses) (by simp)

/-! ### Filament -/

@[simp] theorem setLampRec_keeps (p : LampPos) (c : LampCond) (h : Keeps s0 s.tray s.changer) :
    Keeps s0 { s with lamp := setLampRec p c s.lamp }.tray { s with lamp := setLampRec p c s.lamp }.changer := h

theorem openFilament_keeps (h : Keeps s0 s.tray s.changer) :
    Keeps s0 (openFilament s).tray (openFilament s).changer := by
  unfold openFilament
  dsimp only
  split <;> simp [h]

@[simp] theorem filamentSample_keeps (b : Bool) (h : Keeps s0 s.tray s.changer) :
    Keeps s0 (filamentSample b s).tray (filamentSample b s).changer := by
  unfold filamentSample
  split
  · split
    · exact h
    · split
      · exact h
      · exact openFilament_keeps h
  · exact h

@[simp] theorem fadeStepEvent_keeps (b : Bool) (h : Keeps s0 s.tray s.changer) :
    Keeps s0 (fadeStepEvent b s).tray (fadeStepEvent b s).changer := by simp [fadeStepEvent, h]

/-! ### Remotes -/

@[simp] theorem setHeld_tray_changer (r : Remote) (k : Option Held) (s : State) :
    (setHeld r k s).tray = s.tray ∧ (setHeld r k s).changer = s.changer := by cases r <;> exact ⟨rfl, rfl⟩

@[simp] theorem markHeld_tray_changer (r : Remote) (f : Held → Held) (s : State) :
    (markHeld r f s).tray = s.tray ∧ (markHeld r f s).changer = s.changer := by simp [markHeld]

@[simp] theorem ignoreKey_tray_changer (k : Key) (r : Remote) (x : Reason) (s : State) :
    (ignoreKey k r x s).tray = s.tray ∧ (ignoreKey k r x s).changer = s.changer := by simp [ignoreKey]

@[simp] theorem focusPress_tray_changer (r : Remote) (d : FocusDir) (s : State) :
    (focusPress r d s).tray = s.tray ∧ (focusPress r d s).changer = s.changer := by
  unfold focusPress takeOverNudge
  dsimp only
  split <;> split <;> simp

@[simp] theorem focusRelease_tray_changer (r : Remote) (s : State) :
    (focusRelease r s).tray = s.tray ∧ (focusRelease r s).changer = s.changer := by
  unfold focusRelease
  repeat' split
  all_goals simp

@[simp] theorem focusSpeeds_tray_changer (s : State) :
    (focusSpeeds s).tray = s.tray ∧ (focusSpeeds s).changer = s.changer := by
  unfold focusSpeeds
  split <;> simp

@[simp] theorem limitStops_tray_changer (d : FocusDir) (s : State) :
    (limitStops d s).tray = s.tray ∧ (limitStops d s).changer = s.changer := by
  unfold limitStops
  repeat' split
  all_goals simp

@[simp] theorem limitChanges_tray_changer (d : FocusDir) (b : Bool) (s : State) :
    (limitChanges d b s).tray = s.tray ∧ (limitChanges d b s).changer = s.changer := by
  unfold limitChanges
  cases d <;> dsimp only <;> split <;> simp

@[simp] theorem nudgeCompletes_tray_changer (s : State) :
    (nudgeCompletes s).tray = s.tray ∧ (nudgeCompletes s).changer = s.changer := by
  unfold nudgeCompletes
  split <;> simp

@[simp] theorem startNudge_tray_changer (c n : Nat) (t : Byte) (s : State) :
    (startNudge c n t s).2.tray = s.tray ∧ (startNudge c n t s).2.changer = s.changer := by
  unfold startNudge
  repeat' split
  all_goals simp

@[simp] theorem digitPress_tray_changer (r : Remote) (d : Fin 10) (s : State) :
    (digitPress r d s).tray = s.tray ∧ (digitPress r d s).changer = s.changer := by
  unfold digitPress
  repeat' split
  all_goals simp

@[simp] theorem commitEntry_keeps (v : Nat) (h : Keeps s0 s.tray s.changer) :
    Keeps s0 (commitEntry v s).tray (commitEntry v s).changer := by
  unfold commitEntry refuseEntry
  dsimp only
  repeat' split
  · simpa using h
  · simpa using h
  · exact offerKeyMove_keeps _ _ _ h

@[simp] theorem gotoPress_keeps (r : Remote) (h : Keeps s0 s.tray s.changer) :
    Keeps s0 (gotoPress r s).tray (gotoPress r s).changer := by
  unfold gotoPress
  split <;> simp [h]

@[simp] theorem entryExpires_keeps (h : Keeps s0 s.tray s.changer) :
    Keeps s0 (entryExpires s).tray (entryExpires s).changer := by
  unfold entryExpires
  repeat' split
  all_goals simp [h]

@[simp] theorem lampKey_keeps (h : Keeps s0 s.tray s.changer) : Keeps s0 (lampKey s).tray (lampKey s).changer := by
  unfold lampKey
  split
  · exact withDarkTest_keeps _ (by simpa using h)
  · simpa using h

@[simp] theorem holdKey_keeps (h : Keeps s0 s.tray s.changer) : Keeps s0 (holdKey s).tray (holdKey s).changer := by
  unfold holdKey
  split <;> simp [h]

@[simp] theorem playKey_keeps (r : Remote) (h : Keeps s0 s.tray s.changer) :
    Keeps s0 (playKey r s).tray (playKey r s).changer := by
  unfold playKey
  split <;> simp [h]

@[simp] theorem keyAction_keeps (r : Remote) (n : Nat) (k : Key) (h : Keeps s0 s.tray s.changer) :
    Keeps s0 (keyAction r n k s).tray (keyAction r n k s).changer := by
  cases k <;> simp [keyAction, h]

@[simp] theorem pressActs_keeps (r : Remote) (n : Nat) (k : Key) (h : Keeps s0 s.tray s.changer) :
    Keeps s0 (pressActs r n k s).tray (pressActs r n k s).changer := by
  unfold pressActs
  refine keyAction_keeps _ _ _ ?_
  have discarded : Keeps s0 (if keepsEntry k then s else discardEntry s).tray
      (if keepsEntry k then s else discardEntry s).changer := by
    split <;> simp [h]
  split
  · exact activate_keeps _ discarded
  · exact discarded

@[simp] theorem press_keeps (r : Remote) (n : Nat) (k : Key) (b : Bool) (h : Keeps s0 s.tray s.changer) :
    Keeps s0 (press r n k b s).tray (press r n k b s).changer := by
  unfold press
  dsimp only
  repeat' split
  all_goals simp [h]

@[simp] theorem releaseActs_keeps (r : Remote) (k : Held) (h : Keeps s0 s.tray s.changer) :
    Keeps s0 (releaseActs r k s).tray (releaseActs r k s).changer := by
  unfold releaseActs
  repeat' split
  all_goals simp [h]

@[simp] theorem release_keeps (r : Remote) (h : Keeps s0 s.tray s.changer) :
    Keeps s0 (release r s).tray (release r s).changer := by
  unfold release
  split <;> simp [h]

@[simp] theorem repeatKey_keeps (r : Remote) (h : Keeps s0 s.tray s.changer) :
    Keeps s0 (repeatKey r s).tray (repeatKey r s).changer := by
  unfold repeatKey
  repeat' split
  all_goals simp [h]

@[simp] theorem powerHeldOn_keeps (h : Keeps s0 s.tray s.changer) :
    Keeps s0 (powerHeldOn s).tray (powerHeldOn s).changer := by
  unfold powerHeldOn
  repeat' split
  all_goals simp [h]

@[simp] theorem irKeyFrame_keeps (n : Nat) (k : Key) (b : Bool) (h : Keeps s0 s.tray s.changer) :
    Keeps s0 (irKeyFrame n k b s).tray (irKeyFrame n k b s).changer := by
  unfold irKeyFrame
  repeat' split
  all_goals simp [h]

@[simp] theorem irFrameTaken_keeps (w : BitVec 16) (h : Keeps s0 s.tray s.changer) :
    Keeps s0 (irFrameTaken w s).tray (irFrameTaken w s).changer := by
  unfold irFrameTaken wakeIfAsleep
  dsimp only
  repeat' split
  all_goals simp [h]

@[simp] theorem irError_tray_changer (b : Bool) (s : State) :
    (irError b s).tray = s.tray ∧ (irError b s).changer = s.changer := by
  unfold irError
  split <;> simp

@[simp] theorem irLeads_tray_changer (s : State) : (irLeads s).tray = s.tray ∧ (irLeads s).changer = s.changer := by
  unfold irLeads
  split <;> simp

@[simp] theorem bandChanges_keeps (b : Band) (h : Keeps s0 s.tray s.changer) :
    Keeps s0 (bandChanges b s).tray (bandChanges b s).changer := by
  unfold bandChanges
  dsimp only
  split <;> simp [h]

@[simp] theorem ladderSampled_keeps (v : Nat) (h : Keeps s0 s.tray s.changer) :
    Keeps s0 (ladderSampled v s).tray (ladderSampled v s).changer := by
  unfold ladderSampled bandSample
  repeat' split
  all_goals simp [h]

/-! ### Resets -/

@[simp] theorem raiseIf_tray_changer (b : Bool) (f : FaultKind) (s : State) :
    (raiseIf b f s).tray = s.tray ∧ (raiseIf b f s).changer = s.changer := by
  unfold raiseIf
  split <;> simp

/-- A hardware reset leaves a lawful tray and the Changer at rest, from any state (R19, R45). -/
theorem hardReset_keeps (pins : Pins) (n : Nat) : Keeps s (hardReset pins n s).tray (hardReset pins n s).changer := by
  have tray : (hardReset pins n s).tray = (hardState pins n s).tray := by simp [hardReset]
  have changer : (hardReset pins n s).changer = Changer.reset := by
    simp [hardReset, hardState, State.reset]
  rw [tray, changer]
  exact .of_changerLaw (fun _ => trayLaw_fresh rfl (.inl rfl))
    fun _ => .atRest rfl rfl rfl rfl nofun (Nat.zero_le _) (fun _ => rfl)

@[simp] theorem softLamp_tray_changer (s : State) : (softLamp s).tray = s.tray ∧ (softLamp s).changer = s.changer := by
  unfold softLamp
  split <;> simp

@[simp] theorem softTransport_tray_changer (s : State) :
    (softTransport s).tray = s.tray ∧ (softTransport s).changer = s.changer := by
  unfold softTransport
  dsimp only
  repeat' split
  all_goals exact ⟨rfl, rfl⟩

theorem softChanger_keeps (h : Keeps s0 s.tray s.changer) : Keeps s0 (softChanger s).tray (softChanger s).changer := by
  refine h.trans (.of_changerLaw (fun l => ⟨l.1, fun p hp => ?_⟩) fun _ =>
    .atRest rfl rfl rfl rfl nofun (Nat.zero_le _) (fun _ => rfl))
  simp only [softChanger] at hp
  split at hp
  · cases hp
  · exact l.2 p hp

@[simp] theorem softResetAll_keeps (b : Bool) (h : Keeps s0 s.tray s.changer) :
    Keeps s0 (softResetAll b s).tray (softResetAll b s).changer := by
  have hs := softChanger_keeps (s := softTransport (softProgram b { s with decoder := Decoder.reset, remote := RemoteRx.reset }))
    (by simpa [softProgram] using h)
  simpa [softResetAll, softTrace, softLink, softHeat] using hs

/-! ### Requests -/

/-- A served request keeps the laws when its body keeps them. -/
theorem request_keeps {k : Byte} {n : Nat} {h : Hdr} {body : State → Answer × State}
    (hb : ∀ u : State, Keeps s u.tray u.changer → Keeps s (body u).2.tray (body u).2.changer) :
    Keeps s (request k n h body s).tray (request k n h body s).changer := by
  unfold request
  split
  · exact .refl s
  · refine withThermal_keeps ?_
    unfold serve served
    dsimp only
    split
    · simpa using hb (wake .frame (takePlace (k + 0x80) h.tag s)) (by simp)
    · simp

theorem unlessRefused_keeps {r : State → Option Reason} {f : State → State}
    (hf : Keeps s0 (f s).tray (f s).changer) (h : Keeps s0 s.tray s.changer) :
    Keeps s0 (unlessRefused r f s).2.tray (unlessRefused r f s).2.changer := by
  unfold unlessRefused
  split
  · exact h
  · exact hf

@[simp] theorem writeThreshold_keeps (v : Nat) (h : Keeps s0 s.tray s.changer) :
    Keeps s0 (writeThreshold v s).tray (writeThreshold v s).changer := by
  unfold writeThreshold thresholdLamp
  dsimp only
  split
  · split <;> simpa using h
  · split
    · exact withDarkTest_keeps _ (by simpa using h)
    · exact h
  · simpa using h
  · exact h

/-- An item written leaves tray and Changer lawful (R189). -/
theorem writeItem_keeps {n v : Nat} {u : State} (hw : writeItem n v s = some u) (h : Keeps s0 s.tray s.changer) :
    Keeps s0 u.tray u.changer := by
  unfold writeItem writeEnum at hw
  split at hw
  all_goals first
    | (obtain ⟨b, -, rfl⟩ := Option.map_eq_some_iff.mp hw)
    | (cases hw)
  all_goals first
    | exact h
    | exact writeThreshold_keeps v h
    | simpa [writeShowLoop, apply_ite State.tray, apply_ite State.changer] using h

@[simp] theorem setItemBody_keeps (n v : Nat) (h : Keeps s0 s.tray s.changer) :
    Keeps s0 (setItemBody n v s).2.tray (setItemBody n v s).2.changer := by
  unfold setItemBody
  split
  · next hw => exact writeItem_keeps hw h
  · exact h

@[simp] theorem clearSticky_keeps (f : FaultKind) (h : Keeps s0 s.tray s.changer) :
    Keeps s0 (clearSticky f s).tray (clearSticky f s).changer := by
  have hc : Keeps s0 (clearFault f s).tray (clearFault f s).changer := by simpa using h
  unfold clearSticky
  dsimp only
  split
  · exact startReady_keeps (keeps_unread _ _ _ _ hc)
  · exact startReady_keeps (keeps_unread _ _ _ _ hc)
  · exact startReady_keeps (keeps_unread _ _ _ _ hc)
  · simpa using h
  · exact hc

@[simp] theorem clearEach_keeps (fs : List FaultKind) (h : Keeps s0 s.tray s.changer) :
    Keeps s0 (clearEach fs s).tray (clearEach fs s).changer := by
  induction fs generalizing s with
  | nil => exact h
  | cons f fs ih =>
    unfold clearEach
    split
    · exact ih (clearSticky_keeps f h)
    · exact ih h

@[simp] theorem faultClearBody_keeps (c : Nat) (h : Keeps s0 s.tray s.changer) :
    Keeps s0 (faultClearBody c s).2.tray (faultClearBody c s).2.changer := by
  unfold faultClearBody clearNamed
  repeat' split
  all_goals simp [h]

@[simp] theorem markSlotBody_keeps (slot pres hold value : Nat) (h : Keeps s0 s.tray s.changer) :
    Keeps s0 (markSlotBody slot pres hold value s).2.tray (markSlotBody slot pres hold value s).2.changer := by
  unfold markSlotBody
  repeat' split
  · exact h
  · exact h.trans ⟨fun l => ⟨by simpa [setSlot] using l.1, l.2⟩, id, id⟩
  · exact h

/-- The records and the position stand when a map is replaced. -/
theorem putMap_keeps (n : Nat) (m : SlotSet) (h : Keeps s0 s.tray s.changer) :
    Keeps s0 (putMap n m s.tray) s.changer := by
  unfold putMap
  split <;> exact h.trans ⟨id, id, id⟩

end Sys2Proof.Machine
end

section
/-! ## Every step keeps the laws of tray and Changer -/

namespace Sys2Proof.Machine

variable {s s0 : State}

/-! ### The bodies of the requests -/

@[simp] theorem getItemBody_tray_changer (n : Nat) (s : State) :
    (getItemBody n s).2.tray = s.tray ∧ (getItemBody n s).2.changer = s.changer := by
  unfold getItemBody
  split <;> simp

@[simp] theorem getMapBody_tray_changer (n : Nat) (s : State) :
    (getMapBody n s).2.tray = s.tray ∧ (getMapBody n s).2.changer = s.changer := by
  unfold getMapBody
  split <;> simp

@[simp] theorem selectLampBody_tray_changer (p t : Byte) (s : State) :
    (selectLampBody p t s).2.tray = s.tray ∧ (selectLampBody p t s).2.changer = s.changer := by
  unfold selectLampBody
  repeat' split
  all_goals simp

@[simp] theorem markLampBody_tray_changer (p c : Byte) (s : State) :
    (markLampBody p c s).2.tray = s.tray ∧ (markLampBody p c s).2.changer = s.changer := by
  unfold markLampBody
  repeat' split
  all_goals simp

@[simp] theorem setCueSourceBody_tray_changer (c : Byte) (s : State) :
    (setCueSourceBody c s).2.tray = s.tray ∧ (setCueSourceBody c s).2.changer = s.changer := by
  unfold setCueSourceBody
  split <;> simp

@[simp] theorem writeEntryBody_tray_changer (i : Nat) (raw : List RawAction) (s : State) :
    (writeEntryBody i raw s).2.tray = s.tray ∧ (writeEntryBody i raw s).2.changer = s.changer := by
  unfold writeEntryBody
  repeat' split
  all_goals simp

@[simp] theorem readEntryBody_tray_changer (i m : Nat) (s : State) :
    (readEntryBody i m s).2.tray = s.tray ∧ (readEntryBody i m s).2.changer = s.changer := by
  unfold readEntryBody
  repeat' split
  all_goals simp

@[simp] theorem readCueLogBody_tray_changer (i : Nat) (s : State) :
    (readCueLogBody i s).2.tray = s.tray ∧ (readCueLogBody i s).2.changer = s.changer := by
  unfold readCueLogBody
  split <;> simp

@[simp] theorem setTraceModeBody_tray_changer (m : Nat) (t : BitVec 16) (p : Nat) (s : State) :
    (setTraceModeBody m t p s).2.tray = s.tray ∧ (setTraceModeBody m t p s).2.changer = s.changer := by
  unfold setTraceModeBody
  repeat' split
  all_goals simp

@[simp] theorem readTraceBody_tray_changer (k : Nat) (s : State) :
    (readTraceBody k s).2.tray = s.tray ∧ (readTraceBody k s).2.changer = s.changer := by
  unfold readTraceBody
  split <;> simp

@[simp] theorem protectBody_tray_changer (i : Byte) (s : State) :
    (protectBody i s).2.tray = s.tray ∧ (protectBody i s).2.changer = s.changer := by
  unfold protectBody
  split <;> simp

@[simp] theorem lockBody_tray_changer (c : Byte) (s : State) :
    (lockBody c s).2.tray = s.tray ∧ (lockBody c s).2.changer = s.changer := by
  unfold lockBody
  repeat' split
  all_goals simp

@[simp] theorem writeVolume_tray_changer (v : Nat) (s : State) :
    (writeVolume v s).tray = s.tray ∧ (writeVolume v s).changer = s.changer := ⟨rfl, rfl⟩

theorem powerModeBody_keeps (m t : Byte) (h : Keeps s0 s.tray s.changer) :
    Keeps s0 (powerModeBody m t s).2.tray (powerModeBody m t s).2.changer := by
  unfold powerModeBody
  split <;> simp [h]

theorem stepBody_keeps (n : Int) (t : Byte) (h : Keeps s0 s.tray s.changer) :
    Keeps s0 (stepBody n t s).2.tray (stepBody n t s).2.changer := by
  unfold stepBody
  split <;> simp [h]

theorem gotoBody_keeps (n : Nat) (t : Byte) (h : Keeps s0 s.tray s.changer) :
    Keeps s0 (gotoBody n t s).2.tray (gotoBody n t s).2.changer := by
  unfold gotoBody
  split <;> simp [h]

theorem seekCueBody_keeps (k : Nat) (h : Keeps s0 s.tray s.changer) :
    Keeps s0 (seekCueBody k s).2.tray (seekCueBody k s).2.changer := by
  unfold seekCueBody
  split <;> simp [h]

theorem injectCueBody_keeps (c : Byte) (h : Keeps s0 s.tray s.changer) :
    Keeps s0 (injectCueBody c s).2.tray (injectCueBody c s).2.changer := by
  unfold injectCueBody
  repeat' split
  all_goals simp [h]

/-! ### Frames and the receiver -/

@[simp] theorem rejectFrame_tray_changer (k t : Byte) (r : Reason) (s : State) :
    (rejectFrame k t r s).tray = s.tray ∧ (rejectFrame k t r s).changer = s.changer := by simp [rejectFrame]

theorem execFrameReject_keeps {k t : Byte} {b : Bool} {u : State} (h : execFrameReject k t b s = .next u) :
    Keeps s u.tray u.changer := by
  cases h
  repeat' split
  all_goals simp

theorem execFrameSent_keeps {u : State} (h : execFrameSent s = .next u) : Keeps s u.tray u.changer := by
  cases h
  split
  · split
    · exact softResetAll_keeps _ (.refl s)
    · exact .refl s
  · exact .refl s

/-! ### Every command -/

/-- An outcome that is a next state keeps what its state keeps. -/
theorem next_keeps {u t : State} (h : (.next u : Result) = .next t) (k : Keeps s u.tray u.changer) :
    Keeps s t.tray t.changer := by
  cases h
  exact k

/-- A request whose body keeps the laws, as the outcome of a command. -/
theorem request_next_keeps {k : Byte} {n : Nat} {h : Hdr} {body : State → Answer × State} {t : State}
    (hn : (.next (request k n h body s) : Result) = .next t)
    (hb : ∀ u : State, Keeps s u.tray u.changer → Keeps s (body u).2.tray (body u).2.changer) :
    Keeps s t.tray t.changer := next_keeps hn (request_keeps hb)

/-- An event with its THERMAL report, as the outcome of a command. -/
theorem thermal_next_keeps {f : State → State} {t : State} (hn : (.next (withThermal f s) : Result) = .next t)
    (hf : Keeps s s.tray s.changer → Keeps s (f s).tray (f s).changer) : Keeps s t.tray t.changer :=
  next_keeps hn (withThermal_keeps (hf (.refl s)))

/-- Every command keeps the law of the tray and the law of the Changer. -/
theorem exec_keeps (i : Instr) {t : State} (h : exec i s = .next t) : Keeps s t.tray t.changer := by
  cases i with
  | powerOn pins => exact next_keeps h (hardReset_keeps _ _)
  | resetLine pins => exact next_keeps h (hardReset_keeps _ _)
  | softReset service => exact next_keeps h (softResetAll_keeps _ (.refl s))
  | linkByteTimeout => exact next_keeps h (by split <;> simp)
  | frameReject kind tag checkOk => exact execFrameReject_keeps h
  | frameOverrun => exact next_keeps h (by split <;> simp)
  | frameSent => exact execFrameSent_keeps h
  | identify hd => exact request_next_keeps h fun u hu => hu
  | readStatus hd => exact request_next_keeps h fun u hu => hu
  | getItem hd item => exact request_next_keeps h fun u hu => by simpa using hu
  | setItem hd item value => exact request_next_keeps h fun u => setItemBody_keeps _ _
  | reset hd => exact request_next_keeps h fun u hu => hu
  | faultClear hd code => exact request_next_keeps h fun u => faultClearBody_keeps _
  | setNoticeMask hd mask => exact request_next_keeps h fun u hu => hu
  | powerMode hd mode => exact request_next_keeps h fun u => powerModeBody_keeps _ _
  | step hd n => exact request_next_keeps h fun u => stepBody_keeps _ _
  | goto hd slot => exact request_next_keeps h fun u => gotoBody_keeps _ _
  | pauseMove hd => exact request_next_keeps h fun u => pauseCycle_keeps
  | continueMove hd => exact request_next_keeps h fun u => continueCycle_keeps
  | abortMoves hd => exact request_next_keeps h fun u => abortAll_keeps
  | markSlot hd slot presence hold value => exact request_next_keeps h fun u => markSlotBody_keeps _ _ _ _
  | setMap hd num slots => exact request_next_keeps h fun u hu => unlessRefused_keeps (putMap_keeps _ _ hu) hu
  | getMap hd num => exact request_next_keeps h fun u hu => by simpa using hu
  | selectMap hd num => exact request_next_keeps h fun u hu => unlessRefused_keeps hu hu
  | lampOn hd => exact request_next_keeps h fun u hu => by simpa [lampOnBody] using hu
  | lampOff hd => exact request_next_keeps h fun u hu => withDarkTest_keeps _ (by simpa using hu)
  | fade hd level duration =>
    exact request_next_keeps h fun u hu => unlessRefused_keeps (withDarkTest_keeps _ (by simpa using hu)) hu
  | selectLamp hd pos => exact request_next_keeps h fun u hu => by simpa using hu
  | markLamp hd pos cond => exact request_next_keeps h fun u hu => by simpa using hu
  | focusNudge hd dir duration => exact request_next_keeps h fun u hu => by simpa using hu
  | play hd => exact request_next_keeps h fun u => hostMotion_keeps _ _
  | stop hd => exact request_next_keeps h fun u => hostMotion_keeps _ _
  | pause hd => exact request_next_keeps h fun u => hostMotion_keeps _ _
  | rewind hd => exact request_next_keeps h fun u => hostMotion_keeps _ _
  | wind hd => exact request_next_keeps h fun u => hostMotion_keeps _ _
  | seekCount hd count => exact request_next_keeps h fun u => hostSeek_keeps _ _
  | seekCue hd index => exact request_next_keeps h fun u => seekCueBody_keeps _
  | setVolume hd volume => exact request_next_keeps h fun u hu => hu
  | setCueSource hd source => exact request_next_keeps h fun u hu => by simpa using hu
  | injectCue hd kind => exact request_next_keeps h fun u => injectCueBody_keeps _
  | reference hd => exact request_next_keeps h fun u hu => unlessRefused_keeps hu hu
  | writeEntry hd index actions => exact request_next_keeps h fun u hu => by simpa using hu
  | deleteEntry hd index => exact request_next_keeps h fun u hu => unlessRefused_keeps hu hu
  | readEntry hd index mode => exact request_next_keeps h fun u hu => by simpa using hu
  | clearTable hd => exact request_next_keeps h fun u hu => unlessRefused_keeps hu hu
  | readCueLog hd start => exact request_next_keeps h fun u hu => by simpa using hu
  | clearCueLog hd => exact request_next_keeps h fun u hu => hu
  | chase hd index => exact request_next_keeps h fun u hu => unlessRefused_keeps (runChase_keeps _ _ hu) hu
  | timerStart hd period => exact request_next_keeps h fun u hu => unlessRefused_keeps (by simpa using hu) hu
  | timerStop hd => exact request_next_keeps h fun u hu => by simpa [doneBy] using hu
  | hold hd => exact request_next_keeps h fun u => takeHold_keeps
  | continueShow hd => exact request_next_keeps h fun u => continueHold_keeps
  | setTraceMode hd mode trigger post => exact request_next_keeps h fun u hu => by simpa using hu
  | readTrace hd k => exact request_next_keeps h fun u hu => by simpa using hu
  | protect hd item => exact request_next_keeps h fun u hu => by simpa using hu
  | unprotect hd => exact request_next_keeps h fun u hu => unlessRefused_keeps hu hu
  | lock hd state => exact request_next_keeps h fun u hu => by simpa using hu
  | trayCodeChange code => exact thermal_next_keeps h (trayCodeChanges_keeps _)
  | indexPulse mark => exact thermal_next_keeps h (indexPulseEvent_keeps _)
  | cycleStart => exact thermal_next_keeps h startReady_keeps
  | shutterCloseDone => exact thermal_next_keeps h shutterCloses_keeps
  | liftDone => exact thermal_next_keeps h liftReported_keeps
  | liftTimeout => exact next_keeps h (liftExpires_keeps (.refl s))
  | rotateStallTimeout => exact next_keeps h (stallExpires_keeps (.refl s))
  | dropPathReport => exact next_keeps h (dropReported_keeps (.refl s))
  | dropTimeout => exact thermal_next_keeps h dropExpires_keeps
  | seatReport => exact next_keeps h (seatReported_keeps (.refl s))
  | seatTimeout => exact next_keeps h (seatExpires_keeps (.refl s))
  | settleDone => exact thermal_next_keeps h settleEnds_keeps
  | preheatEnd => exact thermal_next_keeps h fun g => by simp
  | fadeStep current => exact thermal_next_keeps h (fadeStepEvent_keeps _)
  | swapTravelEnd => exact thermal_next_keeps h fun g => by simp
  | heatUpdate reading => exact next_keeps h (heatUpdated_keeps _ (.refl s))
  | fanStallTimeout => exact thermal_next_keeps h fanStalls_keeps
  | fanTachPulse => exact thermal_next_keeps h fanTach_keeps
  | tcoLineChange opened => exact next_keeps h (tcoChanges_keeps _)
  | cassetteChange present =>
    exact thermal_next_keeps h fun g => by
      split
      · simp
      · exact removeCassette_keeps g
  | brakeEnd => exact thermal_next_keeps h brakeEnds_keeps
  | reelTachPulse => exact thermal_next_keeps h reelPulse_keeps
  | leaderChange present => exact thermal_next_keeps h (leaderChanges_keeps _)
  | tapeStallTimeout => exact thermal_next_keeps h tapeStalls_keeps
  | endFadeStep => exact thermal_next_keeps h endFadeAdvance_keeps
  | analysisFrame l1 l2 l3 => exact thermal_next_keeps h (analyse_keeps _ _ _)
  | relayOutFrameSent => exact next_keeps h (by simp)
  | relayOutGapEnd => exact next_keeps h (by simp)
  | relayInFrame bits => exact thermal_next_keeps h (relayFrameTaken_keeps _)
  | relayInTimingError => exact next_keeps h (by simp)
  | relayConflictTimeout => exact next_keeps h (by simp)
  | autoAdvanceExpiry => exact thermal_next_keeps h timerExpires_keeps
  | serviceLineChange asserted => exact next_keeps h (.refl s)
  | irFrame bits => exact thermal_next_keeps h (irFrameTaken_keeps _)
  | irReleaseTimeout => exact thermal_next_keeps h (release_keeps _)
  | ladderBandChange band =>
    exact thermal_next_keeps h fun g => by
      split
      · exact g
      · exact bandChanges_keeps _ g
  | keyRepeat remote => exact thermal_next_keeps h (repeatKey_keeps _)
  | entryWindowExpiry => exact thermal_next_keeps h entryExpires_keeps
  | powerHoldTimeout => exact thermal_next_keeps h powerHeldOn_keeps
  | focusFast => exact next_keeps h (by simp)
  | focusLimit dir asserted => exact next_keeps h (by simp)
  | nudgeEnd => exact next_keeps h (by simp)
  | syncByte => exact next_keeps h (by split <;> simp)
  | lengthByteAbove60 => exact next_keeps h (by split <;> simp)
  | replyReady place => exact next_keeps h (.refl s)
  | irLeader => exact next_keeps h (by simp)
  | irTimingError leaderMark => exact next_keeps h (by simp)
  | relayInStartPulse => exact next_keeps h (by simp)
  | ladderSample sample => exact thermal_next_keeps h (ladderSampled_keeps _)

/-- A step keeps both laws: the command at the front of the queue, or a millisecond, which moves the stage window alone. -/
theorem step_keeps {t : State} (h : step s = .next t) : Keeps s t.tray t.changer := by
  unfold step at h
  split at h
  · next c rest _ =>
    have k := exec_keeps (s := { s with pending := rest }) c h
    exact ⟨k.tray, k.cycle, k.changer⟩
  · exact next_keeps h (keeps_unread _ _ _ _ (.refl s))

end Sys2Proof.Machine

namespace Sys2Proof.Proofs

open Sys2Proof.Machine

/-- Settles O57: each operation keeps the law of the tray and the law of the Changer, and so every command and the
millisecond do (`step_keeps`). -/
theorem everyStepKeepsTrayAndChangerLaws : Obligations.EveryStepKeepsTrayAndChangerLaws := by
  intro s t htray hstep
  have k := step_keeps hstep
  exact ⟨k.tray htray, fun hc => (changerLaw_iff t).mpr (k.changer ((changerLaw_iff s).mp hc))⟩

end Sys2Proof.Proofs
end

section
/-! ## MARK SLOT, SET MAP, GET MAP and SELECT MAP (R10 to R12, R159) -/

namespace Sys2Proof.Machine

variable (s : State)

/-- Outcomes with equal next states are equal. -/
theorem next_congr {u t : State} (h : u = t) : (.next u : Result) = .next t := congrArg Host.Outcome.next h

/-- A request whose body makes one write, of neither the link nor what THERMAL watches, is the write behind its reply. -/
theorem request_writes (k : Byte) (n : Nat) (h : Hdr) (body : State → Answer × State) (a : Answer) (f : State → State)
    (hs : servable s) (hl : h.len.toNat = n) (hlink : ∀ u l, f { u with link := l } = { f u with link := l })
    (hkey : ∀ u, thermalKey (f u) = thermalKey u)
    (hb : body (takePlace (k + 0x80) h.tag s) = (a, f (takePlace (k + 0x80) h.tag s))) :
    request k n h body s = f (replied (k + 0x80) h.tag (answerPayload a) s) := by
  have hplace : f (takePlace (k + 0x80) h.tag s) = { f s with link := (takePlace (k + 0x80) h.tag s).link } := hlink s _
  have hreply : f (replied (k + 0x80) h.tag (answerPayload a) s)
      = { f s with link := (replied (k + 0x80) h.tag (answerPayload a) s).link } := hlink s _
  have hfill : fillReply (answerPayload a) (f (takePlace (k + 0x80) h.tag s))
      = f (replied (k + 0x80) h.tag (answerPayload a) s) := by
    rw [hplace, hreply]
    simp [fillReply, takePlace, replied]
  rw [request_served k n h body s hs hl, hb, hfill]
  exact settleThermal_same _ _ (hkey _)

/-! ### MARK SLOT -/

theorem slotRec_pos {slot : Nat} (h : slot ≠ 0) : slotRec s slot = s.tray.slots[slot - 1]? := by simp [slotRec, h]

/-- The presence actions are coded 0 to 3 (R10). -/
theorem presenceArg_eq_none {n : Nat} (h : 3 < n) : presenceArg n = none := by
  simp only [presenceArg]
  split <;> simp at h ⊢

/-- The hold-override actions are coded 0 to 2 (R10). -/
theorem holdArg_eq_none {n : Nat} (h : 2 < n) : holdArg n = none := by
  simp only [holdArg]
  split <;> simp at h ⊢

/-- A presence code 0..3 declares PRESENT, declares ABSENT, makes the slot UNKNOWN, or keeps it (R10). -/
theorem markPresence_of_code {pres : Byte} (h : pres.toNat ≤ 3) : ∃ a, presenceArg pres.toNat = some a ∧ ∀ r : SlotRec,
    markPresence a r = { r with
      presence := if pres = 0 then .present else if pres = 1 then .absent else if pres = 2 then .unknown else r.presence
      source := if pres = 0 ∨ pres = 1 then .declared else if pres = 2 then .unset else r.source } := by
  obtain rfl | rfl | rfl | rfl : pres = 0 ∨ pres = 1 ∨ pres = 2 ∨ pres = 3 := by bv_omega
  · exact ⟨.present, rfl, fun _ => rfl⟩
  · exact ⟨.absent, rfl, fun _ => rfl⟩
  · exact ⟨.unknown, rfl, fun _ => rfl⟩
  · exact ⟨.keep, rfl, fun _ => rfl⟩

/-- A hold code 0..2 sets the clamped override, removes it, or keeps it (R10). -/
theorem markHold_of_code {hold : Byte} (value : Nat) (h : hold.toNat ≤ 2) : ∃ a, holdArg hold.toNat = some a ∧ ∀ r : SlotRec,
    markHold a value r = { r with
      hold := if hold = 0 then some (clampTo 1 6000 value) else if hold = 1 then none else r.hold } := by
  obtain rfl | rfl | rfl : hold = 0 ∨ hold = 1 ∨ hold = 2 := by bv_omega
  · exact ⟨.set, rfl, fun _ => rfl⟩
  · exact ⟨.remove, rfl, fun _ => rfl⟩
  · exact ⟨.keep, rfl, fun _ => rfl⟩

variable (slot pres hold value : Nat)

theorem markSlotBody_noTray (h : traySize s = 0) : markSlotBody slot pres hold value s = (.refused .noTray, s) := by
  have : traySeated s = false := by simp [traySeated, h]
  simp [markSlotBody, this]

theorem markSlotBody_badArg (hn : 0 < traySize s)
    (h : slotRec s slot = none ∨ presenceArg pres = none ∨ holdArg hold = none) :
    markSlotBody slot pres hold value s = (.refused .badArg, s) := by
  have seated : traySeated s = true := traySeated_iff.mpr hn
  simp only [markSlotBody, seated, not_true_eq_false, if_false]
  split
  · next hr hp hh => simp [hr, hp, hh] at h
  · rfl

theorem markSlotBody_done {r : SlotRec} {p : PresenceAction} {a : HoldAction} (hn : 0 < traySize s)
    (hr : slotRec s slot = some r) (hp : presenceArg pres = some p) (ha : holdArg hold = some a) :
    markSlotBody slot pres hold value s = (.done (slotRecBytes (markHold a value (markPresence p r))),
      setSlot slot (markHold a value (markPresence p r)) s) := by
  have seated : traySeated s = true := traySeated_iff.mpr hn
  simp [markSlotBody, seated, hr, hp, ha]

/-! ### Maps -/

/-- SET MAP is refused for map 0, for a number above 3, and for a protected map with the SERVICE line released (R11,
R159). -/
theorem setMapRefusal_eq {num : Byte} {flag : Bool}
    (h : num = 1 ∧ s.program.protect1 = flag ∨ num = 2 ∧ s.program.protect2 = flag ∨ num = 3 ∧ s.program.protect3 = flag) :
    setMapRefusal num.toNat s = if flag && !s.program.service then some .locked else none := by
  rcases h with ⟨rfl, rfl⟩ | ⟨rfl, rfl⟩ | ⟨rfl, rfl⟩ <;> rfl

/-- Map 0 holds the slots 1..N, and the programmable maps their own (R11). -/
theorem mapContents_getLsbD {num : Byte} (h : num.toNat ≤ 3) {i : Nat} (hi : i < 96) :
    (mapContents num.toNat s).getLsbD i = (if num = 0 then decide (i < traySize s)
      else if num = 1 then s.tray.map1.getLsbD i else if num = 2 then s.tray.map2.getLsbD i else s.tray.map3.getLsbD i) := by
  obtain rfl | rfl | rfl | rfl : num = 0 ∨ num = 1 ∨ num = 2 ∨ num = 3 := by bv_omega
  · change (BitVec.ofNat 96 (2 ^ traySize s - 1)).getLsbD i = decide (i < traySize s)
    rw [BitVec.getLsbD_ofNat, Nat.testBit_two_pow_sub_one]
    simp [hi]
  · rfl
  · rfl
  · rfl

theorem getMapBody_done {num : Byte} (h : num.toNat ≤ 3) :
    getMapBody num.toNat s = (.done (num :: (List.range 12).map (fun i =>
      (mapContents num.toNat s).extractLsb' (8 * i) 8)), s) := by
  simp [getMapBody, Nat.not_lt.mpr h, mapBytes, byte1]

theorem unlessRefused_some {r : State → Option Reason} {f : State → State} {x : Reason} (h : r s = some x) :
    unlessRefused r f s = (.refused x, s) := by simp [unlessRefused, h]

theorem unlessRefused_none {r : State → Option Reason} {f : State → State} (h : r s = none) :
    unlessRefused r f s = (.done [], f s) := by simp [unlessRefused, h]

end Sys2Proof.Machine

namespace Sys2Proof.Proofs

open Sys2Proof.Machine

section

variable {h : Hdr} {s : State} (hs : servable s)
include hs

/-- MARK SLOT refused without a tray, and for a slot or a code out of range (R10). -/
theorem markSlot_refused {slot pres hold : Byte} {value : BitVec 16} (hl : h.len = 5) :
    (traySize s = 0 → exec (.markSlot h slot pres hold value) s = .next (replied 0x95 h.tag [2, 7] s))
    ∧ (0 < traySize s → slot = 0 ∨ s.tray.slots[slot.toNat - 1]? = none ∨ 3 < pres.toNat ∨ 2 < hold.toNat →
      exec (.markSlot h slot pres hold value) s = .next (replied 0x95 h.tag [2, 3] s)) := by
  refine ⟨fun hn => next_congr ?_, fun hn hbad => next_congr ?_⟩
  · exact request_unchanged 0x15 5 h _ (.refused .noTray) s hs (by simp [hl]) (markSlotBody_noTray _ _ _ _ _ hn)
  · refine request_unchanged 0x15 5 h _ (.refused .badArg) s hs (by simp [hl]) (markSlotBody_badArg _ _ _ _ _ hn ?_)
    rcases hbad with rfl | hr | hp | hh
    · exact .inl rfl
    · by_cases hz : slot.toNat = 0
      · exact .inl (by simp [slotRec, hz])
      · exact .inl ((slotRec_pos _ hz).trans hr)
    · exact .inr (.inl (presenceArg_eq_none hp))
    · exact .inr (.inr (holdArg_eq_none hh))

/-- MARK SLOT taken: the record as marked, written and answered (R10). -/
theorem markSlot_done {slot pres hold : Byte} {value : BitVec 16} {r : SlotRec} (hl : h.len = 5) (hn : 0 < traySize s)
    (hslot : slot ≠ 0) (hr : s.tray.slots[slot.toNat - 1]? = some r) (hp : pres.toNat ≤ 3) (hh : hold.toNat ≤ 2) :
    ∃ r', r' = ({
        presence := if pres = 0 then .present else if pres = 1 then .absent else if pres = 2 then .unknown else r.presence
        source := if pres = 0 ∨ pres = 1 then .declared else if pres = 2 then .unset else r.source
        shown := r.shown
        hold := if hold = 0 then some (clampTo 1 6000 value.toNat) else if hold = 1 then none else r.hold } : SlotRec)
      ∧ exec (.markSlot h slot pres hold value) s =
        .next { replied 0x95 h.tag (0 :: slotRecBytes r') s with tray.slots := s.tray.slots.set (slot.toNat - 1) r' } := by
  obtain ⟨p, hparg, hpres⟩ := markPresence_of_code hp
  obtain ⟨a, haarg, hhold⟩ := markHold_of_code value.toNat hh
  have hz : slot.toNat ≠ 0 := fun g => hslot (BitVec.eq_of_toNat_eq g)
  refine ⟨markHold a value.toNat (markPresence p r), by rw [hhold, hpres], next_congr ?_⟩
  exact request_writes s 0x15 5 h _ _ (fun u => { u with tray := { s.tray with slots := s.tray.slots.set _ _ } }) hs
    (by simp [hl]) (fun _ _ => rfl) (fun _ => rfl)
    (markSlotBody_done _ _ _ _ _ hn ((slotRec_pos _ hz).trans hr) hparg haarg)

/-- SET MAP refused: NOT_PERMITTED for map 0, BAD_ARG above 3, LOCKED for a guarded map (R11, R159). -/
theorem setMap_refused {num : Byte} {slots : SlotSet} {x : Reason} (hl : h.len = 13)
    (hx : setMapRefusal num.toNat s = some x) :
    exec (.setMap h num slots) s = .next (replied 0x96 h.tag [2, byte1 (reasonCode x)] s) :=
  next_congr (request_unchanged 0x16 13 h _ (.refused x) s hs (by simp [hl]) (unlessRefused_some _ hx))

/-- SET MAP taken replaces the map's contents (R11). -/
theorem setMap_done {num : Byte} {slots : SlotSet} (hl : h.len = 13) (hx : setMapRefusal num.toNat s = none) :
    exec (.setMap h num slots) s = .next { replied 0x96 h.tag [0] s with tray := putMap num.toNat slots s.tray } :=
  next_congr (request_writes s 0x16 13 h _ (.done []) (fun u => { u with tray := putMap num.toNat slots s.tray }) hs
    (by simp [hl]) (fun _ _ => rfl) (fun _ => rfl) (unlessRefused_none _ hx))

/-- SET MAP, whole (R11, R159). -/
theorem setMap_whole {num : Byte} {slots : SlotSet} (hl : h.len = 13) :
    (num = 0 → exec (.setMap h num slots) s = .next (replied 0x96 h.tag [2, 6] s))
    ∧ (3 < num.toNat → exec (.setMap h num slots) s = .next (replied 0x96 h.tag [2, 3] s))
    ∧ (num = 1 ∧ s.program.protect1 = true ∨ num = 2 ∧ s.program.protect2 = true ∨ num = 3 ∧ s.program.protect3 = true →
      s.program.service = false → exec (.setMap h num slots) s = .next (replied 0x96 h.tag [2, 12] s))
    ∧ (num = 1 → s.program.protect1 = false ∨ s.program.service = true →
      exec (.setMap h num slots) s = .next { replied 0x96 h.tag [0] s with tray.map1 := slots })
    ∧ (num = 2 → s.program.protect2 = false ∨ s.program.service = true →
      exec (.setMap h num slots) s = .next { replied 0x96 h.tag [0] s with tray.map2 := slots })
    ∧ (num = 3 → s.program.protect3 = false ∨ s.program.service = true →
      exec (.setMap h num slots) s = .next { replied 0x96 h.tag [0] s with tray.map3 := slots }) := by
  refine ⟨?_, fun hbig => ?_, fun hflag hserv => ?_, ?_, ?_, ?_⟩
  · rintro rfl
    exact setMap_refused (num := 0) (x := .notPermitted) hs hl rfl
  · exact setMap_refused (x := .badArg) hs hl (by rw [setMapRefusal, if_neg (by omega), if_pos hbig])
  · refine setMap_refused (x := .locked) hs hl ?_
    rw [setMapRefusal_eq s (flag := true) hflag]
    rw [hserv]
    rfl
  · rintro rfl hfree
    exact setMap_done hs hl ((setMapRefusal_eq s (.inl ⟨rfl, rfl⟩)).trans (by rcases hfree with g | g <;> simp [g]))
  · rintro rfl hfree
    exact setMap_done hs hl ((setMapRefusal_eq s (.inr (.inl ⟨rfl, rfl⟩))).trans (by rcases hfree with g | g <;> simp [g]))
  · rintro rfl hfree
    exact setMap_done hs hl ((setMapRefusal_eq s (.inr (.inr ⟨rfl, rfl⟩))).trans (by rcases hfree with g | g <;> simp [g]))

/-- GET MAP and SELECT MAP, whole (R11, R12). -/
theorem getMap_selectMap_whole {num : Byte} (hl : h.len = 1) :
    (num.toNat ≤ 3 → ∃ bits : SlotSet,
      (∀ i, i < 96 → bits.getLsbD i = (if num = 0 then decide (i < traySize s) else if num = 1 then s.tray.map1.getLsbD i
        else if num = 2 then s.tray.map2.getLsbD i else s.tray.map3.getLsbD i))
      ∧ exec (.getMap h num) s =
        .next (replied 0x97 h.tag (0 :: num :: (List.range 12).map (fun i => bits.extractLsb' (8 * i) 8)) s)
      ∧ exec (.selectMap h num) s = .next { replied 0x98 h.tag [0] s with program.activeMap := num.toNat })
    ∧ (3 < num.toNat → exec (.getMap h num) s = .next (replied 0x97 h.tag [2, 3] s)
      ∧ exec (.selectMap h num) s = .next (replied 0x98 h.tag [2, 3] s)) := by
  have hlen : h.len.toNat = 1 := by simp [hl]
  refine ⟨fun hnum => ⟨mapContents num.toNat s, fun i hi => mapContents_getLsbD s hnum hi, next_congr ?_, next_congr ?_⟩,
    fun hnum => ⟨next_congr ?_, next_congr ?_⟩⟩
  · exact request_unchanged 0x17 1 h _ (.done _) s hs hlen (getMapBody_done _ hnum)
  · exact request_writes s 0x18 1 h _ (.done []) (fun u => { u with program := { s.program with activeMap := num.toNat } })
      hs hlen (fun _ _ => rfl) (fun _ => rfl) (unlessRefused_none _ (by simp [badMap, Nat.not_lt.mpr hnum]))
  · exact request_unchanged 0x17 1 h _ (.refused .badArg) s hs hlen (by simp [getMapBody, hnum])
  · exact request_unchanged 0x18 1 h _ (.refused .badArg) s hs hlen (unlessRefused_some _ (by simp [badMap, hnum]))

end

/-- Settles O23, request by request: each body's answer and write stand in a lemma, and a request serves them. -/
theorem slotAndMapRequests : Obligations.SlotAndMapRequests := by
  intro h slot pres hold num value slots s hs
  refine ⟨fun hl => ?_, setMap_whole hs, getMap_selectMap_whole hs⟩
  obtain ⟨noTray, badArg⟩ := markSlot_refused (slot := slot) (pres := pres) (hold := hold) (value := value) hs hl
  exact ⟨noTray, badArg, fun r hn hslot hr hp hh => markSlot_done hs hl hn hslot hr hp hh⟩

end Sys2Proof.Proofs
end

section
/-! ## A change of tray code (R1 to R4, R8) -/

namespace Sys2Proof.Machine

variable (s : State)

/-! ### What the ends of a cycle reach -/

/-- A failed chase reaches the link and the Cue Log alone, and no fault. -/
theorem chaseFailed_spec (o : Option ChaseOwner) (d : Reason) :
    ∃ l c, chaseFailed o d s = { s with link := l, cueLog := c } ∧ l.faults = s.link.faults := by
  unfold chaseFailed endLoop
  split
  · split <;> exact ⟨_, _, rfl, rfl⟩
  · split
    · split
      · exact ⟨_, _, rfl, give_faults _ _⟩
      · exact ⟨_, _, rfl, rfl⟩
    · exact ⟨_, _, rfl, rfl⟩
  · exact ⟨_, _, rfl, rfl⟩

/-- The answers of a cleared queue reach the link and the Cue Log alone, and no fault. -/
theorem failEntries_spec (r : Reason) (es : List MoveEntry) :
    ∃ l c, failEntries r es s = { s with link := l, cueLog := c } ∧ l.faults = s.link.faults := by
  induction es generalizing s with
  | nil => exact ⟨_, _, rfl, rfl⟩
  | cons e es ih =>
    obtain ⟨l1, h1, f1, -⟩ := giveAll_spec (failedNotices e s.tray.position r) s
    obtain ⟨l2, c2, h2, f2⟩ := chaseFailed_spec (giveAll (failedNotices e s.tray.position r) s) e.owner r
    obtain ⟨l3, c3, h3, f3⟩ := ih (chaseFailed e.owner r (giveAll (failedNotices e s.tray.position r) s))
    rw [h2, h1] at h3 f3
    rw [h1] at f2
    exact ⟨l3, c3, by rw [failEntries, h2, h1, h3], f3.trans (f2.trans f1)⟩

/-- A clearing of the queue reaches the link, the Cue Log and the queue, and no fault. -/
theorem clearQueue_spec (r : Reason) :
    ∃ l c, clearQueue r s = { s with link := l, cueLog := c, changer := { s.changer with queue := [] } }
      ∧ l.faults = s.link.faults :=
  failEntries_spec { s with changer.queue := [] } r s.changer.queue

/-- The report of a failed cycle reaches the link, the trace and the Cue Log alone, and no fault. -/
theorem reportFailure_spec (r : Reason) (k : Nat) :
    ∃ l t c, reportFailure r k s = { s with link := l, trace := t, cueLog := c } ∧ l.faults = s.link.faults := by
  unfold reportFailure
  split
  · next y _ =>
    obtain ⟨l1, h1, f1, -⟩ := giveAll_spec (failedNotices y.entry s.tray.position r) s
    rw [h1]
    obtain ⟨l2, t2, h2, f2, -⟩ := offer_spec (.moveFailed s.tray.position y.entry.source r k) { s with link := l1 }
    rw [h2]
    obtain ⟨l3, c3, h3, f3⟩ := chaseFailed_spec { s with link := l2, trace := t2 } y.entry.owner r
    exact ⟨l3, t2, c3, h3, f3.trans (f2.trans f1)⟩
  · exact ⟨_, _, _, rfl, rfl⟩

/-- The records of dropped relay frames reach the link and the trace alone, and no fault. -/
theorem relayLost_spec (r : Reason) (fs : List RelayFrame) :
    ∃ l t, relayLost r fs s = { s with link := l, trace := t } ∧ l.faults = s.link.faults := by
  induction fs generalizing s with
  | nil => exact ⟨_, _, rfl, rfl⟩
  | cons f fs ih =>
    obtain ⟨l1, t1, h1, f1, -⟩ := offer_spec (.relayLost f.index f.kind r) s
    obtain ⟨l2, t2, h2, f2⟩ := ih (offer (.relayLost f.index f.kind r) s)
    rw [h1] at h2 f2
    exact ⟨l2, t2, by rw [relayLost, h1, h2], f2.trans f1⟩

/-- The wake detection of the Remote Receiver reaches the link and the receiver alone, and no fault. -/
theorem sleepRemote_spec : ∃ l r, sleepRemote s = { s with link := l, remote := r } ∧ l.faults = s.link.faults := by
  unfold sleepRemote sleepFocus
  dsimp only
  split
  · exact ⟨_, _, rfl, give_faults _ _⟩
  · exact ⟨_, _, rfl, rfl⟩

/-- The state asleep, before what the receivers and the relay lose (R83). -/
def fallingAsleep (s : State) : State :=
  evalFan { s with heat.power := .sleep, heat.sleepPending := .clear, heat.updateTimer := none, decoder.relayIn := .idle }

/-- The sleep test reaches the link, the trace, the Heat Monitor, the relay and the remotes, and no fault (R83, R84). -/
theorem sleepTest_spec : ∃ l t h d r,
    sleepTest s = { s with link := l, trace := t, heat := h, decoder := d, remote := r } ∧ l.faults = s.link.faults := by
  have stays : ∃ l t h d r, s = { s with link := l, trace := t, heat := h, decoder := d, remote := r }
      ∧ l.faults = s.link.faults := ⟨_, _, _, _, _, rfl, rfl⟩
  unfold sleepTest
  split
  · exact stays
  · next tag _ =>
    split
    · obtain ⟨l1, t1, h1, f1⟩ := relayLost_spec { fallingAsleep s with decoder.relayQueue := [] } .power
        (fallingAsleep s).decoder.relayQueue
      obtain ⟨l2, r2, h2, f2⟩ := sleepRemote_spec
        { fallingAsleep s with decoder.relayQueue := [], link := l1, trace := t1 }
      have hs : enterSleep tag s = powerNotice .sleepEntered none tag (tag.map fun _ => .entered)
          { fallingAsleep s with decoder.relayQueue := [], link := l2, trace := t1, remote := r2 } := by
        rw [← h2, ← h1]
        rfl
      rw [hs]
      exact ⟨_, _, _, _, _, rfl, (give_faults _ _).trans (f2.trans f1)⟩
    · exact stays

/-! ### Faults -/

/-- A fault's bit lies in the fault word. -/
theorem faultCode_bit (f : FaultKind) : faultCode f - 1 < 16 := by cases f <;> decide

theorem hasFault_raiseFault (f : FaultKind) (pos : Option LampPos) : hasFault f (raiseFault f pos s) = true := by
  obtain ⟨l, t, h, -, -, hf⟩ := raiseFault_spec f pos s
  rw [h]
  change l.faults.getLsbD _ = true
  rw [hf]
  split
  · assumption
  · simp [faultMask, faultCode_bit]

theorem hasFault_clearFault (f : FaultKind) : hasFault f (clearFault f s) = false := by
  obtain ⟨l, t, h, -, -, hf⟩ := clearFault_spec f s
  rw [h]
  change l.faults.getLsbD _ = false
  rw [hf]
  split
  · simp [faultMask, faultCode_bit]
  · next hno => exact Bool.eq_false_iff.mpr hno

theorem clearFault_absent {f : FaultKind} {s : State} (h : hasFault f s = false) : clearFault f s = s := by
  simp [clearFault, h]

/-- A command after which what THERMAL watches stands has no report. -/
theorem withThermal_same {f : State → State} {s : State} (h : (f s).heat = s.heat) : withThermal f s = f s :=
  settleThermal_same _ _ (by simp [thermalKey, h])

theorem startReady_empty {s : State} (h : s.changer.queue = []) : startReady s = s := by
  unfold startReady
  split
  · rw [h]; rfl
  · rfl

/-! ### Removal -/

/-- The Changer after a removal: in IDLE its queue is empty, and a cycle is over, the gate UNKNOWN where the arm was at work
(R3, R39). -/
def removedChanger (c : Changer) : Changer :=
  if c.stage = .idle then { c with queue := [] }
  else
    { c with
      stage := .idle, cycle := none, queue := [], pause := .clear, motor := none, liftArm := false, seatWindow := false
      window := none, gate := if c.stage = .lift ∨ c.stage = .drop then .unknown else c.gate }

/-- The Changer halted by a removal, its failure not yet reported (R3, R39). -/
def haltedByRemoval (s : State) : State :=
  { s with
    changer.motor := none, changer.liftArm := false
    changer.gate := if s.changer.stage = .lift ∨ s.changer.stage = .drop then .unknown else s.changer.gate }

/-- What a removal reaches: the Changer as `removedChanger` says, the home search, and reports that raise no fault. -/
theorem removeFromChanger_spec : ∃ l t h d r c k, removeFromChanger s =
    { s with
      link := l, trace := t, heat := h, decoder := d, remote := r, cueLog := c, tray := { s.tray with search := k }
      changer := removedChanger s.changer } ∧ l.faults = s.link.faults ∧ (s.changer.stage = .idle → h = s.heat) := by
  unfold removeFromChanger removedChanger
  dsimp only
  split
  · obtain ⟨l, c, h, hf⟩ := clearQueue_spec s .noTray
    exact ⟨l, _, _, _, _, c, _, h, hf, fun _ => rfl⟩
  · next hs =>
    obtain ⟨l1, t1, c1, h1, f1⟩ := reportFailure_spec (haltedByRemoval s) .noTray s.changer.queue.length
    obtain ⟨l2, c2, h2, f2⟩ := clearQueue_spec { haltedByRemoval s with link := l1, trace := t1, cueLog := c1 } .noTray
    obtain ⟨l3, t3, h3, d3, r3, h4, f3⟩ := sleepTest_spec
      (toIdle { haltedByRemoval s with
        link := l2, trace := t1, cueLog := c2, changer := { (haltedByRemoval s).changer with queue := [] } })
    refine ⟨l3, t3, h3, d3, r3, c2, none, ?_, f3.trans (f2.trans f1), fun g => absurd g hs⟩
    change sleepTest (toIdle (clearQueue .noTray (reportFailure .noTray _ (haltedByRemoval s)))) = _
    rw [h1, h2, h4]
    rfl

end Sys2Proof.Machine
end

section
/-! ## Seating and removal (R1 to R4, R8) -/

namespace Sys2Proof.Machine

variable {s : State} {code : Fin 4}

theorem clearQueue_empty (r : Reason) (h : s.changer.queue = []) : clearQueue r s = s := by
  unfold clearQueue
  rw [h]
  exact congrArg (fun q => { s with changer.queue := q }) h.symm

/-- With the Changer IDLE and nothing queued a removal reaches nothing there. -/
theorem removeFromChanger_idle (hi : s.changer.stage = .idle) (hq : s.changer.queue = []) : removeFromChanger s = s := by
  simp [removeFromChanger, hi, clearQueue_empty .noTray hq]

/-- The tray off its contacts, the Changer as it stands (R3). -/
def trayTaken (code : Fin 4) (s : State) : State :=
  give .trayOut { s with
    tray.code := code, tray.position := none, tray.search := none, tray.slots := [], lines.homeMark := false }

theorem removeTray_idle (hi : s.changer.stage = .idle) (hq : s.changer.queue = []) : removeTray code s = trayTaken code s := by
  rw [removeTray, removeFromChanger_idle hi hq]
  rfl

@[simp] theorem removedChanger_queue (c : Changer) : (removedChanger c).queue = [] := by
  unfold removedChanger
  split <;> rfl

@[simp] theorem removedChanger_stage (c : Changer) : (removedChanger c).stage = .idle := by
  unfold removedChanger
  split
  · assumption
  · rfl

/-- A removal leaves the shutter and the claim as they stand, and the gate but where the arm was at work. -/
theorem removedChanger_gate (c : Changer) : (removedChanger c).shutterOpen = c.shutterOpen
    ∧ (removedChanger c).claim = c.claim
    ∧ (removedChanger c).gate = if c.stage = .lift ∨ c.stage = .drop then .unknown else c.gate := by
  unfold removedChanger
  split
  · next h => exact ⟨rfl, rfl, by simp [h]⟩
  · exact ⟨rfl, rfl, rfl⟩

/-- A removal ends a cycle in progress. -/
theorem removedChanger_ends (c : Changer) (h : c.stage ≠ .idle) :
    (removedChanger c).cycle = none ∧ (removedChanger c).motor = none ∧ (removedChanger c).liftArm = false := by
  simp [removedChanger, h]

/-! ### The code settled -/

/-- TRAY_CODE follows the taken code, through the link and the trace alone (R4). -/
theorem settleTrayCode_spec (code : Fin 4) (s : State) :
    ∃ l t, settleTrayCode code s = { s with link := l, trace := t } ∧
      hasFault .trayCode (settleTrayCode code s) = decide (code = 3) := by
  unfold settleTrayCode
  split
  · next h =>
    obtain ⟨l, t, he, -⟩ := raiseFault_spec .trayCode none s
    exact ⟨l, t, he, by rw [hasFault_raiseFault, decide_eq_true h]⟩
  · next h =>
    obtain ⟨l, t, he, -⟩ := clearFault_spec .trayCode s
    exact ⟨l, t, he, by rw [hasFault_clearFault, decide_eq_false h]⟩

/-- With TRAY_CODE absent a code that names a tray, or none, settles nothing. -/
theorem settleTrayCode_absent (hc : code ≠ 3) (h : hasFault .trayCode s = false) : settleTrayCode code s = s := by
  simp [settleTrayCode, hc, clearFault_absent h]

/-! ### The change by cases -/

theorem trayCodeChanges_same (h : s.tray.code = code) : trayCodeChanges code s = s := by simp [trayCodeChanges, h]

/-- A code taken without a tray seated settles TRAY_CODE and seats the tray it names. -/
theorem trayCodeChanges_unseated (hne : s.tray.code ≠ code) (hn : capacity s.tray.code = 0) :
    trayCodeChanges code s = startReady
      (if 0 < capacity code then seatTray code (settleTrayCode code { s with tray.code := code })
      else settleTrayCode code { s with tray.code := code }) := by
  have : traySeated s = false := Bool.eq_false_iff.mpr fun h => (traySeated_iff.mp h).ne' hn
  simp [trayCodeChanges, hne, this]

/-- A code taken with a tray seated removes it, settles TRAY_CODE, and seats the tray it names. -/
theorem trayCodeChanges_seated (hne : s.tray.code ≠ code) (hn : 0 < capacity s.tray.code) :
    trayCodeChanges code s = startReady
      (if 0 < capacity code then seatTray code (settleTrayCode code (removeTray code s))
      else settleTrayCode code (removeTray code s)) := by
  simp [trayCodeChanges, hne, traySeated_iff.mpr hn]

/-- A start with the queue empty after a code settled without a tray: no tray is seated and none starts. -/
theorem startReady_unseated (h : capacity s.tray.code = 0) : startReady s = s := by
  have : mayStart s = false := Bool.eq_false_iff.mpr fun hm => (mayStart_iff.mp hm).2.1.ne' h
  simp [startReady, this]

theorem seatTray_changer (code : Fin 4) (s : State) : (seatTray code s).changer = s.changer := rfl

end Sys2Proof.Machine

namespace Sys2Proof.Proofs

open Sys2Proof.Machine

variable {s : State} {code : Fin 4}

/-- The command is its change, where what THERMAL watches stands. -/
theorem exec_trayCodeChange {t : State} (h : trayCodeChanges code s = t) (hh : t.heat = s.heat) :
    exec (.trayCodeChange code) s = .next t :=
  next_congr ((withThermal_same (by rw [h, hh])).trans h)

/-- A tray seated where none was, with the code's fault settled first (R2, R4). -/
theorem seating_changes {u : State} (hne : s.tray.code ≠ code) (hn : capacity s.tray.code = 0) (hc : 0 < capacity code)
    (hq : s.changer.queue = []) (hu : settleTrayCode code { s with tray.code := code } = u) :
    exec (.trayCodeChange code) s = .next (seatTray code u) := by
  obtain ⟨l, t, hl, -⟩ := settleTrayCode_spec code { s with tray.code := code }
  rw [hu] at hl
  have hqu : (seatTray code u).changer.queue = [] := by rw [seatTray_changer, hl]; exact hq
  refine exec_trayCodeChange ?_ (by rw [hl]; rfl)
  rw [trayCodeChanges_unseated hne hn, if_pos hc, hu, startReady_empty hqu]

/-- A code that seats nothing, taken where no tray was, settles TRAY_CODE alone (R4). -/
theorem settling_changes (hne : s.tray.code ≠ code) (hn : capacity s.tray.code = 0) (hc : capacity code = 0) :
    exec (.trayCodeChange code) s = .next (settleTrayCode code { s with tray.code := code }) := by
  obtain ⟨l, t, hl, -⟩ := settleTrayCode_spec code { s with tray.code := code }
  have hz : capacity (settleTrayCode code { s with tray.code := code }).tray.code = 0 := by rw [hl]; exact hc
  refine exec_trayCodeChange ?_ (by rw [hl])
  rw [trayCodeChanges_unseated hne hn, if_neg (by omega), startReady_unseated hz]

/-- What a change from a seated tray leaves, whatever the Changer was at (R3, R4). -/
theorem removal_reaches (hs : 0 < capacity s.tray.code) (hne : code ≠ s.tray.code) :
    ∃ t, exec (.trayCodeChange code) s = .next t ∧ t.changer = removedChanger s.changer
      ∧ t.tray = { s.tray with
          code := code, position := if 0 < capacity code then some 0 else none, search := none, slots := freshSlots code }
      ∧ hasFault .trayCode t = decide (code = 3)
      ∧ t.items = s.items ∧ t.lamp = s.lamp ∧ t.transport = s.transport := by
  obtain ⟨l, t, h, d, r, c, k, hr, -, -⟩ := removeFromChanger_spec s
  have hrem : removeTray code s = give .trayOut { s with
      link := l, trace := t, heat := h, decoder := d, remote := r, cueLog := c, changer := removedChanger s.changer
      tray := { s.tray with code := code, position := none, search := none, slots := [] }
      lines := { s.lines with homeMark := false } } := by rw [removeTray, hr]
  obtain ⟨l1, t1, h1, f1⟩ := settleTrayCode_spec code (removeTray code s)
  have hf1 : l1.faults.getLsbD (faultCode .trayCode - 1) = decide (code = 3) := by rw [← f1, h1]; rfl
  rw [hrem] at h1
  refine ⟨_, rfl, ?_⟩
  obtain ⟨l2, t2, h2, f2, -⟩ := settleThermal_spec (thermalKey s) (trayCodeChanges code s)
  rw [withThermal, h2]
  rw [trayCodeChanges_seated hne.symm hs, hrem, h1] at f2 ⊢
  by_cases hc : 0 < capacity code
  · rw [if_pos hc, startReady_empty (by exact removedChanger_queue _)] at f2 ⊢
    have hf : l2.faults = l1.faults := f2.trans (give_faults _ _)
    exact ⟨rfl, by rw [if_pos hc]; rfl, (congrArg (fun w : BitVec 16 => w.getLsbD _) hf).trans hf1, rfl, rfl, rfl⟩
  · rw [if_neg hc, startReady_empty (by exact removedChanger_queue _)] at f2 ⊢
    exact ⟨rfl, by rw [if_neg hc, freshSlots_nil hc]; rfl,
      (congrArg (fun w : BitVec 16 => w.getLsbD _) f2).trans hf1, rfl, rfl, rfl⟩

/-- A change from a seated tray with the Changer IDLE, nothing queued and TRAY_CODE absent is the removal, and then the
seating of the tray the code names (R2, R3). -/
theorem removal_changes (hs : 0 < capacity s.tray.code) (hne : s.tray.code ≠ code) (h3 : code ≠ 3)
    (hi : s.changer.stage = .idle) (hq : s.changer.queue = []) (hf : hasFault .trayCode s = false) :
    exec (.trayCodeChange code) s =
      .next (if 0 < capacity code then seatTray code (trayTaken code s) else trayTaken code s) := by
  have hfault : hasFault .trayCode (trayTaken code s) = false :=
    (congrArg (fun w : BitVec 16 => w.getLsbD _) (give_faults _ _)).trans hf
  refine exec_trayCodeChange ?_ ?_
  · rw [trayCodeChanges_seated hne hs, removeTray_idle hi hq, settleTrayCode_absent h3 hfault]
    refine startReady_empty ?_
    split <;> exact hq
  · split <;> rfl

/-- Settles O21, case by case of the codes before and after: a tray seated (`seating_changes`), one removed or replaced
(`removal_changes`, `removal_reaches`), or TRAY_CODE alone settled (`settling_changes`). -/
theorem trayCodeSeatsAndRemoves : Obligations.TrayCodeSeatsAndRemoves := by
  intro code s
  refine ⟨fun h => ?_, fun h0 hc hq hf => ?_, fun hs hc hi hq hf => ?_, fun h3 hc hq => ?_, fun hs hi hq hf => ?_,
    fun hs hne => ?_, fun h0 hc => ?_, fun h3 hc => ?_⟩
  · exact exec_trayCodeChange (trayCodeChanges_same h) rfl
  · rcases hc with rfl | rfl
    · exact seating_changes (code := 1) (u := { s with tray.code := 1 }) (by simp [h0]) (by simp [h0, capacity]) (by decide) hq
        (settleTrayCode_absent (code := 1) (by decide) hf)
    · exact seating_changes (code := 2) (u := { s with tray.code := 2 }) (by simp [h0]) (by simp [h0, capacity]) (by decide) hq
        (settleTrayCode_absent (code := 2) (by decide) hf)
  · subst hc
    have hn : 0 < capacity s.tray.code := by rcases hs with g | g <;> simp [g, capacity]
    exact removal_changes (code := 0) hn (by rcases hs with g | g <;> simp [g]) (by decide) hi hq hf
  · rcases hc with rfl | rfl
    · obtain ⟨l, t, hl, -⟩ := clearFault_spec .trayCode { s with tray.code := 1 }
      rw [hl]
      exact seating_changes (code := 1) (by simp [h3]) (by simp [h3, capacity]) (by decide) hq hl
    · obtain ⟨l, t, hl, -⟩ := clearFault_spec .trayCode { s with tray.code := 2 }
      rw [hl]
      exact seating_changes (code := 2) (by simp [h3]) (by simp [h3, capacity]) (by decide) hq hl
  · rcases hs with ⟨hs, rfl⟩ | ⟨hs, rfl⟩
    · exact removal_changes (code := 2) (by simp [hs, capacity]) (by simp [hs]) (by decide) hi hq hf
    · exact removal_changes (code := 1) (by simp [hs, capacity]) (by simp [hs]) (by decide) hi hq hf
  · obtain ⟨t, ht, hchg, htray, hfault, rest⟩ :=
      removal_reaches (by rcases hs with g | g <;> simp [g, capacity]) hne
    obtain ⟨hopen, hclaim, hgate⟩ := removedChanger_gate s.changer
    refine ⟨t, ht, ?_⟩
    rw [hchg, htray]
    refine ⟨by simp, by simp, removedChanger_ends _, hopen, hclaim, hgate, ?_, hfault, rest⟩
    fin_cases code <;> rfl
  · subst hc
    exact settling_changes (code := 3) (by simp [h0]) (by simp [h0, capacity]) rfl
  · subst hc
    exact settling_changes (code := 0) (by simp [h3]) (by simp [h3, capacity]) rfl

end Sys2Proof.Proofs
end

section
/-! ## The tray's turns, pulses and home search (R5 to R7, R18, R30, R31) -/

namespace Sys2Proof.Machine

variable {s : State} {dir : Turn} {c : Cycle}

/-! ### Directions and positions -/

/-- The forward distance of a rotation of `k` positions is `k` (R18). -/
theorem forwardDistance {n p t k : Nat} (hp : p ≤ n) (hk : k ≤ n) (h : (p + k) % (n + 1) = t) :
    (t + (n + 1) - p) % (n + 1) = k := by
  rcases Nat.lt_or_ge (p + k) (n + 1) with hlt | hge
  · rw [Nat.mod_eq_of_lt hlt] at h
    rw [show t + (n + 1) - p = k + (n + 1) by omega, Nat.add_mod_right, Nat.mod_eq_of_lt (by omega)]
  · rw [Nat.mod_eq_sub_mod hge, Nat.mod_eq_of_lt (by omega)] at h
    rw [show t + (n + 1) - p = k by omega, Nat.mod_eq_of_lt (by omega)]

theorem turnFor_forward {n p t k : Nat} (hp : p ≤ n) (hk : k ≤ n) (h : (p + k) % (n + 1) = t) :
    turnFor n p t = .forward ↔ 2 * k ≤ n + 1 := by
  simp only [turnFor, forwardDistance hp hk h]
  split <;> simp <;> omega

theorem pulsed_forward {n p : Nat} (h : p ≤ n) : pulsed n p .forward = if p = n then 0 else p + 1 := by
  change (p + 1) % (n + 1) = _
  split
  · next e => rw [e, Nat.mod_self]
  · exact Nat.mod_eq_of_lt (by omega)

theorem pulsed_backward {n p : Nat} (h : p ≤ n) : pulsed n p .backward = if p = 0 then n else p - 1 := by
  change (p + n) % (n + 1) = _
  split
  · next e => rw [e, Nat.zero_add, Nat.mod_eq_of_lt (by omega)]
  · rw [Nat.mod_eq_sub_mod (by omega), Nat.mod_eq_of_lt (by omega)]
    omega

/-! ### A pulse of a rotation -/

/-- The tray at a counted position, the home mark read (R5). -/
def atCount (mark : Bool) (q : Nat) (s : State) : State := { s with lines.homeMark := mark, tray.position := some q }

theorem countPulse_counted {p : Nat} {mark : Bool} (h : mark = false ∨ pulsed (traySize s) p dir = 0) :
    countPulse p dir mark s = { s with tray.position := some (pulsed (traySize s) p dir) } := by
  unfold countPulse
  exact if_neg fun g => h.elim (by simp [g.1]) g.2

theorem countPulse_resync {p : Nat} (h : pulsed (traySize s) p dir ≠ 0) :
    countPulse p dir true s = report (.trayResync (pulsed (traySize s) p dir)) (.trayResync (pulsed (traySize s) p dir))
      { s with tray.position := some 0 } := by
  unfold countPulse
  exact if_pos ⟨rfl, h⟩

theorem report_heat (n : Notice) (b : TraceBody) (s : State) : (report n b s).heat = s.heat := by
  obtain ⟨l, t, h, -⟩ := report_spec n b s
  rw [h]

section Pulse

variable {q : Nat} (hc : s.changer.cycle = some c) (hq : s.tray.position = some q) (hstop : c.stopAtPulse = false)
include hc hq hstop

theorem rotationPulse_arrives (ht : c.target = some q) : rotationPulse s = toDrop s := by
  simp [rotationPulse, hc, hq, hstop, ht]

theorem rotationPulse_pauses (ht : c.target ≠ some q) (hp : s.changer.pause = .pending) :
    rotationPulse s = toPaused s := by
  simp [rotationPulse, hc, hq, hstop, ht, hp]

theorem rotationPulse_goes_on (ht : c.target ≠ some q) (hp : s.changer.pause ≠ .pending) :
    rotationPulse s = { s with changer.window := some 0 } := by
  simp [rotationPulse, hc, hq, hstop, ht, hp]

end Pulse

theorem toDrop_slot {q : Nat} (hq : s.tray.position = some q) (h : q ≠ 0) :
    toDrop s = { s with
      tray.search := none, changer.motor := none, changer.stage := .drop, changer.seatWindow := false
      changer.window := some 0 } := by
  simp [toDrop, hq, h]

theorem toDrop_gap (hq : s.tray.position = some 0) :
    toDrop s = { s with
      tray.search := none, changer.motor := none, changer.gate := .empty, changer.stage := .settle
      changer.seatWindow := false, changer.window := some 0 } := by
  simp [toDrop, hq, toSettle]

/-! ### The pulse as a command -/

theorem indexPulse_still {mark : Bool} (hm : s.changer.motor = none) :
    indexPulseEvent mark s = { s with lines.homeMark := mark, tray.position := none } := by
  simp [indexPulseEvent, hm]

theorem indexPulse_turning {mark : Bool} {p : Nat} (hm : s.changer.motor = some dir) (hp : s.tray.position = some p) :
    indexPulseEvent mark s = startReady (rotationPulse (countPulse p dir mark { s with lines.homeMark := mark })) := by
  simp [indexPulseEvent, hm, hp]

theorem indexPulse_searching {mark : Bool} (hm : s.changer.motor = some dir) (hp : s.tray.position = none) :
    indexPulseEvent mark s = startReady (searchPulse mark { s with lines.homeMark := mark }) := by
  simp [indexPulseEvent, hm, hp]

/-! ### A pulse of a home search -/

/-- The Changer at the moment of a fault: motor and arm stopped, the gate UNKNOWN, the position lost with a stall (R37). -/
def haltedBy (f : FaultKind) (s : State) : State :=
  { s with
    changer.motor := none, changer.liftArm := false, changer.gate := .unknown
    tray.position := if f = .rotateStall then none else s.tray.position }

/-- Past its stage a changer fault reaches the Changer, the home search, the position, the Cue Log and the reports; the fault
stands (R37). -/
theorem changerFails_spec (f : FaultKind) (r : Reason) (s : State) : ∃ l t h d e g,
    changerFails f r s = { s with
      link := l, trace := t, heat := h, decoder := d, remote := e, cueLog := g
      tray.search := none, tray.position := if f = .rotateStall then none else s.tray.position
      changer.stage := .idle, changer.cycle := none, changer.queue := [], changer.pause := .clear, changer.motor := none
      changer.liftArm := false, changer.seatWindow := false, changer.window := none, changer.gate := .unknown }
      ∧ hasFault f (changerFails f r s) = true := by
  obtain ⟨l1, t1, h1, -⟩ := raiseFault_spec f none (haltedBy f s)
  have f1 := hasFault_raiseFault (haltedBy f s) f none
  obtain ⟨l2, t2, c2, h2, f2⟩ := reportFailure_spec (raiseFault f none (haltedBy f s)) r s.changer.queue.length
  obtain ⟨l3, c3, h3, f3⟩ := clearQueue_spec (reportFailure r s.changer.queue.length (raiseFault f none (haltedBy f s))) r
  obtain ⟨l4, t4, h4, d4, e4, k4, f4⟩ :=
    sleepTest_spec (toIdle (clearQueue r (reportFailure r s.changer.queue.length (raiseFault f none (haltedBy f s)))))
  have fall : changerFails f r s
      = sleepTest (toIdle (clearQueue r (reportFailure r s.changer.queue.length (raiseFault f none (haltedBy f s))))) := rfl
  have faults : l4.faults = (raiseFault f none (haltedBy f s)).link.faults := by
    rw [f4, toIdle, h3]
    exact f3.trans ((congrArg (fun v : State => v.link.faults) h2).trans f2)
  rw [fall, k4]
  refine ⟨l4, t4, h4, d4, e4, c3, ?_, (congrArg (fun w : BitVec 16 => w.getLsbD _) faults).trans f1⟩
  rw [h3, h2, h1]
  rfl

section Search

variable {mark : Bool} {k : Nat} (hk : s.tray.search.getD 0 = k)
include hk

/-- Short of N + 1 pulses without the mark the search goes on, the pulse counted (R7). -/
theorem searchPulse_counts (hn : k < traySize s) (hp : s.changer.pause ≠ .pending) :
    searchPulse false s = { s with tray.search := some (k + 1), changer.window := some 0 } := by
  simp [searchPulse, hk, Nat.not_le.mpr hn, hp]

/-- The pulse after the N-th without the mark is a stall (R7; log 67). -/
theorem searchPulse_stalls (hn : traySize s ≤ k) : searchPulse false s = changerFails .rotateStall .rotateStall s := by
  simp [searchPulse, hk, hn]

end Search

theorem rotateTo_drives {p t : Nat} (ht : t ≠ p) (hp : s.changer.pause ≠ .pending) :
    rotateTo p t s = driveMotor (turnFor (traySize s) p t) s := by simp [rotateTo, ht, hp]

theorem searchFound_target {g : Nat} (hc : s.changer.cycle = some c) (ht : c.target = some g) :
    searchFound s = rotateTo 0 g { s with tray.position := some 0, tray.search := none } := by
  unfold searchFound
  simp only [hc, ht]

/-- The mark ends a search; toward a known slot the motor goes on the short way from the gap (R7, R18). -/
theorem searchPulse_finds {g : Nat} (hc : s.changer.cycle = some c) (ht : c.target = some g) (hg : g ≠ 0)
    (hp : s.changer.pause ≠ .pending) : searchPulse true s = { s with
      tray.position := some 0, tray.search := none, changer.stage := .rotate
      changer.motor := some (turnFor (traySize s) 0 g), changer.window := some 0 } := by
  change searchFound s = _
  rw [searchFound_target hc ht, rotateTo_drives hg (by exact hp)]
  rfl

end Sys2Proof.Machine

namespace Sys2Proof.Proofs

open Sys2Proof.Machine

variable {s : State} {mark : Bool}

/-- The command is its event, where what THERMAL watches stands. -/
theorem exec_indexPulse {t : State} (h : indexPulseEvent mark s = t) (hh : t.heat = s.heat) :
    exec (.indexPulse mark) s = .next t :=
  next_congr ((withThermal_same (by rw [h, hh])).trans h)

section Rotation

variable {dir : Turn} {p q : Nat} {c : Cycle} (hm : s.changer.motor = some dir) (hp : s.tray.position = some p)
  (hs : s.changer.stage = .rotate) (hc : s.changer.cycle = some c) (hstop : c.stopAtPulse = false)
  (hq : pulsed (traySize s) p dir = q)
include hm hp hs hc hstop hq

/-- A pulse that the mark does not correct moves the position by one, and ends, pauses or goes on (R5, R18, R31, R40). -/
theorem countedPulse (hmark : mark = false ∨ q = 0) :
    (c.target = some q → q ≠ 0 → exec (.indexPulse mark) s =
      .next { s with
        lines.homeMark := mark, tray.position := some q, tray.search := none, changer.motor := none
        changer.stage := .drop, changer.seatWindow := false, changer.window := some 0 })
    ∧ (c.target = some q → q = 0 → exec (.indexPulse mark) s =
      .next { s with
        lines.homeMark := mark, tray.position := some 0, tray.search := none, changer.motor := none
        changer.gate := .empty, changer.stage := .settle, changer.seatWindow := false, changer.window := some 0 })
    ∧ (c.target ≠ some q → s.changer.pause = .pending → exec (.indexPulse mark) s =
      .next { s with
        lines.homeMark := mark, tray.position := some q, changer.motor := none, changer.stage := .paused
        changer.pause := .paused, changer.window := none })
    ∧ (c.target ≠ some q → s.changer.pause ≠ .pending → exec (.indexPulse mark) s =
      .next { s with lines.homeMark := mark, tray.position := some q, changer.window := some 0 }) := by
  have turned : indexPulseEvent mark s
      = startReady (rotationPulse (atCount mark q s)) := by
    subst hq
    rw [indexPulse_turning hm hp, countPulse_counted (s := { s with lines.homeMark := mark }) hmark]
    rfl
  have arrives := fun ht => rotationPulse_arrives (s := atCount mark q s) hc rfl hstop ht
  refine ⟨fun ht hz => exec_indexPulse ?_ rfl, fun ht hz => exec_indexPulse ?_ rfl, fun ht hpause => exec_indexPulse ?_ rfl,
    fun ht hpause => exec_indexPulse ?_ rfl⟩
  · rw [turned, arrives ht, toDrop_slot (s := atCount mark q s) rfl hz]
    exact startReady_busy nofun
  · subst hz
    rw [turned, arrives ht, toDrop_gap (s := atCount mark 0 s) rfl]
    exact startReady_busy nofun
  · rw [turned, rotationPulse_pauses (s := atCount mark q s) hc rfl hstop ht hpause]
    exact startReady_busy nofun
  · rw [turned, rotationPulse_goes_on (s := atCount mark q s) hc rfl hstop ht hpause]
    exact startReady_busy (by simp [atCount, hs])

/-- A pulse under the mark at another count is corrected to the gap with TRAY RESYNC, and the rotation goes on (R6). -/
theorem resyncPulse (hz : q ≠ 0) (ht : c.target ≠ some 0) (hpause : s.changer.pause ≠ .pending) :
    exec (.indexPulse true) s = .next
      { report (.trayResync q) (.trayResync q) { s with lines.homeMark := true, tray.position := some 0 } with
        changer.window := some 0 } := by
  subst hq
  have turned : indexPulseEvent true s = startReady (rotationPulse (report (.trayResync (pulsed (traySize s) p dir))
      (.trayResync (pulsed (traySize s) p dir)) (atCount true 0 s))) :=
    (indexPulse_turning hm hp).trans
      (congrArg (startReady ∘ rotationPulse) (countPulse_resync (s := { s with lines.homeMark := true }) hz))
  refine exec_indexPulse ?_ (report_heat _ _ (atCount true 0 s))
  rw [turned, rotationPulse_goes_on (c := c) (q := 0) (by simp [atCount, hc]) (by simp [atCount]) hstop ht
    (by simpa [atCount] using hpause)]
  exact startReady_busy (by simp [atCount, hs])

end Rotation

section Search

variable {dir : Turn} {k : Nat} {c : Cycle} (hm : s.changer.motor = some dir) (hp : s.tray.position = none)
include hm hp

/-- A pulse of the search without the mark is counted (R7). -/
theorem searchGoesOn (hs : s.changer.stage = .rotate) (hk : s.tray.search.getD 0 = k) (hn : k < traySize s)
    (hpause : s.changer.pause ≠ .pending) : exec (.indexPulse false) s =
      .next { s with lines.homeMark := false, tray.search := some (k + 1), changer.window := some 0 } := by
  refine exec_indexPulse ?_ rfl
  rw [indexPulse_searching hm hp, searchPulse_counts (s := { s with lines.homeMark := false }) hk hn hpause]
  exact startReady_busy (by simp [hs])

/-- The pulse after the N-th without the mark raises ROTATE_STALL and ends the cycle (R7, R37). -/
theorem searchStalls (hk : s.tray.search.getD 0 = k) (hn : traySize s ≤ k) :
    ∃ t, exec (.indexPulse false) s = .next t ∧ hasFault .rotateStall t = true
      ∧ t.changer.stage = .idle ∧ t.changer.motor = none ∧ t.changer.gate = .unknown ∧ t.changer.queue = []
      ∧ t.tray = { s.tray with search := none } ∧ t.items = s.items ∧ t.lamp = s.lamp ∧ t.transport = s.transport := by
  obtain ⟨l, t, h, d, e, g, hspec, hfault⟩ := changerFails_spec .rotateStall .rotateStall { s with lines.homeMark := false }
  have event : indexPulseEvent false s = changerFails .rotateStall .rotateStall { s with lines.homeMark := false } := by
    rw [indexPulse_searching hm hp, searchPulse_stalls (s := { s with lines.homeMark := false }) hk hn]
    exact startReady_empty (by rw [hspec])
  obtain ⟨l2, t2, h2, f2, -⟩ := settleThermal_spec (thermalKey s) (indexPulseEvent false s)
  refine ⟨_, rfl, ?_⟩
  rw [withThermal, h2, event, hspec]
  rw [event] at f2
  exact ⟨(congrArg (fun w : BitVec 16 => w.getLsbD _) f2).trans hfault, rfl, rfl, rfl, rfl, by simp [hp], rfl, rfl, rfl⟩

/-- The mark ends the search, and the rotation goes on to a known slot (R7). -/
theorem searchFinds {g : Nat} (hc : s.changer.cycle = some c) (ht : c.target = some g) (hg : g ≠ 0)
    (hpause : s.changer.pause ≠ .pending) : exec (.indexPulse true) s = .next { s with
      lines.homeMark := true, tray.position := some 0, tray.search := none, changer.stage := .rotate
      changer.motor := some (turnFor (traySize s) 0 g), changer.window := some 0 } := by
  refine exec_indexPulse ?_ rfl
  rw [indexPulse_searching hm hp, searchPulse_finds (s := { s with lines.homeMark := true }) hc ht hg hpause]
  exact startReady_busy nofun

end Search

/-- Settles O20: the arithmetic of directions and positions, the pulse of a rotation (`countedPulse`, `resyncPulse`), and
the pulse of a home search (`searchGoesOn`, `searchStalls`, `searchFinds`). -/
theorem trayTurnsAndFindsItsMark : Obligations.TrayTurnsAndFindsItsMark := by
  refine ⟨fun n p t k hp _ hk ht => ⟨turnFor_forward hp hk ht, pulsed_forward hp, pulsed_backward hp⟩,
    fun mark s => ⟨fun hm => exec_indexPulse (indexPulse_still hm) rfl, fun dir p q c hm hp hs hc hstop hq => ⟨?_, ?_⟩⟩,
    fun dir k c s hm hp hs hc hk => ⟨?_, ?_, ?_⟩⟩
  · exact countedPulse hm hp hs hc hstop hq
  · rintro rfl hz ht hpause
    exact resyncPulse hm hp hs hc hstop hq hz ht hpause
  · exact searchGoesOn hm hp hs hk
  · exact searchStalls hm hp hk
  · exact fun g => searchFinds hm hp hc

end Sys2Proof.Proofs
end

section
/-! ## The STEP walk (R13 to R16) -/

namespace Sys2Proof.Machine

/-! ### Lists of slots -/

section Lists

variable {p : Nat → Bool} {n c d t i lo : Nat}

theorem mem_slotsUp {x hi : Nat} : x ∈ slotsUp lo hi ↔ lo ≤ x ∧ x ≤ hi := by
  simp only [slotsUp, List.mem_range'_1]
  omega

/-- The slots from `lo` to `hi`, cut at one of them. -/
theorem slotsUp_split (h1 : lo ≤ t) (h2 : t ≤ n) :
    slotsUp lo n = List.range' lo (t - lo) ++ t :: slotsUp (t + 1) n := by
  have e : n + 1 - lo = (t - lo) + (1 + (n - t)) := by omega
  have ht : lo + (t - lo) = t := by omega
  rw [slotsUp, slotsUp, e, ← List.range'_append_1, ht, Nat.add_comm 1, List.range'_succ]
  congr 3
  omega

/-- In a list without doubles the place of an element kept by a filter is the number of those kept before it. -/
theorem length_filter_prefix {l r : List Nat} (hnd : (l ++ t :: r).Nodup) (ht : p t = true)
    (h : ((l ++ t :: r).filter p)[i]? = some t) : (l.filter p).length = i := by
  have hf : (l ++ t :: r).filter p = l.filter p ++ t :: r.filter p := by simp [ht]
  rw [hf] at h
  refine (List.getElem?_inj (l := l.filter p ++ t :: r.filter p) (by simp) (hf ▸ hnd.filter p)).mp ?_
  rw [h]
  simp

/-- The slot kept at place `i` of an upward walk: `i` slots are kept before it, and the rest after it. -/
theorem upward_place (h : ((slotsUp lo n).filter p)[i]? = some t) :
    lo ≤ t ∧ t ≤ n ∧ p t = true ∧ ((List.range' lo (t - lo)).filter p).length = i
      ∧ ((slotsUp lo n).filter p).length = i + 1 + ((slotsUp (t + 1) n).filter p).length := by
  obtain ⟨hm, ht⟩ := List.mem_filter.mp (List.mem_of_getElem? h)
  obtain ⟨h1, h2⟩ := mem_slotsUp.mp hm
  have split := slotsUp_split h1 h2
  have hi : ((List.range' lo (t - lo)).filter p).length = i :=
    length_filter_prefix (split ▸ List.nodup_range') ht (split ▸ h)
  refine ⟨h1, h2, ht, hi, ?_⟩
  rw [split]
  simp [ht, hi]
  omega

/-- The slot kept at place `i` of a downward walk from `n`: `i` slots are kept above it, and the rest below it. -/
theorem downward_place (h : ((slotsUp lo n).reverse.filter p)[i]? = some t) :
    lo ≤ t ∧ t ≤ n ∧ p t = true ∧ ((slotsUp (t + 1) n).filter p).length = i
      ∧ ((slotsUp lo n).reverse.filter p).length = i + 1 + ((List.range' lo (t - lo)).filter p).length := by
  obtain ⟨hm, ht⟩ := List.mem_filter.mp (List.mem_of_getElem? h)
  obtain ⟨h1, h2⟩ := mem_slotsUp.mp (List.mem_reverse.mp hm)
  have split : (slotsUp lo n).reverse = (slotsUp (t + 1) n).reverse ++ t :: (List.range' lo (t - lo)).reverse := by
    simp [slotsUp_split h1 h2]
  have hnd : (slotsUp lo n).reverse.Nodup := List.nodup_reverse.mpr List.nodup_range'
  have hi : ((slotsUp (t + 1) n).filter p).length = i := by
    have := length_filter_prefix (l := (slotsUp (t + 1) n).reverse) (split ▸ hnd) ht (split ▸ h)
    simpa using this
  refine ⟨h1, h2, ht, hi, ?_⟩
  rw [split]
  simp [ht, hi]
  omega

/-- A list that keeps nothing keeps no element. -/
theorem not_of_filter_length_zero {l : List Nat} (h : (l.filter p).length = 0) {x : Nat} (hx : x ∈ l) : p x = false := by
  have := List.filter_eq_nil_iff.mp (List.length_eq_zero_iff.mp h) x hx
  simpa using this

end Lists

/-! ### Turns -/

section Turns

variable {p : Nat → Bool} {n c t : Nat} {forward : Bool}

/-- Kept slots lie in the tray. -/
def InTray (n : Nat) (p : Nat → Bool) : Prop := ∀ x, p x = true → 1 ≤ x ∧ x ≤ n

/-- All turns of a direction keep the same slots in the same cyclic order (R14, R16). -/
theorem turn_isRotated (hc : c ≤ n) : (visitTurn n c forward).filter p
    ~r (if forward then (slotsUp 1 n).filter p else (slotsUp 1 n).reverse.filter p) := by
  have up : ∀ a, a ≤ n → slotsUp 1 n = slotsUp 1 a ++ slotsUp (a + 1) n := by
    intro a ha
    have e : n + 1 - 1 = (a + 1 - 1) + (n + 1 - (a + 1)) := by omega
    rw [slotsUp, slotsUp, slotsUp, e, ← List.range'_append_1]
    congr 2
    omega
  cases forward with
  | true =>
    simp only [visitTurn, if_true, List.filter_append]
    rw [up c hc, List.filter_append]
    exact List.isRotated_append
  | false =>
    simp only [visitTurn, Bool.false_eq_true, if_false]
    split
    · exact .refl _
    · next hz =>
      rw [up (c - 1) (by omega), Nat.sub_add_cancel (by omega), List.filter_append, List.reverse_append, List.filter_append]
      exact List.isRotated_append

/-- A turn keeps exactly the slots there are to keep. -/
theorem mem_turn (hp : InTray n p) (hc : c ≤ n) {x : Nat} : x ∈ (visitTurn n c forward).filter p ↔ p x = true := by
  rw [(turn_isRotated hc).mem_iff]
  have h : p x = true → x ∈ slotsUp 1 n := fun g => mem_slotsUp.mpr (hp x g)
  cases forward <;> simpa using h

theorem nodup_turn (hc : c ≤ n) : ((visitTurn n c forward).filter p).Nodup := by
  rw [(turn_isRotated hc).nodup_iff]
  have h : (slotsUp 1 n).Nodup := List.nodup_range'
  cases forward
  · exact (List.nodup_reverse.mpr h).filter p
  · exact h.filter p

/-- A turn from a kept slot ends in that slot (R14, R16). -/
theorem turn_ends (ht1 : 1 ≤ t) (ht : p t = true) (htn : t ≤ n) : ∃ l, (visitTurn n t forward).filter p = l ++ [t] := by
  cases forward with
  | true =>
    refine ⟨(slotsUp (t + 1) n).filter p ++ (List.range' 1 (t - 1)).filter p, ?_⟩
    have last : slotsUp 1 t = List.range' 1 (t - 1) ++ [t] := by
      rw [slotsUp_split ht1 (Nat.le_refl t)]
      simp [slotsUp]
    simp [visitTurn, last, ht]
  | false =>
    refine ⟨(slotsUp 1 (t - 1)).reverse.filter p ++ (slotsUp (t + 1) n).reverse.filter p, ?_⟩
    have last : slotsUp t n = t :: slotsUp (t + 1) n := by
      rw [slotsUp_split (Nat.le_refl t) htn]
      simp
    simp [visitTurn, Nat.ne_of_gt ht1, last, ht]

/-- In a rotation of a list that ends in the element at place `k`, the first element is the one after it. -/
theorem rotated_head {l r u : List Nat} {k : Nat} (hr : l ~r r) (hnd : l.Nodup) (hu : r = u ++ [t]) (hk : l[k]? = some t) :
    r[0]? = l[(k + 1) % l.length]? := by
  obtain ⟨j, rfl⟩ := hr
  have hlen : u.length + 1 = l.length := by simpa using (congrArg List.length hu).symm
  have hpos : 0 < l.length := by omega
  have hlast : (l.rotate j)[u.length]? = some t := by simp [hu]
  rw [List.getElem?_rotate (by omega)] at hlast ⊢
  have hkj : k = (u.length + j) % l.length :=
    (List.getElem?_inj (List.getElem?_eq_some_iff.mp hk).1 hnd).mp (hk.trans hlast.symm)
  rw [hkj, Nat.mod_add_mod, show u.length + j + 1 = j + l.length by omega, Nat.add_mod_right, Nat.zero_add]

end Turns

end Sys2Proof.Machine
end

section
/-! ## Where a walk ends (R14 to R16) -/

namespace Sys2Proof.Machine

/-! ### The end of the tray -/

section Ends

variable {p : Nat → Bool} {n c d t i : Nat}

/-- An upward walk that counts `i + 1` slots to `t`: that many are kept past `c` up to `t`, and when it keeps no more none
lies past `t` (R14, R15). -/
theorem upward_count (hp : InTray n p) (h : ((slotsUp (c + 1) n).filter p)[i]? = some t) :
    c ≤ t ∧ ((List.range' (c + 1) (t - c)).filter p).length = i + 1
      ∧ (((slotsUp (c + 1) n).filter p).length = i + 1 → ∀ x, t < x → p x = false) := by
  obtain ⟨h1, h2, ht, hi, hlen⟩ := upward_place h
  refine ⟨by omega, ?_, fun hall x hx => Bool.eq_false_iff.mpr fun hpx => ?_⟩
  · have last : List.range' (c + 1) (t - c) = List.range' (c + 1) (t - (c + 1)) ++ [t] := by
      rw [show t - c = t - (c + 1) + 1 by omega, List.range'_concat, Nat.one_mul, show c + 1 + (t - (c + 1)) = t by omega]
    simp [last, ht, hi]
  · have zero : ((slotsUp (t + 1) n).filter p).length = 0 := by omega
    simpa [hpx] using not_of_filter_length_zero zero (mem_slotsUp.mpr ⟨hx, (hp x hpx).2⟩)

/-- A downward walk from below `d` that counts `i + 1` slots to `t`: that many are kept from `t` to below `d`, and when it
keeps no more none lies before `t` (R14, R15). -/
theorem downward_count (hp : InTray n p) (h : ((slotsUp 1 (d - 1)).reverse.filter p)[i]? = some t) :
    1 ≤ t ∧ t < d ∧ ((List.range' t (d - t)).filter p).length = i + 1
      ∧ (((slotsUp 1 (d - 1)).reverse.filter p).length = i + 1 → ∀ x, x < t → p x = false) := by
  obtain ⟨h1, h2, ht, hi, hlen⟩ := downward_place h
  refine ⟨h1, by omega, ?_, fun hall x hx => Bool.eq_false_iff.mpr fun hpx => ?_⟩
  · have first : List.range' t (d - t) = t :: slotsUp (t + 1) (d - 1) := by
      rw [show d - t = d - 1 + 1 - (t + 1) + 1 by omega, List.range'_succ, slotsUp]
    simp [first, ht, hi]
  · have zero : ((List.range' 1 (t - 1)).filter p).length = 0 := by omega
    have hx1 := (hp x hpx).1
    simpa [hpx] using not_of_filter_length_zero zero (List.mem_range'_1.mpr (by omega : 1 ≤ x ∧ x < 1 + (t - 1)))

/-- The first slot kept on a turn forward from `c`: none is kept between, going round past `n` when it lies at or before
`c` (R14, R16). -/
theorem turn_first_forward (hp : InTray n p) (h : ((visitTurn n c true).filter p)[0]? = some t) :
    (c < t → ∀ x, c < x → x < t → p x = false) ∧ (t ≤ c → ∀ x, c < x ∨ x < t → p x = false) := by
  rw [visitTurn, if_pos rfl, List.filter_append] at h
  by_cases hu : (slotsUp (c + 1) n).filter p = []
  · rw [hu, List.nil_append] at h
    obtain ⟨-, h2, -, hi, -⟩ := upward_place h
    refine ⟨fun g => absurd h2 (by omega), fun _ x hx => Bool.eq_false_iff.mpr fun hpx => ?_⟩
    obtain ⟨hx1, hxn⟩ := hp x hpx
    rcases hx with hx | hx
    · exact List.filter_eq_nil_iff.mp hu x (mem_slotsUp.mpr ⟨hx, hxn⟩) hpx
    · simpa [hpx] using not_of_filter_length_zero hi (List.mem_range'_1.mpr (by omega : 1 ≤ x ∧ x < 1 + (t - 1)))
  · rw [List.getElem?_append_left (List.length_pos_of_ne_nil hu)] at h
    obtain ⟨h1, -, -, hi, -⟩ := upward_place h
    exact ⟨fun _ x hcx hxt => not_of_filter_length_zero hi (List.mem_range'_1.mpr (by omega)), fun g => absurd h1 (by omega)⟩

/-- The slots kept on a turn backward from `c`, slot 0 being none. -/
theorem turn_backward (hp : InTray n p) : (visitTurn n c false).filter p
    = (slotsUp 1 (c - 1)).reverse.filter p ++ (slotsUp c n).reverse.filter p := by
  simp only [visitTurn, Bool.false_eq_true, if_false]
  split
  · next hz =>
    have h0 : p 0 = false := Bool.eq_false_iff.mpr fun g => absurd (hp 0 g).1 (by omega)
    subst hz
    simp [slotsUp, List.range'_succ, h0]
  · exact List.filter_append _ _

/-- The first slot kept on a turn backward from `c`: none is kept between, going round past 1 when it lies at or after `c`
(R14, R16). -/
theorem turn_first_backward (hp : InTray n p) (h : ((visitTurn n c false).filter p)[0]? = some t) :
    (t < c → ∀ x, t < x → x < c → p x = false) ∧ (c ≤ t → ∀ x, x < c ∨ t < x → p x = false) := by
  rw [turn_backward hp] at h
  by_cases hu : (slotsUp 1 (c - 1)).reverse.filter p = []
  · rw [hu, List.nil_append] at h
    obtain ⟨h1, -, -, hi, -⟩ := downward_place h
    refine ⟨fun g => absurd h1 (by omega), fun _ x hx => Bool.eq_false_iff.mpr fun hpx => ?_⟩
    obtain ⟨hx1, hxn⟩ := hp x hpx
    rcases hx with hx | hx
    · exact List.filter_eq_nil_iff.mp hu x (List.mem_reverse.mpr (mem_slotsUp.mpr (by omega : 1 ≤ x ∧ x ≤ c - 1))) hpx
    · simpa [hpx] using not_of_filter_length_zero hi (mem_slotsUp.mpr ⟨hx, hxn⟩)
  · rw [List.getElem?_append_left (List.length_pos_of_ne_nil hu)] at h
    obtain ⟨h1, h2, -, hi, -⟩ := downward_place h
    refine ⟨fun _ x htx hxc => ?_, fun g => absurd h2 (by omega)⟩
    exact not_of_filter_length_zero hi (mem_slotsUp.mpr ⟨htx, Nat.le_sub_one_of_lt hxc⟩)

end Ends

/-! ### Eligible slots -/

variable {s : State} {m c : Nat} {n : Int} {w : WalkEnd}

/-- R13: in the tray, in the map, and not ABSENT under SKIP_EMPTIES. -/
theorem eligible_iff (hm : m ≤ 3) (x : Nat) : eligible s m x = true ↔
    1 ≤ x ∧ x ≤ traySize s
      ∧ (m = 1 ∧ s.tray.map1.getLsbD (x - 1) = true ∨ m = 2 ∧ s.tray.map2.getLsbD (x - 1) = true
        ∨ m = 3 ∧ s.tray.map3.getLsbD (x - 1) = true ∨ m = 0)
      ∧ (s.items.skipEmpties = false ∨ ∀ r, s.tray.slots[x - 1]? = some r → r.presence ≠ .absent) := by
  have map : (m == 0 || (mapBits s.tray m).getLsbD (x - 1)) = true ↔
      m = 1 ∧ s.tray.map1.getLsbD (x - 1) = true ∨ m = 2 ∧ s.tray.map2.getLsbD (x - 1) = true
        ∨ m = 3 ∧ s.tray.map3.getLsbD (x - 1) = true ∨ m = 0 := by
    obtain rfl | rfl | rfl | rfl : m = 0 ∨ m = 1 ∨ m = 2 ∨ m = 3 := by omega
    all_goals simp [mapBits]
  have known : 1 ≤ x → (knownAbsent s x = false ↔ ∀ r, s.tray.slots[x - 1]? = some r → r.presence ≠ .absent) := by
    intro hx
    rw [knownAbsent, slotRec_pos s (by omega)]
    cases s.tray.slots[x - 1]? <;> simp
  simp only [eligible, inMap, Bool.and_eq_true, decide_eq_true_eq, map, Bool.or_eq_true, Bool.not_eq_true', and_assoc]
  exact ⟨fun ⟨h1, h2, h3, h4⟩ => ⟨h1, h2, h3, h4.imp_right (known h1).mp⟩,
    fun ⟨h1, h2, h3, h4⟩ => ⟨h1, h2, h3, h4.imp_right (known h1).mpr⟩⟩

theorem eligible_inTray : InTray (traySize s) (eligible s m) := by
  intro x h
  simp only [eligible, inMap, Bool.and_eq_true, decide_eq_true_eq] at h
  exact h.1.1

/-! ### The walk -/

/-- The eligible slots of one turn from `c`, in the order a walk meets them (R14, R16). -/
def eligibleTurn (s : State) (m c : Nat) (forward : Bool) : List Nat :=
  (visitTurn (traySize s) c forward).filter (eligible s m)

/-- The eligible slots from `c` to the end of the tray, in the order a walk meets them (R14, R15). -/
def eligibleAhead (s : State) (m c : Nat) (forward : Bool) : List Nat :=
  (visitToEnd (traySize s) c forward).filter (eligible s m)

theorem walk_eq (s : State) (m c : Nat) (n : Int) : walk s m c n =
    if eligibleTurn s m c (decide (0 < n)) = [] then none
    else if s.items.trayWrap then
      some {
        target := (eligibleTurn s m c (decide (0 < n))).getD
          ((n.natAbs - 1) % (eligibleTurn s m c (decide (0 < n))).length) c
        counted := n.natAbs, short := false }
    else if n.natAbs ≤ (eligibleAhead s m c (decide (0 < n))).length then
      some { target := (eligibleAhead s m c (decide (0 < n))).getD (n.natAbs - 1) c, counted := n.natAbs, short := false }
    else some {
      target := (eligibleAhead s m c (decide (0 < n))).getLastD c
      counted := (eligibleAhead s m c (decide (0 < n))).length, short := true } := rfl

theorem walk_eq_none_iff : walk s m c n = none ↔ eligibleTurn s m c (decide (0 < n)) = [] := by
  rw [walk_eq]
  split
  · next h => exact iff_of_true rfl h
  · next h =>
    refine iff_of_false ?_ h
    repeat' split
    all_goals simp

/-- The walk finds nothing exactly when no slot is eligible. -/
theorem walk_none_iff (hc : c ≤ traySize s) : walk s m c n = none ↔ ∀ x, eligible s m x = false := by
  rw [walk_eq_none_iff, List.eq_nil_iff_forall_not_mem]
  simp only [eligibleTurn, mem_turn eligible_inTray hc, Bool.not_eq_true]

/-- With TRAY_WRAP ON a walk goes round the turn as often as it takes (R16). -/
theorem walk_wraps (hw : s.items.trayWrap = true) {t : Nat}
    (ht : (eligibleTurn s m c (decide (0 < n)))[(n.natAbs - 1) % (eligibleTurn s m c (decide (0 < n))).length]? = some t) :
    walk s m c n = some { target := t, counted := n.natAbs, short := false } := by
  have hne : eligibleTurn s m c (decide (0 < n)) ≠ [] := by
    intro h
    simp [h] at ht
  rw [walk_eq, if_neg hne, if_pos hw, List.getD_eq_getElem?_getD, ht, Option.getD_some]

/-- A place of a turn of eligible slots, counted round, is one of them. -/
theorem turn_place (h : eligibleTurn s m c (decide (0 < n)) ≠ []) (k : Nat) : ∃ t,
    (eligibleTurn s m c (decide (0 < n)))[k % (eligibleTurn s m c (decide (0 < n))).length]? = some t :=
  ⟨_, List.getElem?_eq_getElem (Nat.mod_lt _ (List.length_pos_of_ne_nil h))⟩

/-- Where a walk with TRAY_WRAP ON ends. -/
theorem walk_wrapped (hw : s.items.trayWrap = true) (h : walk s m c n = some w) :
    (eligibleTurn s m c (decide (0 < n)))[(n.natAbs - 1) % (eligibleTurn s m c (decide (0 < n))).length]? = some w.target
      ∧ w.short = false ∧ w.counted = n.natAbs := by
  have hne : eligibleTurn s m c (decide (0 < n)) ≠ [] := fun g => by simp [walk_eq_none_iff.mpr g] at h
  obtain ⟨t, ht⟩ := turn_place hne (n.natAbs - 1)
  cases (walk_wraps hw ht).symm.trans h
  exact ⟨ht, rfl, rfl⟩

/-- Where a walk with TRAY_WRAP OFF ends: at the eligible slot it counted last, or at its start; short when it met fewer than
asked for (R15). -/
theorem walk_stopped (hw : s.items.trayWrap = false) (hn : n ≠ 0) (h : walk s m c n = some w) :
    w.short = decide (w.counted < n.natAbs) ∧ w.counted ≤ n.natAbs
      ∧ (w.short = true → (eligibleAhead s m c (decide (0 < n))).length = w.counted)
      ∧ (w.counted = 0 → eligibleAhead s m c (decide (0 < n)) = [] ∧ w.target = c)
      ∧ ∀ i, w.counted = i + 1 → (eligibleAhead s m c (decide (0 < n)))[i]? = some w.target := by
  have hpos : 0 < n.natAbs := Int.natAbs_pos.mpr hn
  have hne : eligibleTurn s m c (decide (0 < n)) ≠ [] := fun g => by simp [walk_eq_none_iff.mpr g] at h
  rw [walk_eq, if_neg hne, if_neg (by simp [hw])] at h
  generalize eligibleAhead s m c (decide (0 < n)) = a at h ⊢
  split at h
  · next hle =>
    cases h
    refine ⟨by simp, Nat.le_refl _, nofun, fun g => absurd g (by simp; omega), fun i hi => ?_⟩
    change n.natAbs = i + 1 at hi
    rw [hi, Nat.add_sub_cancel, List.getD_eq_getElem _ _ (by omega), List.getElem?_eq_getElem]
  · next hle =>
    cases h
    refine ⟨(decide_eq_true (Nat.not_le.mp hle)).symm, Nat.le_of_not_le hle, fun _ => rfl, fun g => ?_, fun i hi => ?_⟩
    · obtain rfl := List.length_eq_zero_iff.mp g
      exact ⟨rfl, rfl⟩
    · change a.length = i + 1 at hi
      have hlast : a[i]? = a.getLast? := by rw [List.getLast?_eq_getElem?, hi, Nat.add_sub_cancel]
      obtain ⟨x, hx⟩ : ∃ x, a[i]? = some x := ⟨_, List.getElem?_eq_getElem (by omega)⟩
      rw [List.getLastD_eq_getLast?, ← hlast, hx, Option.getD_some]

/-- An eligible slot ahead is eligible, and in the tray. -/
theorem mem_ahead {x : Nat} {forward : Bool} (h : x ∈ eligibleAhead s m c forward) :
    eligible s m x = true ∧ x ≤ traySize s :=
  have he := (List.mem_filter.mp h).2
  ⟨he, (eligible_inTray x he).2⟩

/-- A walk ends in the tray, and on an eligible slot when it counted one. -/
theorem walk_target (hc : c ≤ traySize s) (hn : n ≠ 0) (h : walk s m c n = some w) :
    w.target ≤ traySize s ∧ (0 < w.counted → eligible s m w.target = true) := by
  cases hw : s.items.trayWrap with
  | true =>
    have he := (mem_turn eligible_inTray hc).mp (List.mem_of_getElem? (walk_wrapped hw h).1)
    exact ⟨(eligible_inTray _ he).2, fun _ => he⟩
  | false =>
    obtain ⟨-, -, -, nothing, place⟩ := walk_stopped hw hn h
    rcases Nat.eq_zero_or_eq_succ_pred w.counted with h0 | hi
    · exact ⟨(nothing h0).2 ▸ hc, fun g => absurd g (by omega)⟩
    · obtain ⟨he, hle⟩ := mem_ahead (List.mem_of_getElem? (place _ hi))
      exact ⟨hle, fun _ => he⟩

/-- A walk forward with TRAY_WRAP OFF counts the eligible slots past its start up to its target (R14, R15). -/
theorem walk_forward_counts (hw : s.items.trayWrap = false) (hn : 0 < n) (h : walk s m c n = some w) :
    c ≤ w.target ∧ ((List.range' (c + 1) (w.target - c)).filter (eligible s m)).length = w.counted
      ∧ (w.short = true → ∀ x, w.target < x → eligible s m x = false) := by
  obtain ⟨-, -, short, nothing, place⟩ := walk_stopped hw (by omega) h
  simp only [decide_eq_true hn] at short nothing place
  rcases Nat.eq_zero_or_eq_succ_pred w.counted with h0 | hi
  · obtain ⟨empty, ht⟩ := nothing h0
    refine ⟨by omega, by simp [ht, h0], fun _ x hx => Bool.eq_false_iff.mpr fun he => ?_⟩
    exact List.filter_eq_nil_iff.mp empty x (mem_slotsUp.mpr ⟨by omega, (eligible_inTray x he).2⟩) he
  · obtain ⟨hle, hcount, past⟩ := upward_count eligible_inTray (place _ hi)
    exact ⟨hle, hcount.trans hi.symm, fun hs => past ((short hs).trans hi)⟩

/-- The slot below which a walk backward from `c` begins: N + 1 from the gap (R14, R15). -/
def backwardFrom (s : State) (c : Nat) : Nat := if c = 0 then traySize s + 1 else c

/-- A walk backward with TRAY_WRAP OFF counts the eligible slots from its target to below its start (R14, R15). -/
theorem walk_backward_counts (hw : s.items.trayWrap = false) (hn : n < 0) (h : walk s m c n = some w)
    (hpos : w.counted ≠ 0) : w.target < backwardFrom s c
      ∧ ((List.range' w.target (backwardFrom s c - w.target)).filter (eligible s m)).length = w.counted
      ∧ (w.short = true → ∀ x, x < w.target → eligible s m x = false) := by
  obtain ⟨-, -, short, -, place⟩ := walk_stopped hw (by omega) h
  simp only [decide_eq_false (Int.not_lt.mpr hn.le)] at short place
  have hi : w.counted = w.counted - 1 + 1 := by omega
  obtain ⟨-, hlt, hcount, before⟩ := downward_count (d := backwardFrom s c) eligible_inTray (place _ hi)
  exact ⟨hlt, hcount.trans hi.symm, fun hs => before ((short hs).trans hi)⟩

/-- A walk backward that counts nothing begins at a slot with no eligible one below it, and not at the gap. -/
theorem walk_backward_none (hw : s.items.trayWrap = false) (hn : n < 0) (h : walk s m c n = some w) (h0 : w.counted = 0) :
    c ≠ 0 ∧ w.target = c ∧ ∀ x, x < c → eligible s m x = false := by
  obtain ⟨-, -, -, nothing, -⟩ := walk_stopped hw (by omega) h
  obtain ⟨empty, ht⟩ := nothing h0
  have hne : eligibleTurn s m c (decide (0 < n)) ≠ [] := fun g => by simp [walk_eq_none_iff.mpr g] at h
  rw [decide_eq_false (Int.not_lt.mpr hn.le)] at empty hne
  have hc : c ≠ 0 := by
    rintro rfl
    exact hne empty
  refine ⟨hc, ht, fun x hx => Bool.eq_false_iff.mpr fun he => ?_⟩
  have hx1 := (eligible_inTray x he).1
  refine List.filter_eq_nil_iff.mp empty x (List.mem_reverse.mpr (mem_slotsUp.mpr ⟨hx1, ?_⟩)) he
  simp only [hc, if_false]
  omega

/-- With TRAY_WRAP ON a walk of one more is a walk of one from where the walk ended (R16). -/
theorem walk_one_more (hc : c ≤ traySize s) (hw : s.items.trayWrap = true) (hn : n ≠ 0) (h : walk s m c n = some w)
    {more one : Int} (hmore : more.natAbs = n.natAbs + 1) (hone : one.natAbs = 1)
    (hdir : (0 < more ↔ 0 < n) ∧ (0 < one ↔ 0 < n)) :
    ∃ v, walk s m c more = some v ∧ walk s m w.target one = some { v with counted := 1 } := by
  have hpos : 0 < n.natAbs := Int.natAbs_pos.mpr hn
  have hd1 : decide (0 < more) = decide (0 < n) := decide_eq_decide.mpr hdir.1
  have hd2 : decide (0 < one) = decide (0 < n) := decide_eq_decide.mpr hdir.2
  obtain ⟨place, -, -⟩ := walk_wrapped hw h
  have he := (mem_turn eligible_inTray hc).mp (List.mem_of_getElem? place)
  obtain ⟨ht1, htn⟩ := eligible_inTray _ he
  obtain ⟨l, ends⟩ := turn_ends (forward := decide (0 < n)) ht1 he htn
  have rotated : eligibleTurn s m c (decide (0 < n)) ~r eligibleTurn s m w.target (decide (0 < n)) :=
    (turn_isRotated hc).trans (turn_isRotated htn).symm
  have head := rotated_head rotated (nodup_turn hc) ends place
  rw [Nat.mod_add_mod, Nat.sub_add_cancel hpos] at head
  have hne : eligibleTurn s m c (decide (0 < n)) ≠ [] := fun g => by simp [walk_eq_none_iff.mpr g] at h
  obtain ⟨t, ht⟩ := turn_place hne n.natAbs
  refine ⟨{ target := t, counted := more.natAbs, short := false }, walk_wraps hw ?_, ?_⟩
  · rw [hd1, hmore, Nat.add_sub_cancel]
    exact ht
  · rw [← hone]
    refine walk_wraps hw ?_
    rw [hd2, hone, Nat.sub_self, Nat.zero_mod]
    exact head.trans ht

/-- With TRAY_WRAP ON a walk of one meets its target first. -/
theorem walk_one_place (hw : s.items.trayWrap = true) (hn : n.natAbs = 1) (h : walk s m c n = some w) :
    (eligibleTurn s m c (decide (0 < n)))[0]? = some w.target := by
  simpa [hn] using (walk_wrapped hw h).1

end Sys2Proof.Machine

namespace Sys2Proof.Proofs

open Sys2Proof.Machine

/-- Settles O19: what is eligible (`eligible_iff`), the walk to the end of the tray (`walk_forward_counts`,
`walk_backward_counts`), and the walk round it, whose turns from all starts are rotations of one list (`walk_one_more`). -/
theorem walkCountsEligibleSlots : Obligations.WalkCountsEligibleSlots := by
  intro s m c n hc hm hn
  refine ⟨eligible_iff hm, walk_none_iff hc, fun w h => ?_⟩
  obtain ⟨inTray, onEligible⟩ := walk_target hc hn h
  refine ⟨inTray, onEligible, fun hw => (walk_wrapped hw h).2, fun hw => ?_, fun hw h1 => ?_, fun hw hpos => ?_,
    fun hw h1 => ?_, fun hw hneg => ?_⟩
  · obtain ⟨short, counted, -, nothing, -⟩ := walk_stopped hw hn h
    refine ⟨short, counted, fun h0 => (nothing h0).2, fun hpos => walk_forward_counts hw hpos h, fun hneg hc0 => ?_,
      fun hneg hc0 => ?_⟩
    · by_cases h0 : w.counted = 0
      · obtain ⟨-, ht, before⟩ := walk_backward_none hw hneg h h0
        exact ⟨by omega, by simp [ht, h0], fun _ x hx => before x (ht ▸ hx)⟩
      · have counts := walk_backward_counts hw hneg h h0
        rw [backwardFrom, if_neg (by omega)] at counts
        exact ⟨counts.1.le, counts.2⟩
    · have h0 : w.counted ≠ 0 := fun g => (walk_backward_none hw hneg h g).1 hc0
      have counts := walk_backward_counts hw hneg h h0
      rw [backwardFrom, if_pos hc0] at counts
      exact ⟨counts.2.1, by omega, counts.2.2⟩
  · subst h1
    exact turn_first_forward eligible_inTray (walk_one_place hw rfl h)
  · exact walk_one_more hc hw hn h (by omega) rfl (by omega)
  · subst h1
    exact turn_first_backward eligible_inTray (walk_one_place hw rfl h)
  · exact walk_one_more hc hw hn h (by omega) rfl (by omega)

end Sys2Proof.Proofs
end

section
/-! ## Offers of the host: checks, merges and places in the queue (R21 to R25) -/

namespace Sys2Proof.Machine

variable {s : State} {m : Move} {tag : Byte}

/-! ### Checks 2 to 5 of an offer (R22) -/

theorem offerRefusal_standby (e : MoveEntry) (h : s.heat.power ≠ .active) : offerRefusal e s = some .notActive := by
  simp [offerRefusal, h]

theorem offerRefusal_noTray (e : MoveEntry) (ha : s.heat.power = .active) (hn : traySize s = 0) :
    offerRefusal e s = some .noTray := by
  simp [offerRefusal, ha, traySeated, hn]

theorem offerRefusal_fault (e : MoveEntry) (ha : s.heat.power = .active) (hn : 0 < traySize s)
    (hf : changerFault s = true) : offerRefusal e s = some .faultActive := by
  simp [offerRefusal, ha, traySeated, hn, hf]

theorem offerRefusal_beyond {t : Nat} (ho : movesOpen s) (ht : traySize s < t) :
    offerRefusal (hostEntry (.goto t) tag) s = some .badArg := by
  obtain ⟨ha, hn, hf⟩ := ho
  simp [offerRefusal, ha, traySeated, hn, hf, hostEntry, ht]

/-- No check meets a STEP of the host. -/
theorem offerRefusal_step (ho : movesOpen s) (n : Int) : offerRefusal (hostEntry (.step n) tag) s = none := by
  obtain ⟨ha, hn, hf⟩ := ho
  simp [offerRefusal, ha, traySeated, hn, hf, hostEntry]

/-- No check meets a GOTO of the host within the tray. -/
theorem offerRefusal_goto {t : Nat} (ho : movesOpen s) (ht : t ≤ traySize s) :
    offerRefusal (hostEntry (.goto t) tag) s = none := by
  obtain ⟨ha, hn, hf⟩ := ho
  simp [offerRefusal, ha, traySeated, hn, hf, hostEntry, ht]

/-- A tray holds at most 96 slots (R1). -/
theorem traySize_le (s : State) : traySize s ≤ 96 := by
  unfold traySize capacity
  split <;> [decide; (split <;> decide)]

/-! ### Merges (R23) -/

/-- A GOTO never merges. -/
theorem mergeSum_goto (t : Nat) : mergeSum (hostEntry (.goto t) tag) s = none := by
  unfold mergeSum hostEntry
  split
  · split <;> simp_all
  · rfl

/-- A STEP of the host does not merge where the last entry takes none of the host's. -/
theorem mergeSum_noMerge (h : noMerge s) (n : Int) : mergeSum (hostEntry (.step n) tag) s = none := by
  unfold mergeSum
  split
  · next last hl =>
    split
    · next a b ha hb =>
      refine if_neg fun g => ?_
      rcases h last hl g.1 with ⟨t, ht⟩ | hfull
      · simp [ha] at ht
      · exact absurd (g.2 rfl) (Nat.not_lt.mpr hfull)
    · rfl
  · rfl

/-- A STEP of the host merges with a STEP of the host that carries fewer than 8 tags. -/
theorem mergeSum_step {rest : List MoveEntry} {last : MoveEntry} {a : Int} (n : Int)
    (hq : s.changer.queue = rest ++ [last]) (hs : last.source = .host) (hm : last.move = .step a)
    (ht : last.tags.length < 8) :
    mergeSum (hostEntry (.step n) tag) s = some (last, clampSigned (traySize s) (a + n)) := by
  simp [mergeSum, hq, hm, hs, ht, hostEntry]

/-- A sum other than 0 is carried by the last entry, which keeps its place (R23, R24). -/
theorem mergeEntry_carries {rest : List MoveEntry} {last : MoveEntry} {sum : Int} (tags : List Byte)
    (hq : s.changer.queue = rest ++ [last]) (h : sum ≠ 0) : mergeEntry last sum tags s =
      { s with changer.queue := rest ++ [{ last with move := .step sum, tags := last.tags ++ tags }] } := by
  simp [mergeEntry, h, hq]

/-- A sum of 0 takes the last entry from the queue, NULLED for each of its tags (R24). -/
theorem mergeEntry_nulls {rest : List MoveEntry} {last : MoveEntry} (tags : List Byte)
    (hq : s.changer.queue = rest ++ [last]) : mergeEntry last 0 tags s =
      giveAll (doneNotices { last with tags := last.tags ++ tags } s.tray.position .nulled)
        { s with changer.queue := rest } := by
  simp [mergeEntry, hq]

theorem clampSigned_zero (n : Nat) : clampSigned n 0 = 0 := by
  unfold clampSigned
  split <;> [omega; (split <;> omega)]

/-! ### The offer of a host's move, a cycle running -/

theorem hostMove_refused {r : Reason} (h : offerRefusal (hostEntry m tag) s = some r) :
    hostMove m tag s = (.refused r, s) := by
  rw [hostEntry] at h
  simp [hostMove, offerMove, h]

theorem hostMove_full (ho : offerRefusal (hostEntry m tag) s = none) (hm : mergeSum (hostEntry m tag) s = none)
    (hq : 6 ≤ s.changer.queue.length) : hostMove m tag s = (.refused .queueFull, s) := by
  rw [hostEntry] at ho hm
  simp [hostMove, offerMove, ho, hm, Nat.not_lt.mpr hq]

/-- A move that passes its checks and does not merge takes the last place of the queue (R22). -/
theorem hostMove_joins (ho : offerRefusal (hostEntry m tag) s = none) (hm : mergeSum (hostEntry m tag) s = none)
    (hq : s.changer.queue.length < 6) : hostMove m tag s =
      (.accepted [], startReady { s with changer.queue := s.changer.queue ++ [joined (hostEntry m tag) s] }) := by
  rw [hostEntry] at ho hm
  simp [hostMove, offerMove, ho, hm, hq, hostEntry]

theorem hostMove_merges {last : MoveEntry} {sum : Int} (ho : offerRefusal (hostEntry m tag) s = none)
    (hm : mergeSum (hostEntry m tag) s = some (last, sum)) :
    hostMove m tag s = (.accepted [], startReady (mergeEntry last sum [tag] s)) := by
  rw [hostEntry] at ho hm
  simp [hostMove, offerMove, ho, hm]

theorem stepBody_badArg {n : Int} (h : n = 0 ∨ n < -99 ∨ 99 < n) : stepBody n tag s = (.refused .badArg, s) := by
  simp [stepBody, h]

theorem stepBody_offers {n : Int} (h0 : n ≠ 0) (hlo : -99 ≤ n) (hhi : n ≤ 99) :
    stepBody n tag s = hostMove (.step n) tag s := if_neg (by omega)

theorem gotoBody_badArg {t : Nat} (h : 96 < t) : gotoBody t tag s = (.refused .badArg, s) := by simp [gotoBody, h]

theorem gotoBody_offers {t : Nat} (h : t ≤ 96) : gotoBody t tag s = hostMove (.goto t) tag s := if_neg (by omega)

/-- A STEP that cannot merge is refused with six entries queued (R25). -/
theorem stepBody_full {n : Int} (ho : movesOpen s) (h0 : n ≠ 0) (hlo : -99 ≤ n) (hhi : n ≤ 99) (hm : noMerge s)
    (hq : 6 ≤ s.changer.queue.length) : stepBody n tag s = (.refused .queueFull, s) := by
  rw [stepBody_offers h0 hlo hhi, hostMove_full (offerRefusal_step ho _) (mergeSum_noMerge hm _) hq]

/-- A GOTO is refused with six entries queued (R25). -/
theorem gotoBody_full {t : Nat} (ho : movesOpen s) (ht : t ≤ traySize s) (hq : 6 ≤ s.changer.queue.length) :
    gotoBody t tag s = (.refused .queueFull, s) := by
  rw [gotoBody_offers (ht.trans (traySize_le s)), hostMove_full (offerRefusal_goto ho ht) (mergeSum_goto _) hq]

/-- A GOTO beyond the seated tray's N is refused (R22). -/
theorem gotoBody_beyond {t : Nat} (ho : movesOpen s) (ht : t ≤ 96) (h : traySize s < t) :
    gotoBody t tag s = (.refused .badArg, s) := by
  rw [gotoBody_offers ht, hostMove_refused (offerRefusal_beyond ho h)]

/-! ### Notices behind a frame in transmission -/

variable {b : Nat} {n : Notice}

/-- A notice of an enabled kind that finds the transmitter busy and a place free is queued as the newest (R190). -/
theorem give_queues (hb : noticeBit n = b) (hs : s.link.sending ≠ none) (hm : s.link.mask.getLsbD b = true)
    (hq : s.link.notices.length < 16) : give n s =
      { s with link.flags := s.link.flags ||| BitVec.twoPow 24 b, link.notices := s.link.notices ++ [n] } := by
  subst hb
  obtain ⟨f, hf⟩ := Option.ne_none_iff_exists'.mp hs
  simp only [give, giveLink, hm, if_true, queueNotice, hq]
  rw [pump_busy _ f (by exact hf)]
  rfl

/-- Notices of one enabled kind are queued in order, where the transmitter is busy and there is room for all (R190). -/
theorem giveAll_queues {ns : List Notice} (hb : ∀ k ∈ n :: ns, noticeBit k = b) (hs : s.link.sending ≠ none)
    (hm : s.link.mask.getLsbD b = true) (hq : s.link.notices.length + (n :: ns).length ≤ 16) : giveAll (n :: ns) s =
      { s with link.flags := s.link.flags ||| BitVec.twoPow 24 b, link.notices := s.link.notices ++ n :: ns } := by
  induction ns generalizing n s with
  | nil => exact give_queues (hb n (by simp)) hs hm (by simp at hq; omega)
  | cons k ks ih =>
    simp only [List.length_cons] at hq
    rw [giveAll, give_queues (hb n (by simp)) hs hm (by omega), ih (fun x hx => hb x (List.mem_cons_of_mem _ hx))
      (by exact hs) (by exact hm) (by simp; omega)]
    simp [BitVec.or_assoc]

/-! ### STEP and GOTO behind a running cycle -/

section Behind

variable (ho : movesOpen s) (hbusy : s.changer.stage ≠ .idle)
include ho hbusy

/-- A GOTO within the tray joins the queue as its newest entry (R22). -/
theorem gotoBody_joins {t : Nat} (ht : t ≤ traySize s) (hq : s.changer.queue.length < 6) : gotoBody t tag s =
    (.accepted [], { s with changer.queue := s.changer.queue ++ [hostEntry (.goto t) tag] }) := by
  rw [gotoBody_offers (ht.trans (traySize_le s)),
    hostMove_joins (offerRefusal_goto ho ht) (mergeSum_goto _) hq, startReady_busy (by exact hbusy)]
  rfl

variable {n : Int} (h0 : n ≠ 0) (hlo : -99 ≤ n) (hhi : n ≤ 99)
include h0 hlo hhi

/-- A STEP that does not merge joins the queue, its count within the tray's N (R21, R22; log 14). -/
theorem stepBody_joins (hm : noMerge s) (hq : s.changer.queue.length < 6) : stepBody n tag s =
    (.accepted [], { s with
      changer.queue := s.changer.queue ++ [hostEntry (.step (clampSigned (traySize s) n)) tag] }) := by
  rw [stepBody_offers h0 hlo hhi, hostMove_joins (offerRefusal_step ho _) (mergeSum_noMerge hm _) hq,
    startReady_busy (by exact hbusy)]
  rfl

variable {rest : List MoveEntry} {last : MoveEntry} {a : Int} (hq : s.changer.queue = rest ++ [last])
  (hsource : last.source = .host) (hmove : last.move = .step a)
include hq hsource hmove

/-- A STEP behind a STEP of the host is added to it (R23, R24). -/
theorem stepBody_merges (htags : last.tags.length < 8) (hsum : clampSigned (traySize s) (a + n) ≠ 0) : stepBody n tag s =
    (.accepted [], { s with changer.queue := rest ++
      [{ last with move := .step (clampSigned (traySize s) (a + n)), tags := last.tags ++ [tag] }] }) := by
  rw [stepBody_offers h0 hlo hhi,
    hostMove_merges (offerRefusal_step ho _) (mergeSum_step _ hq hsource hmove htags),
    mergeEntry_carries _ hq hsum, startReady_busy (by exact hbusy)]

/-- A STEP that brings the sum to 0 ends both NULLED, each for its tag, the merged one first (R24; log 15). -/
theorem stepBody_nulls {t : Byte} (htags : last.tags = [t]) (hsum : a + n = 0) (hsend : s.link.sending ≠ none)
    (hmask : s.link.mask.getLsbD 0 = true) (hroom : s.link.notices.length ≤ 14) : stepBody n tag s =
    (.accepted [], { s with
      link.flags := s.link.flags ||| 1
      link.notices := s.link.notices ++
        [.moveDone .host (.step a) s.tray.position (some t) true .nulled,
          .moveDone .host (.step a) s.tray.position (some tag) false .nulled]
      changer.queue := rest }) := by
  have merge := mergeSum_step (tag := tag) n hq hsource hmove (by simp [htags])
  rw [hsum, clampSigned_zero] at merge
  rw [stepBody_offers h0 hlo hhi, hostMove_merges (offerRefusal_step ho _) merge, mergeEntry_nulls _ hq]
  simp only [doneNotices, htags, hsource, hmove, List.cons_append, List.nil_append, tagMarks, List.map_cons, List.map_nil]
  rw [giveAll_queues (b := 0) (by simp [noticeBit]) (by exact hsend) (by exact hmask) (by simp; omega),
    startReady_busy (by exact hbusy)]
  rfl

end Behind

end Sys2Proof.Machine

namespace Sys2Proof.Proofs

open Sys2Proof.Machine

variable {h : Hdr} {n slot : Byte} {s : State}

section

variable (hs : servable s) (hl : h.len = 1)
include hs hl

/-- A move whose body is refused is answered with the reason, and nothing else changes. -/
theorem move_refused (k : Byte) {body : State → Answer × State} {r : Reason}
    (hb : body (takePlace (k + 0x80) h.tag s) = (.refused r, takePlace (k + 0x80) h.tag s)) :
    request k 1 h body s = replied (k + 0x80) h.tag [2, byte1 (reasonCode r)] s :=
  request_unchanged k 1 h body (.refused r) s hs (by simp [hl]) hb

/-- A STEP and a GOTO that one check refuses alike. -/
theorem moves_refused {r : Reason} (h0 : n.toInt ≠ 0) (hlo : -99 ≤ n.toInt) (hhi : n.toInt ≤ 99) (hslot : slot.toNat ≤ 96)
    (hr : ∀ (e : MoveEntry) (k : Byte), offerRefusal e (takePlace k h.tag s) = some r) :
    exec (.step h n) s = .next (replied 0x90 h.tag [2, byte1 (reasonCode r)] s)
      ∧ exec (.goto h slot) s = .next (replied 0x91 h.tag [2, byte1 (reasonCode r)] s) :=
  ⟨next_congr (move_refused hs hl 0x10 ((stepBody_offers h0 hlo hhi).trans (hostMove_refused (hr _ _)))),
    next_congr (move_refused hs hl 0x11 ((gotoBody_offers hslot).trans (hostMove_refused (hr _ _))))⟩

/-- A move accepted with a new queue and nothing else. -/
theorem move_queues (k : Byte) {body : State → Answer × State} {q : List MoveEntry}
    (hb : body (takePlace (k + 0x80) h.tag s) = (.accepted [], { takePlace (k + 0x80) h.tag s with changer.queue := q })) :
    request k 1 h body s = { replied (k + 0x80) h.tag [1] s with changer.queue := q } :=
  request_writes s k 1 h body (.accepted []) (fun u => { u with changer := { s.changer with queue := q } }) hs
    (by simp [hl]) (fun _ _ => rfl) (fun _ => rfl) hb

/-- A STEP accepted that NULLS an entry gives its notices beside the reply. -/
theorem step_nulls {q : List MoveEntry} {f : BitVec 24} {ns : List Notice}
    (hb : stepBody n.toInt h.tag (takePlace 0x90 h.tag s) =
      (.accepted [], { takePlace 0x90 h.tag s with link.flags := f, link.notices := ns, changer.queue := q })) :
    exec (.step h n) s = .next { replied 0x90 h.tag [1] s with link.flags := f, link.notices := ns, changer.queue := q } := by
  have served := request_served 0x10 1 h (stepBody n.toInt h.tag) s hs (by simp [hl])
  rw [show (0x10 : Byte) + 0x80 = 0x90 from rfl, hb] at served
  refine next_congr (served.trans ((settleThermal_same _ _ ?_).trans ?_))
  · simp [fillReply, takePlace, thermalKey]
  · simp [fillReply, takePlace, replied, answerPayload]

end

/-- Settles O17: what a body refuses changes nothing (`move_refused`), and what it takes joins the queue
or merges with its last entry (`stepBody_joins`, `stepBody_merges`, `stepBody_nulls`). -/
theorem hostMovesJoinOrAreRefused : Obligations.HostMovesJoinOrAreRefused := by
  refine ⟨fun h n slot s hs hl ho hbusy => ⟨fun hin hq => ?_, fun h0 hlo hhi => ⟨fun hm hq => ?_,
      fun rest last a hq hsource hmove => ⟨fun htags hsum => ?_, fun t htags hsum hsend hmask hroom => ?_⟩⟩⟩,
    fun h n slot s hs hl => ⟨fun hbad => next_congr (move_refused hs hl 0x10 (stepBody_badArg hbad)),
      fun hbig => next_congr (move_refused hs hl 0x11 (gotoBody_badArg hbig)), fun h0 hlo hhi hslot => ?_⟩⟩
  · exact next_congr (move_queues hs hl 0x11 (gotoBody_joins (s := takePlace 0x91 h.tag s) ho hbusy hin hq))
  · exact next_congr (move_queues hs hl 0x10 (stepBody_joins (s := takePlace 0x90 h.tag s) ho hbusy h0 hlo hhi hm hq))
  · exact next_congr (move_queues hs hl 0x10
      (stepBody_merges (s := takePlace 0x90 h.tag s) ho hbusy h0 hlo hhi hq hsource hmove htags hsum))
  · exact step_nulls hs hl
      (stepBody_nulls (s := takePlace 0x90 h.tag s) ho hbusy h0 hlo hhi hq hsource hmove htags hsum hsend hmask hroom)
  refine ⟨fun hp => ?_, fun ha hn => ?_, fun ha hn hf => ?_, fun ho hbig => ?_, fun ho hm hfull => ⟨?_, fun hin => ?_⟩⟩
  · exact moves_refused hs hl h0 hlo hhi hslot fun e _ => offerRefusal_standby e (by simp [hp])
  · exact moves_refused hs hl h0 hlo hhi hslot fun e _ => offerRefusal_noTray e ha hn
  · exact moves_refused hs hl h0 hlo hhi hslot fun e _ => offerRefusal_fault e ha hn hf
  · exact next_congr (move_refused hs hl 0x11 (gotoBody_beyond (s := takePlace 0x91 h.tag s) ho hslot hbig))
  · exact next_congr (move_refused hs hl 0x10 (stepBody_full (s := takePlace 0x90 h.tag s) ho h0 hlo hhi hm hfull))
  · exact next_congr (move_refused hs hl 0x11 (gotoBody_full (s := takePlace 0x91 h.tag s) ho hin hfull))

end Sys2Proof.Proofs
end

section
/-! ## Stages that are over at once, and the start of a cycle (R20, R27 to R31) -/

namespace Sys2Proof.Machine

variable {s : State} {c : Cycle} {e : MoveEntry} {mode : ChangeMode} {p t : Nat}

/-- A command whose effect leaves what THERMAL watches is its effect. -/
theorem withThermal_next {f : State → State} {u : State} (h : f s = u) (hh : u.heat = s.heat) :
    (.next (withThermal f s) : Result) = .next u :=
  next_congr ((withThermal_same (by rw [h, hh])).trans h)

/-! ### LIFT and ROTATE -/

/-- With a slide in the gate, or perhaps one, LIFT drives the arm (R29). -/
theorem toLift_drives (h : s.changer.gate ≠ .empty) :
    toLift s = { s with changer.stage := .lift, changer.liftArm := true, changer.window := some 0 } := by
  simp [toLift, h]

/-- With the gate EMPTY LIFT is over at once (R29). -/
theorem toLift_skips (h : s.changer.gate = .empty) : toLift s = toRotate s := by simp [toLift, h]

theorem toRotate_known (hc : s.changer.cycle = some c) (hskip : c.skipRotate = false) (ht : c.target = some t)
    (hp : s.tray.position = some p) : toRotate s = rotateTo p t s := by
  simp [toRotate, hc, hskip, ht, hp]

/-- From a known position toward another the motor is driven the short way (R30, R18). -/
theorem toRotate_drives (hc : s.changer.cycle = some c) (hskip : c.skipRotate = false) (ht : c.target = some t)
    (hp : s.tray.position = some p) (hne : p ≠ t) (hpause : s.changer.pause ≠ .pending) : toRotate s =
      { s with
        changer.stage := .rotate, changer.motor := some (turnFor (traySize s) p t), changer.window := some 0 } :=
  (toRotate_known hc hskip ht hp).trans (rotateTo_drives hne.symm hpause)

/-! ### DARK (R28) -/

theorem toDark_closes (h : s.changer.shutterOpen = true) : toDark .shutter s =
    { s with changer.stage := .dark, changer.shutterOpen := false, changer.window := some 0 } := by
  simp [toDark, h]

theorem toDark_closed (h : s.changer.shutterOpen = false) : toDark .shutter s = toLift s := by simp [toDark, h]

/-- A lit lamp above the dark threshold starts its dark fade and does not answer (R54). -/
theorem darkRequest_fades (hl : s.lamp.state = .lit) (hp : powerDownRuns s.lamp = false)
    (hd : s.items.darkThreshold < s.lamp.drive) (hf : 0 < s.items.fadeOut) : darkRequest s =
      (false, { s with
        lamp.fade := some { kind := .dark, a := s.lamp.ramp, b := s.items.keepWarm, n := s.items.fadeOut, k := 0 }
        lamp.restriking := false, lamp.darkWaiting := true }) := by
  simp [darkRequest, hl, hp, startFade, hf.ne', isDark, hd]

/-- DARK of a DISSOLVE cycle waits behind a REQUESTED claim while the lamp fades (R28, R36). -/
theorem toDark_fades (hclaim : s.changer.claim = .clear) (hl : s.lamp.state = .lit) (hp : powerDownRuns s.lamp = false)
    (hd : s.items.darkThreshold < s.lamp.drive) (hf : 0 < s.items.fadeOut) : toDark .dissolve s =
      { s with
        changer.stage := .dark, changer.claim := .requested, changer.window := none
        lamp.fade := some { kind := .dark, a := s.lamp.ramp, b := s.items.keepWarm, n := s.items.fadeOut, k := 0 }
        lamp.restriking := false, lamp.darkWaiting := true } := by
  simp only [toDark, hclaim]
  rw [darkRequest_fades (by exact hl) (by exact hp) (by exact hd) (by exact hf)]
  rfl

/-! ### TARGET (R27) -/

/-- The target of an entry: its GOTO's slot in the tray, or the end of its STEP's walk from the position, not shortened. -/
def HasTarget (e : MoveEntry) (t : Nat) (s : State) : Prop :=
  e.move = .goto t ∧ t ≤ traySize s
    ∨ ∃ n p w, e.move = .step n ∧ s.tray.position = some p ∧ walk s s.program.activeMap p n = some w
      ∧ w.short = false ∧ w.target = t

theorem targetOf_found (h : HasTarget e t s) : targetOf e.move s = .inr (some t, s) := by
  rcases h with ⟨hm, ht⟩ | ⟨n, p, w, hm, hp, hw, hshort, rfl⟩
  · simp [targetOf, hm, Nat.not_lt.mpr ht]
  · simp [targetOf, hm, hp, hw, reportShort, hshort]

/-- The state in which a cycle toward `t` enters DARK. -/
def targeted (e : MoveEntry) (mode : ChangeMode) (t : Nat) (s : State) : State :=
  { s with changer.stage := .target, changer.cycle := some (cycleTo e mode t), changer.extension := 0 }

/-- An entry with a target goes to DARK under the mode as it stands (R27, R28). -/
theorem runEntry_targets (h : HasTarget e t s) :
    runEntry e s = toDark s.items.changeMode (targeted e s.items.changeMode t s) := by
  have found : targetOf e.move { s with
      changer.stage := .target, changer.cycle := some (freshCycle e s.items.changeMode), changer.extension := 0 } = _ :=
    targetOf_found h
  rw [runEntry, found]
  rfl

/-! ### The start (R20) -/

theorem mayStart_of_open (ho : movesOpen s) (hi : s.changer.stage = .idle) : mayStart s = true :=
  mayStart_iff.mpr ⟨hi, ho.2.1, ho.1, ho.2.2⟩

/-- Where a start's conditions do not hold nothing starts. -/
theorem startReady_closed (h : ¬ movesOpen s ∨ s.changer.stage ≠ .idle) : startReady s = s := by
  refine if_neg fun hm => ?_
  obtain ⟨hi, hn, ha, hf⟩ := mayStart_iff.mp hm
  exact h.elim (· ⟨ha, hn, hf⟩) (· hi)

/-- The head of the queue runs; it is the only one to start when its cycle is in progress after (R20, R27). -/
theorem startReady_runs {rest : List MoveEntry} {u : State} (ho : movesOpen s) (hi : s.changer.stage = .idle)
    (hq : s.changer.queue = e :: rest) (hrun : runEntry e { s with changer.queue := rest } = u)
    (hu : u.changer.stage ≠ .idle) : startReady s = u := by
  simp only [startReady, mayStart_of_open ho hi, if_true, hq, startCycles, hrun, hu, if_false]

/-- A GOTO that finds nothing queued is the whole queue of the start (R22). -/
theorem gotoBody_starts {tag : Byte} (ho : movesOpen s) (ht : t ≤ traySize s) (hq : s.changer.queue = []) :
    gotoBody t tag s = (.accepted [], startReady { s with changer.queue := [hostEntry (.goto t) tag] }) := by
  rw [gotoBody_offers (ht.trans (traySize_le s)), hostMove_joins (offerRefusal_goto ho ht) (mergeSum_goto _) (by simp [hq]), hq]
  rfl

section Head

variable {rest : List MoveEntry} (ho : movesOpen s) (hi : s.changer.stage = .idle) (hq : s.changer.queue = e :: rest)
  (ht : HasTarget e t s)
include ho hi hq ht

section Shutter

variable (hmode : s.items.changeMode = .shutter)
include hmode

/-- The head starts by closing the open shutter (R28). -/
theorem startReady_closes (hopen : s.changer.shutterOpen = true) : startReady s =
    { s with
      changer.queue := rest, changer.stage := .dark, changer.cycle := some (cycleTo e .shutter t)
      changer.extension := 0, changer.shutterOpen := false, changer.window := some 0 } := by
  refine startReady_runs ho hi hq ?_ nofun
  rw [runEntry_targets (by exact ht)]
  simp only [hmode]
  exact toDark_closes hopen

/-- Behind a closed shutter the head starts by lifting the slide in the gate (R28, R29). -/
theorem startReady_lifts (hshut : s.changer.shutterOpen = false) (hgate : s.changer.gate ≠ .empty) : startReady s =
    { s with
      changer.queue := rest, changer.stage := .lift, changer.cycle := some (cycleTo e .shutter t)
      changer.extension := 0, changer.liftArm := true, changer.window := some 0 } := by
  refine startReady_runs ho hi hq ?_ nofun
  rw [runEntry_targets (by exact ht)]
  simp only [hmode]
  rw [toDark_closed (by exact hshut), toLift_drives (by exact hgate)]
  rfl

/-- Behind a closed shutter with the gate EMPTY the head starts by turning the tray (R28 to R30). -/
theorem startReady_rotates (hshut : s.changer.shutterOpen = false) (hgate : s.changer.gate = .empty)
    (hp : s.tray.position = some p) (hne : p ≠ t) (hpause : s.changer.pause ≠ .pending) : startReady s =
    { s with
      changer.queue := rest, changer.stage := .rotate, changer.cycle := some (cycleTo e .shutter t)
      changer.extension := 0, changer.motor := some (turnFor (traySize s) p t), changer.window := some 0 } := by
  refine startReady_runs ho hi hq ?_ nofun
  rw [runEntry_targets (by exact ht)]
  simp only [hmode]
  rw [toDark_closed (by exact hshut), toLift_skips (by exact hgate),
    toRotate_drives (c := cycleTo e .shutter t) rfl rfl rfl (by exact hp) hne (by exact hpause)]
  rfl

end Shutter

/-- In DISSOLVE mode the head starts by a dark fade of the lit lamp (R28). -/
theorem startReady_fades (hmode : s.items.changeMode = .dissolve) (hclaim : s.changer.claim = .clear)
    (hl : s.lamp.state = .lit) (hp : powerDownRuns s.lamp = false) (hd : s.items.darkThreshold < s.lamp.drive)
    (hf : 0 < s.items.fadeOut) : startReady s =
    { s with
      changer.queue := rest, changer.stage := .dark, changer.cycle := some (cycleTo e .dissolve t)
      changer.extension := 0, changer.claim := .requested, changer.window := none
      lamp.fade := some { kind := .dark, a := s.lamp.ramp, b := s.items.keepWarm, n := s.items.fadeOut, k := 0 }
      lamp.restriking := false, lamp.darkWaiting := true } := by
  refine startReady_runs ho hi hq ?_ nofun
  rw [runEntry_targets (by exact ht)]
  simp only [hmode]
  exact toDark_fades hclaim hl hp hd hf

end Head

end Sys2Proof.Machine

namespace Sys2Proof.Proofs

open Sys2Proof.Machine

variable {s : State}

/-- A GOTO taken with the Changer IDLE and nothing queued is its cycle's start behind the reply (R20, R22). -/
theorem goto_starts {h : Hdr} {slot : Byte} (hs : servable s) (hl : h.len = 1) (ho : movesOpen s)
    (hq : s.changer.queue = []) (hin : slot.toNat ≤ traySize s) (f : State → State)
    (hlink : ∀ u l, f { u with link := l } = { f u with link := l }) (hkey : ∀ u, thermalKey (f u) = thermalKey u)
    (hf : startReady { takePlace 0x91 h.tag s with changer.queue := [hostEntry (.goto slot.toNat) h.tag] }
      = f (takePlace 0x91 h.tag s)) :
    exec (.goto h slot) s = .next (f (replied 0x91 h.tag [1] s)) := by
  refine next_congr (request_writes s 0x11 1 h _ (.accepted []) f hs (by simp [hl]) hlink hkey ?_)
  exact (gotoBody_starts (s := takePlace 0x91 h.tag s) ho hin hq).trans (congrArg _ hf)

/-- Settles O18: the head starts by closing the shutter, lifting, turning or fading (`startReady_closes` and the lemmas
after it), by CYCLE_START and by a GOTO taken in IDLE. -/
theorem cyclesStartFromTheHead : Obligations.CyclesStartFromTheHead := by
  refine ⟨fun e rest t s hq hmode => ⟨fun ho hi ht => ⟨fun hopen => ?_, fun hshut hgate => ?_,
      fun p hshut hgate hp hne hpause => ?_⟩, fun hno => withThermal_next (startReady_closed hno) rfl⟩,
    fun h slot s hs hl ho hi hq hin => ⟨fun hmode hopen => ?_, fun hmode hclaim hlit hp hd hf => ?_⟩⟩
  · exact withThermal_next (startReady_closes ho hi hq ht hmode hopen) rfl
  · exact withThermal_next (startReady_lifts ho hi hq ht hmode hshut hgate) rfl
  · exact withThermal_next (startReady_rotates ho hi hq ht hmode hshut hgate hp hne hpause) rfl
  · exact goto_starts hs hl ho hq hin (fun u => { u with changer := _ }) (fun _ _ => rfl) (fun _ => rfl)
      (startReady_closes (t := slot.toNat) ho hi (congrArg _ hq.symm) (.inl ⟨rfl, hin⟩) hmode hopen)
  · exact goto_starts hs hl ho hq hin (fun u => { u with changer := _, lamp := _ }) (fun _ _ => rfl) (fun _ => rfl)
      (startReady_fades (t := slot.toNat) ho hi (congrArg _ hq.symm) (.inl ⟨rfl, hin⟩) hmode hclaim hlit hp hd hf)

end Sys2Proof.Proofs
end

section
/-! ## Reports and windows of the stages (R28, R29, R31 to R35) -/

namespace Sys2Proof.Machine

variable {s : State} {c : Cycle} {p t : Nat} {r : SlotRec}

/-! ### Outside their stage -/

theorem shutterCloses_ignored (hc : s.changer.cycle = some c) (h : s.changer.stage ≠ .dark ∨ c.mode ≠ .shutter) :
    shutterCloses s = s := by
  unfold shutterCloses
  split
  · next d hs hd =>
    cases hc.symm.trans hd
    exact if_neg (h.resolve_left (not_not_intro hs))
  · rfl

theorem shutterCloses_idle (h : s.changer.stage = .idle) : shutterCloses s = s := by simp [shutterCloses, h]

theorem liftReported_ignored (h : s.changer.stage ≠ .lift) : liftReported s = s := if_neg h

theorem seatReported_ignored (h : s.changer.stage ≠ .drop) : seatReported s = s := if_neg fun g => h g.1

theorem dropExpires_ignored (h : s.changer.stage ≠ .drop) : dropExpires s = s := if_neg fun g => h g.1

/-- A late drop leaves the gate UNKNOWN (R32). -/
theorem dropReported_late (h : s.changer.stage ≠ .drop) : dropReported s = { s with changer.gate := .unknown } := if_neg h

/-! ### In their stage -/

/-- The closed shutter ends DARK; LIFT follows (R28, R29). -/
theorem shutterCloses_lifts (hc : s.changer.cycle = some c) (hs : s.changer.stage = .dark) (hm : c.mode = .shutter)
    (hg : s.changer.gate ≠ .empty) : shutterCloses s =
      { s with changer.stage := .lift, changer.liftArm := true, changer.window := some 0 } := by
  have event : shutterCloses s = startReady (toLift s) := by simp [shutterCloses, hs, hc, hm]
  rw [event, toLift_drives hg]
  exact startReady_busy nofun

/-- The lift-done report ends LIFT with the gate EMPTY; the tray turns toward the target (R29, R30). -/
theorem liftReported_rotates (hc : s.changer.cycle = some c) (hs : s.changer.stage = .lift) (hskip : c.skipRotate = false)
    (hp : s.tray.position = some p) (ht : c.target = some t) (hne : p ≠ t) (hpause : s.changer.pause ≠ .pending) :
    liftReported s = { s with
      changer.gate := .empty, changer.liftArm := false, changer.stage := .rotate
      changer.motor := some (turnFor (traySize s) p t), changer.window := some 0 } := by
  rw [liftReported, if_pos hs, toRotate_drives (by exact hc) hskip ht (by exact hp) hne (by exact hpause)]
  exact startReady_busy nofun

/-- The drop-path report opens the seat window (R31). -/
theorem dropReported_opens (hs : s.changer.stage = .drop) (hw : s.changer.seatWindow = false) :
    dropReported s = { s with changer.seatWindow := true, changer.window := some 0 } := by
  simp [dropReported, hs, hw]

/-- What a drop teaches about the slot at the gate (R9). -/
theorem learn_slot (pres : Presence) (shown : Bool) (hp : s.tray.position = some (p + 1)) (hr : s.tray.slots[p]? = some r) :
    learn pres shown s = { s with
      tray.slots := s.tray.slots.set p { r with
        presence := pres, source := .learned, shown := if shown then min 255 (r.shown + 1) else r.shown } } := by
  have record : slotRec s (p + 1) = some r := hr
  simp [learn, hp, record, setSlot]

/-- The seat report in its window: the gate LOADED, the slot PRESENT, its shown count raised (R31, R9). -/
theorem seatReported_settles (hs : s.changer.stage = .drop) (hw : s.changer.seatWindow = true)
    (hp : s.tray.position = some (p + 1)) (hr : s.tray.slots[p]? = some r) : seatReported s = { s with
      changer.gate := .loaded, changer.stage := .settle, changer.seatWindow := false, changer.window := some 0
      tray.slots := s.tray.slots.set p
        { r with presence := .present, source := .learned, shown := min 255 (r.shown + 1) } } := by
  rw [seatReported, if_pos ⟨hs, hw⟩, learn_slot _ _ (by exact hp) (by exact hr)]
  rfl

/-! ### The drop window -/

/-- What an empty drop leaves before the cycle goes on: the gate EMPTY, or UNKNOWN after a late drop, and the slot ABSENT
(R31). -/
def droppedEmpty (p : Nat) (r : SlotRec) (s : State) : State :=
  { s with
    changer.gate := if s.changer.gate = .unknown then .unknown else .empty
    tray.slots := s.tray.slots.set p { r with presence := .absent, source := .learned } }

theorem dropExpires_empty (hs : s.changer.stage = .drop) (hw : s.changer.seatWindow = false)
    (hp : s.tray.position = some (p + 1)) (hr : s.tray.slots[p]? = some r) :
    dropExpires s = startReady (afterEmptyDrop (droppedEmpty p r s)) := by
  rw [dropExpires, if_pos ⟨hs, by simp [hw]⟩, learn_slot _ _ (by exact hp) (by exact hr)]
  rfl

/-- A GOTO whose slot proves empty settles (R33). -/
theorem afterEmptyDrop_goto {g : Nat} (hc : s.changer.cycle = some c) (hm : c.entry.move = .goto g) :
    afterEmptyDrop s = toSettle s := by
  unfold afterEmptyDrop
  split
  · next d q hd hq =>
    cases hc.symm.trans hd
    simp only [hm]
  · rfl

/-- A STEP whose slot proves empty is extended with SKIP_EMPTIES ON (R33). -/
theorem afterEmptyDrop_step {n : Int} (hc : s.changer.cycle = some c) (hm : c.entry.move = .step n)
    (hlive : c.aborted = false) (hskip : s.items.skipEmpties = true) (hp : s.tray.position = some p) :
    afterEmptyDrop s = extend n p s := by
  simp [afterEmptyDrop, hc, hm, hlive, hskip, hp]

/-- An extension with slots left to try and an eligible one ahead goes back to LIFT toward it (R33). -/
theorem extend_goes_on {n : Int} {w : WalkEnd} (hx : s.changer.extension < traySize s)
    (hw : walk s s.program.activeMap p (signStep n) = some w) (hshort : w.short = false) : extend n p s =
      toLift (setTarget (some w.target) { s with
        changer.extension := s.changer.extension + 1, changer.window := none }) := by
  have walked : walk { s with changer.extension := s.changer.extension + 1 } s.program.activeMap p (signStep n) = some w := hw
  unfold extend
  rw [if_neg (by exact Nat.not_lt.mpr hx)]
  simp only [walked, hshort, Bool.false_eq_true, if_false]

/-- The extension turns the EMPTY gate's tray on to the next eligible slot (R33). -/
theorem extend_rotates {n : Int} {w : WalkEnd} (hc : s.changer.cycle = some c) (hskip : c.skipRotate = false)
    (hp : s.tray.position = some p) (hg : s.changer.gate = .empty) (hx : s.changer.extension < traySize s)
    (hw : walk s s.program.activeMap p (signStep n) = some w) (hshort : w.short = false) (hne : p ≠ w.target)
    (hpause : s.changer.pause ≠ .pending) : extend n p s = { s with
      changer.extension := s.changer.extension + 1, changer.cycle := some { c with target := some w.target }
      changer.stage := .rotate, changer.motor := some (turnFor (traySize s) p w.target), changer.window := some 0 } := by
  rw [extend_goes_on hx hw hshort, toLift_skips (by exact hg),
    toRotate_drives (c := { c with target := some w.target }) (by simp [setTarget, hc]) hskip rfl (by exact hp) hne
      (by exact hpause)]
  simp [setTarget, hc, traySize]

/-! ### The end of SETTLE -/

/-- The Changer in LIGHT with no dark claim: the shutter opens before a LOADED gate (R34). -/
theorem lightStage_unclaimed (h : s.changer.claim = .clear) : lightStage s = { s with
    changer.stage := .light, changer.shutterOpen := s.changer.shutterOpen || decide (s.changer.gate = .loaded) } := by
  unfold lightStage
  split
  · next hg => simp [h, hg]
  · next hg => simp [hg]

/-! A record offered reads the link, the trace and the items, and not the Changer. -/

theorem settleWatermark_changer (g : Changer) (s : State) :
    settleWatermark { s with changer := g } = { settleWatermark s with changer := g } := by
  unfold settleWatermark
  dsimp only
  split <;> rfl

theorem countPost_changer (g : Changer) (s : State) :
    countPost { s with changer := g } = { countPost s with changer := g } := by
  unfold countPost
  dsimp only
  split <;> rfl

theorem offer_changer (b : TraceBody) (g : Changer) (s : State) :
    offer b { s with changer := g } = { offer b s with changer := g } := by
  have ring := settleWatermark_changer g { s with trace := ringPush { stamp := s.link.clock, body := b } s.trace }
  have fill := settleWatermark_changer g { s with trace := fillPush { stamp := s.link.clock, body := b } s.trace }
  have post := countPost_changer g
    (settleWatermark { s with trace := ringPush { stamp := s.link.clock, body := b } s.trace })
  unfold offer
  dsimp only at ring fill post ⊢
  split
  · rfl
  · exact fill
  · rfl
  · rw [ring]; exact post
  · rfl
  · exact ring

/-- A report reads and reaches the link and the trace, whatever the Changer is at. -/
theorem report_changer (n : Notice) (b : TraceBody) (g : Changer) (s : State) :
    report n b { s with changer := g } = { report n b s with changer := g } := offer_changer b g (give n s)

theorem sleepTest_clear (h : s.heat.sleepPending = .clear) : sleepTest s = s := by simp [sleepTest, h]

/-- The end of a cycle that no chase waits on reaches no sequence of the Cue Log. -/
theorem settled_unowned (ho : c.entry.owner = none) (u : State) :
    (if c.aborted then chaseFailed c.entry.owner .aborted u else chaseComplete c.entry.owner u) = u := by
  rw [ho]
  split <;> rfl

/-- DONE of an entry with one tag, the timer stopped, is its MOVE DONE with the record (R26, R35). -/
theorem doneStage_reports {tag : Byte} (hc : s.changer.cycle = some c) (ht : c.entry.tags = [tag])
    (htimer : s.program.timer = .stopped) : doneStage s =
      report (.moveDone c.entry.source c.entry.move s.tray.position (some tag) false (cycleOutcome c))
        (.moveDone s.tray.position c.entry.source c.entry.move (cycleOutcome c)) s := by
  have done : doneStage s = timerMoveDone
      (report (.moveDone c.entry.source c.entry.move s.tray.position (some tag) false (cycleOutcome c))
        (.moveDone s.tray.position c.entry.source c.entry.move (cycleOutcome c)) s) := by
    simp only [doneStage, hc, doneNotices, ht, tagMarks, List.map_cons, List.map_nil]
    rfl
  obtain ⟨l, t, hr, -⟩ := report_spec
    (.moveDone c.entry.source c.entry.move s.tray.position (some tag) false (cycleOutcome c))
    (.moveDone s.tray.position c.entry.source c.entry.move (cycleOutcome c)) s
  rw [done, hr]
  exact if_pos htimer

/-- The end of SETTLE of a move that no chase waits on, with nothing queued, no claim, the timer stopped and no sleep
pending: MOVE DONE with its record, the shutter open before a LOADED gate, and IDLE (R34, R35). -/
theorem settleEnds_done {tag : Byte} {l : Link} {t : Trace} (hs : s.changer.stage = .settle) (hc : s.changer.cycle = some c)
    (ho : c.entry.owner = none) (htags : c.entry.tags = [tag]) (hq : s.changer.queue = []) (hclaim : s.changer.claim = .clear)
    (htimer : s.program.timer = .stopped) (hsleep : s.heat.sleepPending = .clear)
    (hr : report (.moveDone c.entry.source c.entry.move s.tray.position (some tag) false (cycleOutcome c))
      (.moveDone s.tray.position c.entry.source c.entry.move (cycleOutcome c)) s = { s with link := l, trace := t }) :
    settleEnds s = toIdle { s with
      link := l, trace := t
      changer.shutterOpen := s.changer.shutterOpen || decide (s.changer.gate = .loaded) } := by
  have event : settleEnds s = startReady (sleepTest (toIdle (doneStage (lightStage s)))) := by
    simp only [settleEnds, hs, hc, settled_unowned ho]
  rw [event, lightStage_unclaimed hclaim, doneStage_reports (by exact hc) htags (by exact htimer), report_changer, hr,
    sleepTest_clear (by exact hsleep)]
  exact startReady_empty hq

end Sys2Proof.Machine

namespace Sys2Proof.Proofs

open Sys2Proof.Machine

variable {s : State}

/-- A drop window that runs out on a GOTO: ABSENT learned, and SETTLE (R31, R33). -/
theorem emptyGoto_settles {c : Cycle} {p g : Nat} {r : SlotRec} (hc : s.changer.cycle = some c)
    (hs : s.changer.stage = .drop) (hw : s.changer.seatWindow = false) (hp : s.tray.position = some (p + 1))
    (hr : s.tray.slots[p]? = some r) (hm : c.entry.move = .goto g) :
    exec .dropTimeout s = .next (toSettle (droppedEmpty p r s)) := by
  refine withThermal_next ?_ rfl
  rw [dropExpires_empty hs hw hp hr, afterEmptyDrop_goto (s := droppedEmpty p r s) hc hm]
  exact startReady_busy nofun

/-- A drop window that runs out on a STEP: ABSENT learned, and the tray turns on (R31, R33). -/
theorem emptyStep_rotates {c : Cycle} {n : Int} {p : Nat} {r : SlotRec} {w : WalkEnd} {s1 : State}
    (hc : s.changer.cycle = some c) (hs : s.changer.stage = .drop) (hw : s.changer.seatWindow = false)
    (hg : s.changer.gate = .empty) (hm : c.entry.move = .step n) (hlive : c.aborted = false) (hskip : c.skipRotate = false)
    (hitem : s.items.skipEmpties = true) (hp : s.tray.position = some (p + 1)) (hr : s.tray.slots[p]? = some r)
    (hx : s.changer.extension < traySize s) (hpause : s.changer.pause ≠ .pending)
    (hs1 : s1 = { s with
      changer.extension := s.changer.extension + 1
      tray.slots := s.tray.slots.set p { r with presence := .absent, source := .learned } })
    (hwalk : walk s1 s.program.activeMap (p + 1) (if 0 < n then 1 else -1) = some w) (hshort : w.short = false)
    (hne : w.target ≠ p + 1) : exec .dropTimeout s = .next { s1 with
      changer.cycle := some { c with target := some w.target }, changer.stage := .rotate
      changer.motor := some (turnFor (traySize s) (p + 1) w.target), changer.window := some 0 } := by
  have gate : (droppedEmpty p r s).changer.gate = .empty := by simp [droppedEmpty, hg]
  subst hs1
  refine withThermal_next ?_ rfl
  rw [dropExpires_empty hs hw hp hr, afterEmptyDrop_step (s := droppedEmpty p r s) hc hm hlive hitem hp,
    extend_rotates (s := droppedEmpty p r s) (w := w) hc hskip hp gate hx hwalk hshort hne.symm hpause,
    startReady_busy (by exact nofun)]
  simp [droppedEmpty, hg, traySize]

/-- Settles O24: the reports out of their stage are ignored, those in it are the lemmas of their events, and the ends of the
drop window and of SETTLE stand in `emptyGoto_settles`, `emptyStep_rotates` and `settleEnds_done`. -/
theorem cycleStagesRunToTheirEnd : Obligations.CycleStagesRunToTheirEnd := by
  refine ⟨⟨fun s _ hi => ?_, fun c s hc => ⟨fun hs hm hg => ?_, fun hno => ?_, fun p t hs hskip hp ht hne hpause => ?_,
      fun hs => ?_, fun hs hw => ?_, fun hs => ?_, fun hs => ?_, fun p r hs hp hr => ⟨fun hw => ?_, fun g hw hm => ?_⟩⟩⟩,
    fun c n p t r w s s1 hc hs hw hg hm hlive hskip hitem hp hr hx hpause hs1 hwalk hshort ht hne => ?_,
    fun c tag s hs hc ho htags hq hclaim htimer hsleep => ?_⟩
  · have notLift : s.changer.stage ≠ .lift := by simp [hi]
    have notDrop : s.changer.stage ≠ .drop := by simp [hi]
    exact ⟨next_congr (dropReported_late notDrop), withThermal_next (shutterCloses_idle hi) rfl,
      withThermal_next (liftReported_ignored notLift) rfl, next_congr (seatReported_ignored notDrop),
      withThermal_next (dropExpires_ignored notDrop) rfl⟩
  · exact withThermal_next (shutterCloses_lifts hc hs hm hg) rfl
  · exact withThermal_next (shutterCloses_ignored hc hno) rfl
  · exact withThermal_next (liftReported_rotates hc hs hskip hp ht hne hpause) rfl
  · exact withThermal_next (liftReported_ignored hs) rfl
  · exact next_congr (dropReported_opens hs hw)
  · exact next_congr (dropReported_late hs)
  · exact ⟨next_congr (seatReported_ignored hs), withThermal_next (dropExpires_ignored hs) rfl⟩
  · exact next_congr (seatReported_settles hs hw hp hr)
  · exact emptyGoto_settles hc hs hw hp hr hm
  · subst ht
    exact emptyStep_rotates hc hs hw hg hm hlive hskip hitem hp hr hx hpause hs1 hwalk hshort hne
  · obtain ⟨l, t, hr, -⟩ := report_spec
      (.moveDone c.entry.source c.entry.move s.tray.position (some tag) false (cycleOutcome c))
      (.moveDone s.tray.position c.entry.source c.entry.move (cycleOutcome c)) s
    refine ⟨l, t, withThermal_next (settleEnds_done hs hc ho htags hq hclaim htimer hsleep hr) rfl, ?_⟩
    rintro o rfl
    exact hr

end Sys2Proof.Proofs
end

section
/-! ## Changer faults of moves that no chase waits on (R29 to R31, R37) -/

namespace Sys2Proof.Machine

variable {s : State} {c : Cycle}

/-- A fault raised stands in the fault word beside the others, whether or not it stood (R191). -/
theorem raiseFault_faults (f : FaultKind) (pos : Option LampPos) (s : State) :
    ∃ l t, raiseFault f pos s = { s with link := l, trace := t } ∧ l.faults = s.link.faults ||| faultMask f := by
  obtain ⟨l, t, h, -, -, hf⟩ := raiseFault_spec f pos s
  refine ⟨l, t, h, hf.trans ?_⟩
  split
  · next stood =>
    refine BitVec.eq_of_getLsbD_eq fun i hi => ?_
    by_cases hb : faultCode f - 1 = i
    · subst hb
      simp [show s.link.faults.getLsbD (faultCode f - 1) = true from stood]
    · simp [faultMask, BitVec.getLsbD_twoPow, hb]
  · rfl

theorem chaseFailed_none (r : Reason) (s : State) : chaseFailed none r s = s := rfl

/-- Entries that no chase waits on are answered through the link alone. -/
theorem failEntries_unowned (r : Reason) {es : List MoveEntry} (ho : ∀ e ∈ es, e.owner = none) (s : State) :
    ∃ l, failEntries r es s = { s with link := l } ∧ l.faults = s.link.faults := by
  induction es generalizing s with
  | nil => exact ⟨_, rfl, rfl⟩
  | cons e es ih =>
    obtain ⟨l1, h1, f1, -⟩ := giveAll_spec (failedNotices e s.tray.position r) s
    obtain ⟨l2, h2, f2⟩ := ih (fun x hx => ho x (List.mem_cons_of_mem _ hx)) { s with link := l1 }
    refine ⟨l2, ?_, f2.trans f1⟩
    rw [failEntries, ho e (by simp), chaseFailed_none, h1, h2]

/-- A clearing of moves that no chase waits on reaches the link and the queue. -/
theorem clearQueue_unowned (r : Reason) (ho : ∀ e ∈ s.changer.queue, e.owner = none) :
    ∃ l, clearQueue r s = { s with link := l, changer.queue := [] } ∧ l.faults = s.link.faults :=
  failEntries_unowned r ho { s with changer.queue := [] }

/-- The report of a failed cycle that no chase waits on reaches the link and the trace. -/
theorem reportFailure_unowned (r : Reason) (k : Nat) (hc : s.changer.cycle = some c) (ho : c.entry.owner = none) :
    ∃ l t, reportFailure r k s = { s with link := l, trace := t } ∧ l.faults = s.link.faults := by
  obtain ⟨l1, h1, f1, -⟩ := giveAll_spec (failedNotices c.entry s.tray.position r) s
  obtain ⟨l2, t2, h2, f2, -⟩ := offer_spec (.moveFailed s.tray.position c.entry.source r k) { s with link := l1 }
  refine ⟨l2, t2, ?_, f2.trans f1⟩
  simp only [reportFailure, hc]
  rw [ho, chaseFailed_none, h1, h2]

/-- In ACTIVE no sleep is entered (R81). -/
theorem sleepTest_active (h : s.heat.power = .active) : sleepTest s = s := by
  unfold sleepTest
  split
  · rfl
  · exact if_neg (by simp [sleepConditions, h])

/-- The state after a changer fault, its reports as they came out (R37; log 55). -/
def faulted (f : FaultKind) (l : Link) (t : Trace) (s : State) : State :=
  { s with
    link := l, trace := t, tray.search := none
    tray.position := if f = .rotateStall then none else s.tray.position
    changer.stage := .idle, changer.cycle := none, changer.pause := .clear, changer.motor := none
    changer.liftArm := false, changer.seatWindow := false, changer.window := none, changer.queue := []
    changer.gate := .unknown }

/-- A changer fault in ACTIVE, of moves that no chase waits on, reaches the Changer, the search, the position and its
reports, and stands (R37). -/
theorem changerFails_active (f : FaultKind) (r : Reason) (hc : s.changer.cycle = some c) (ho : c.entry.owner = none)
    (hq : ∀ e ∈ s.changer.queue, e.owner = none) (hp : s.heat.power = .active) :
    ∃ l t, changerFails f r s = faulted f l t s ∧ l.faults = s.link.faults ||| faultMask f := by
  obtain ⟨l1, t1, h1, f1⟩ := raiseFault_faults f none (haltedBy f s)
  obtain ⟨l2, t2, h2, f2⟩ := reportFailure_unowned (s := { haltedBy f s with link := l1, trace := t1 }) r
    s.changer.queue.length hc ho
  obtain ⟨l3, h3, f3⟩ := clearQueue_unowned (s := { haltedBy f s with link := l2, trace := t2 }) r hq
  refine ⟨l3, t2, ?_, f3.trans (f2.trans f1)⟩
  have fall : changerFails f r s = sleepTest (toIdle (clearQueue r (reportFailure r s.changer.queue.length
    (raiseFault f none (haltedBy f s))))) := rfl
  rw [fall, h1, h2, h3, sleepTest_active (by exact hp)]
  rfl

/-- What a drop teaches reaches the slot records alone (R9). -/
theorem learn_spec (pres : Presence) (shown : Bool) (s : State) :
    ∃ slots, learn pres shown s = { s with tray.slots := slots } := by
  unfold learn
  repeat' split
  all_goals exact ⟨_, rfl⟩

/-! Outside its stage a window's expiry is ignored. -/

theorem liftExpires_ignored (h : s.changer.stage ≠ .lift) : liftExpires s = s := if_neg h

theorem stallExpires_ignored (h : s.changer.stage ≠ .rotate) : stallExpires s = s := if_neg h

theorem seatExpires_ignored (h : s.changer.stage ≠ .drop) : seatExpires s = s := if_neg fun g => h g.1

end Sys2Proof.Machine

namespace Sys2Proof.Proofs

open Sys2Proof.Machine

/-- Settles O25: each window's expiry is a changer fault (`changerFails_active`), the seat window's after what the drop
taught, and out of its stage it is ignored. -/
theorem changerFaultEndsTheCycle : Obligations.ChangerFaultEndsTheCycle := by
  intro c s hc ho hq hp
  refine ⟨fun cmd f hcmd => ?_, fun hs => next_congr (liftExpires_ignored hs),
    fun hs => next_congr (stallExpires_ignored hs), fun hs => next_congr (seatExpires_ignored hs)⟩
  rcases hcmd with ⟨rfl, rfl, hs⟩ | ⟨rfl, rfl, hs⟩ | ⟨rfl, rfl, hs, hw⟩
  · obtain ⟨l, t, hfail, hf⟩ := changerFails_active .jamLift .jamLift hc ho hq hp
    exact ⟨l, t, s.tray.slots, next_congr ((if_pos hs).trans hfail), hf, fun _ => rfl, nofun⟩
  · obtain ⟨l, t, hfail, hf⟩ := changerFails_active .rotateStall .rotateStall hc ho hq hp
    exact ⟨l, t, s.tray.slots, next_congr ((if_pos hs).trans hfail), hf, fun _ => rfl, nofun⟩
  · obtain ⟨slots, hlearn⟩ := learn_spec .present false s
    obtain ⟨l, t, hfail, hf⟩ := changerFails_active (s := { s with tray.slots := slots }) .jamDrop .jamDrop hc ho hq hp
    have event : seatExpires s = faulted .jamDrop l t { s with tray.slots := slots } := by
      rw [seatExpires, if_pos ⟨hs, hw⟩, hlearn, hfail]
    refine ⟨l, t, slots, next_congr event, hf, fun h => absurd rfl h, fun p r _ hpos hr => ?_⟩
    have learned := hlearn.symm.trans (learn_slot .present false hpos hr)
    exact congrArg (fun u : State => u.tray.slots) learned

end Sys2Proof.Proofs
end

section
/-! ## PAUSE MOVE, CONTINUE MOVE and ABORT MOVES (R40 to R43) -/

namespace Sys2Proof.Machine

variable {s : State} {c : Cycle} {p t : Nat}

/-! ### Pause and continue -/

/-- With no cycle to pause PAUSE MOVE changes nothing: in IDLE, in PAUSED, and for an aborted cycle (R40). -/
theorem pauseCycle_ignored (h : s.changer.stage = .idle ∨ s.changer.stage = .paused
    ∨ ∃ c, s.changer.cycle = some c ∧ c.aborted = true) : pauseCycle s = s := by
  unfold pauseCycle
  split
  · rfl
  · rfl
  · rfl
  · next d hd hi hp =>
    obtain ⟨c, hc, ha⟩ := (h.resolve_left hi).resolve_left hp
    cases hc.symm.trans hd
    exact if_pos ha

/-- A running cycle that is not aborted takes the pause (R40). -/
theorem pauseCycle_pends (hi : s.changer.stage ≠ .idle) (hp : s.changer.stage ≠ .paused) (hc : s.changer.cycle = some c)
    (ha : c.aborted = false) : pauseCycle s = { s with changer.pause := .pending } := by
  unfold pauseCycle
  split
  · next h => exact absurd h hi
  · next h => exact absurd h hp
  · next h _ _ => cases hc.symm.trans h
  · next d hd _ _ =>
    cases hc.symm.trans hd
    exact if_neg (by simp [ha])

theorem continueCycle_clear (h : s.changer.pause = .clear) : continueCycle s = s := by simp [continueCycle, h]

theorem continueCycle_pending (h : s.changer.pause = .pending) : continueCycle s = { s with changer.pause := .clear } := by
  simp [continueCycle, h]

/-- A PAUSED rotation starts again toward its target (R41). -/
theorem continueCycle_paused (h : s.changer.pause = .paused) (hc : s.changer.cycle = some c) (hskip : c.skipRotate = false)
    (ht : c.target = some t) (hp : s.tray.position = some p) (hne : p ≠ t) : continueCycle s = { s with
      changer.pause := .clear, changer.stage := .rotate, changer.motor := some (turnFor (traySize s) p t)
      changer.window := some 0 } := by
  have event : continueCycle s = startReady (toRotate { s with changer.pause := .clear }) := by simp [continueCycle, h]
  rw [event, toRotate_drives (by exact hc) hskip ht (by exact hp) hne (by exact nofun)]
  exact startReady_busy nofun

/-! ### Abort, past DARK (R43) -/

/-- With nothing queued ABORT MOVES is the cycle's part, with the pause taken off (R42). -/
theorem abortAll_empty (hq : s.changer.queue = []) : abortAll s = abortCycle { s with changer.pause := .clear } := by
  rw [abortAll, clearQueue_empty _ hq]

theorem abortCycle_none (hc : s.changer.cycle = none) : abortCycle s = s := by simp [abortCycle, hc]

theorem abortCycle_aborted (hc : s.changer.cycle = some c) (ha : c.aborted = true) : abortCycle s = s := by
  simp [abortCycle, hc, ha]

theorem redirect_some (f : Cycle → Cycle) (hc : s.changer.cycle = some c) :
    redirect f s = { s with changer.cycle := some (f { c with aborted := true }) } := by
  simp [redirect, hc]

section Redirected

variable (hc : s.changer.cycle = some c) (ha : c.aborted = false)
include hc ha

/-- In LIFT the slide goes back where it came from. -/
theorem abortCycle_lift (hs : s.changer.stage = .lift) : abortCycle s = { s with
    changer.cycle := some { c with aborted := true, target := s.tray.position, skipRotate := true } } := by
  rw [← redirect_some (fun d => { d with target := s.tray.position, skipRotate := true }) hc]
  simp [abortCycle, hs, hc, ha]

/-- In ROTATE the tray stops at the next pulse. -/
theorem abortCycle_rotate (hs : s.changer.stage = .rotate) (hp : s.tray.position = some p) : abortCycle s = { s with
    changer.cycle := some { c with aborted := true, stopAtPulse := true } } := by
  rw [← redirect_some (fun d => { d with stopAtPulse := true }) hc]
  simp [abortCycle, hs, hc, ha, hp]

/-- In a home search the tray stops at the gap. -/
theorem abortCycle_search (hs : s.changer.stage = .rotate) (hp : s.tray.position = none) : abortCycle s = { s with
    changer.cycle := some { c with aborted := true, target := some 0 } } := by
  rw [← redirect_some (fun d => { d with target := some 0 }) hc]
  simp [abortCycle, hs, hc, ha, hp]

/-- From DROP on the cycle runs on, marked aborted. -/
theorem abortCycle_dropped (hs : s.changer.stage = .drop ∨ s.changer.stage = .settle) : abortCycle s = { s with
    changer.cycle := some { c with aborted := true } } := by
  refine Eq.trans ?_ (redirect_some id hc)
  rcases hs with hs | hs <;> simp [abortCycle, hs, hc, ha]

/-- In PAUSED at a slot the drop is made there. -/
theorem abortCycle_paused (hs : s.changer.stage = .paused) (hp : s.tray.position = some p) (h0 : p ≠ 0) :
    abortCycle s = { s with
      changer.pause := .clear, changer.cycle := some { c with aborted := true, target := some p }
      changer.motor := none, tray.search := none, changer.stage := .drop, changer.seatWindow := false
      changer.window := some 0 } := by
  have event : abortCycle s = startReady (abortPaused s) := by simp [abortCycle, hs, hc, ha]
  have paused : abortPaused s = toDrop { s with
      changer.pause := .clear, changer.cycle := some { c with aborted := true, target := some p } } := by
    simp [abortPaused, hp, redirect, hc]
  rw [event, paused, toDrop_slot (by exact hp) h0]
  exact startReady_busy nofun

end Redirected

/-! ### Abort in DARK (R42) -/

/-- D recomputed reaches the Lamp Drive and the Heat Monitor alone. -/
theorem recomputeD_spec (s : State) : ∃ l h, recomputeD s = { s with lamp := l, heat := h } := by
  unfold recomputeD
  dsimp only
  repeat' split
  all_goals exact ⟨_, _, rfl⟩

/-- A fade's start reaches the Lamp Drive and the Heat Monitor alone. -/
theorem startFade_spec (k : FadeKind) (b n : Nat) (s : State) : ∃ l h, startFade k b n s = { s with lamp := l, heat := h } := by
  unfold startFade
  split
  · obtain ⟨l, h, e⟩ := recomputeD_spec { s with lamp.ramp := b, lamp.fade := none, lamp.restriking := false }
    exact ⟨l, h, e⟩
  · exact ⟨_, _, rfl⟩

/-- A light request reaches the Lamp Drive and the Heat Monitor alone (R55). -/
theorem lightRequest_spec (s : State) : ∃ l h, lightRequest s = { s with lamp := l, heat := h } := by
  unfold lightRequest
  dsimp only
  split
  · exact ⟨_, _, rfl⟩
  · exact ⟨_, _, rfl⟩
  · exact recomputeD_spec { s with
      lamp.darkWaiting := false, lamp.ramp := 120, lamp.dest := .value s.lamp.show_, lamp.destRamp := .fadeIn }
  · split
    · exact ⟨_, _, rfl⟩
    · exact startFade_spec _ _ _ { s with lamp.darkWaiting := false }
  · exact ⟨_, _, rfl⟩

/-- LIGHT opens the shutter and drops the claim before a LOADED gate, and may ask for light (R34). -/
theorem lightStage_spec (s : State) : ∃ l h, lightStage s = { s with
    lamp := l, heat := h, changer.stage := .light
    changer.shutterOpen := s.changer.shutterOpen || decide (s.changer.gate = .loaded)
    changer.claim := if s.changer.gate = .loaded then .clear else s.changer.claim } := by
  unfold lightStage
  split
  · next hg =>
    dsimp only
    split
    · exact ⟨s.lamp, s.heat, by simp [hg]⟩
    · obtain ⟨l, h, e⟩ := lightRequest_spec { s with
        changer.stage := .light, changer.shutterOpen := true, changer.claim := .clear }
      exact ⟨l, h, e.trans (by simp [hg])⟩
  · next hg => exact ⟨s.lamp, s.heat, by simp [hg]⟩

/-- DONE reaches the link, the trace and the timer alone (R35). -/
theorem doneStage_spec (s : State) : ∃ l t p, doneStage s = { s with link := l, trace := t, program := p } := by
  unfold doneStage
  split
  · next c _ =>
    obtain ⟨l1, h1, -⟩ := giveAll_spec (doneNotices c.entry s.tray.position (cycleOutcome c)) s
    obtain ⟨l2, t2, h2, -⟩ := offer_spec
      (.moveDone s.tray.position c.entry.source c.entry.move (cycleOutcome c)) { s with link := l1 }
    rw [h1, h2, timerMoveDone]
    split <;> exact ⟨_, _, _, rfl⟩
  · exact ⟨_, _, _, rfl⟩

/-- The Changer after a cycle cut short in DARK: IDLE, with light before a LOADED gate (R42). -/
def cutShort (g : Changer) : Changer :=
  { g with
    stage := .idle, cycle := none, pause := .clear, motor := none, liftArm := false, seatWindow := false, window := none
    shutterOpen := g.shutterOpen || decide (g.gate = .loaded)
    claim := if g.gate = .loaded then .clear else g.claim }

/-- What a cycle cut short reaches, when no chase waits on it (R42). -/
theorem finishAborted_spec (hc : s.changer.cycle = some c) (ho : c.entry.owner = none) : ∃ l t m h d r p,
    finishAborted s = { s with
      link := l, trace := t, lamp := m, heat := h, decoder := d, remote := r, program := p
      tray.search := none, changer := cutShort s.changer } := by
  have owner : cycleOwner s = none := by simp [cycleOwner, hc, ho]
  obtain ⟨m, h1, light⟩ := lightStage_spec s
  obtain ⟨l1, t1, p, done⟩ := doneStage_spec (lightStage s)
  obtain ⟨l, t, h, d, r, sleep, -⟩ := sleepTest_spec (toIdle (doneStage (lightStage s)))
  refine ⟨l, t, m, h, d, r, p, ?_⟩
  rw [finishAborted, owner, chaseFailed_none, sleep, done, light]
  rfl

/-- In DARK the cycle is cut short at once (R42). -/
theorem abortCycle_dark (hc : s.changer.cycle = some c) (ha : c.aborted = false) (hs : s.changer.stage = .dark) :
    abortCycle s = startReady (finishAborted { s with changer.cycle := some { c with aborted := true } }) := by
  refine Eq.trans ?_ (congrArg (fun u => startReady (finishAborted u)) (redirect_some id hc))
  simp [abortCycle, hs, hc, ha]

/-! ### The queue answered (R42, R26) -/

variable {b : Nat} {n : Notice}

/-- A notice sets the pending flag of its kind and no other (R190). -/
theorem give_flags (hb : noticeBit n = b) (s : State) :
    (give n s).link.flags = s.link.flags ||| BitVec.twoPow 24 b := by
  subst hb
  simp only [give, giveLink, queueNotice]
  split
  · split
    · exact (pump_keeps _).1
    · rfl
  · rfl

/-- Notices of one kind set its pending flag and no other (R190). -/
theorem giveAll_flags {ns : List Notice} (hb : ∀ k ∈ n :: ns, noticeBit k = b) (s : State) :
    (giveAll (n :: ns) s).link.flags = s.link.flags ||| BitVec.twoPow 24 b := by
  induction ns generalizing n s with
  | nil => exact give_flags (hb n (by simp)) s
  | cons k ks ih =>
    rw [giveAll, ih (fun x hx => hb x (List.mem_cons_of_mem _ hx)), give_flags (hb n (by simp)), BitVec.or_assoc,
      BitVec.or_self]

/-- An entry answers at least once. -/
theorem tagMarks_ne_nil (ts : List Byte) : tagMarks ts ≠ [] := by
  unfold tagMarks
  split <;> simp

/-- The answers of a failed entry set the flag of MOVE FAILED (R26). -/
theorem failedNotices_flags (e : MoveEntry) (slot : Option Nat) (r : Reason) (s : State) :
    (giveAll (failedNotices e slot r) s).link.flags = s.link.flags ||| 2 := by
  obtain ⟨n, ns, hns⟩ := List.exists_cons_of_ne_nil
    (show failedNotices e slot r ≠ [] by simp [failedNotices, tagMarks_ne_nil])
  have kind : ∀ k ∈ failedNotices e slot r, noticeBit k = 1 := by
    intro k hk
    obtain ⟨m, -, rfl⟩ := List.mem_map.mp hk
    rfl
  rw [hns] at kind ⊢
  exact giveAll_flags kind s

/-- A queue of one entry that no chase waits on is answered MOVE FAILED through the link (R42). -/
theorem clearQueue_one {e : MoveEntry} (r : Reason) (hq : s.changer.queue = [e]) (ho : e.owner = none) :
    ∃ l, clearQueue r s = { s with link := l, changer.queue := [] } ∧ l.flags = s.link.flags ||| 2
      ∧ l.mask = s.link.mask ∧ l.faults = s.link.faults := by
  have answered : clearQueue r s = giveAll (failedNotices e s.tray.position r) { s with changer.queue := [] } := by
    simp only [clearQueue, hq, failEntries, ho, chaseFailed_none]
  obtain ⟨l, h, hf, hm, -⟩ := giveAll_spec (failedNotices e s.tray.position r) { s with changer.queue := [] }
  have flags := failedNotices_flags e s.tray.position r { s with changer.queue := [] }
  rw [h] at flags
  exact ⟨l, answered.trans h, flags, hm, hf⟩

/-- A reply's payload reaches the reply order alone (R185). -/
theorem fillReply_spec (payload : List Byte) (s : State) : ∃ l, fillReply payload s = { s with link := l }
    ∧ l.flags = s.link.flags ∧ l.mask = s.link.mask ∧ l.faults = s.link.faults := by
  unfold fillReply
  split <;> exact ⟨_, rfl, rfl, rfl, rfl⟩

end Sys2Proof.Machine

namespace Sys2Proof.Proofs

open Sys2Proof.Machine

section

variable {h : Hdr} {s : State} (hs : servable s) (hl : h.len = 0)
include hs hl

/-! ### The requests -/

/-- A request that answers the pause state and makes one write, of neither the link nor what THERMAL watches. -/
theorem pauseRequest_writes (k : Byte) {g : State → State} (f : State → State)
    (hlink : ∀ u l, f { u with link := l } = { f u with link := l }) (hkey : ∀ u, thermalKey (f u) = thermalKey u)
    (hf : g (takePlace (k + 0x80) h.tag s) = f (takePlace (k + 0x80) h.tag s)) :
    request k 0 h (fun u => (.done (pauseData (g u)), g u)) s =
      f (replied (k + 0x80) h.tag (0 :: pauseData (f (takePlace (k + 0x80) h.tag s))) s) :=
  request_writes s k 0 h _ (.done (pauseData (f (takePlace (k + 0x80) h.tag s)))) f hs (by simp [hl]) hlink hkey
    (congrArg (fun u => (Answer.done (pauseData u), u)) hf)

theorem abortMoves_writes (f : State → State) (hlink : ∀ u l, f { u with link := l } = { f u with link := l })
    (hkey : ∀ u, thermalKey (f u) = thermalKey u)
    (hf : abortAll (takePlace 0x94 h.tag s) = f (takePlace 0x94 h.tag s)) :
    exec (.abortMoves h) s = .next (f (replied 0x94 h.tag [0] s)) :=
  next_congr (request_writes s 0x14 0 h _ (.done []) f hs (by simp [hl]) hlink hkey
    (by exact congrArg (fun u => (Answer.done [], u)) hf))

theorem abortMoves_serves : exec (.abortMoves h) s =
    .next (settleThermal (thermalKey s) (fillReply [0] (abortAll (takePlace 0x94 h.tag s)))) :=
  next_congr (request_served 0x14 0 h _ s hs (by simp [hl]))

/-! ### Pause and continue -/

/-- PAUSE MOVE and CONTINUE MOVE, whole (R40, R41). -/
theorem pause_and_continue :
    (s.changer.stage = .idle ∨ s.changer.stage = .paused ∨ (∃ c, s.changer.cycle = some c ∧ c.aborted = true) →
      exec (.pauseMove h) s = .next (replied 0x92 h.tag [0, BitVec.ofNat 8 (pauseCode s.changer.pause)] s))
    ∧ (∀ c, s.changer.stage ≠ .idle → s.changer.stage ≠ .paused → s.changer.cycle = some c → c.aborted = false →
      exec (.pauseMove h) s = .next { replied 0x92 h.tag [0, 1] s with changer.pause := .pending })
    ∧ (s.changer.pause = .clear → exec (.continueMove h) s = .next (replied 0x93 h.tag [0, 0] s))
    ∧ (s.changer.pause = .pending → exec (.continueMove h) s =
      .next { replied 0x93 h.tag [0, 0] s with changer.pause := .clear })
    ∧ (∀ c p t, s.changer.pause = .paused → s.changer.cycle = some c → c.skipRotate = false → c.target = some t →
      s.tray.position = some p → p ≠ t → exec (.continueMove h) s =
        .next { replied 0x93 h.tag [0, 0] s with
          changer.pause := .clear, changer.stage := .rotate, changer.motor := some (turnFor (traySize s) p t)
          changer.window := some 0 }) := by
  refine ⟨fun hno => ?_, fun c hi hp hc ha => ?_, fun hp => ?_, fun hp => ?_, fun c p t hpause hc hskip ht hp hne => ?_⟩
  · exact next_congr (pauseRequest_writes hs hl 0x12 id (fun _ _ => rfl) (fun _ => rfl) (pauseCycle_ignored hno))
  · exact next_congr (pauseRequest_writes hs hl 0x12 (fun u => { u with changer := { s.changer with pause := .pending } })
      (fun _ _ => rfl) (fun _ => rfl) (pauseCycle_pends hi hp hc ha))
  · have taken := pauseRequest_writes hs hl 0x13 id (fun _ _ => rfl) (fun _ => rfl) (continueCycle_clear hp)
    exact next_congr (by simpa [pauseData, hp, pauseCode, byte1] using taken)
  · exact next_congr (pauseRequest_writes hs hl 0x13 (fun u => { u with changer := { s.changer with pause := .clear } })
      (fun _ _ => rfl) (fun _ => rfl) (continueCycle_pending hp))
  · exact next_congr (pauseRequest_writes hs hl 0x13 (fun u => { u with changer := { s.changer with
        pause := .clear, stage := .rotate, motor := some (turnFor (traySize s) p t), window := some 0 } })
      (fun _ _ => rfl) (fun _ => rfl) (continueCycle_paused hpause hc hskip ht hp hne))

/-! ### Abort -/

/-- An abort with nothing queued that writes the Changer and the home search alone. -/
theorem abort_writes {g : Changer} {k : Option Nat} (hq : s.changer.queue = [])
    (hf : abortCycle { takePlace 0x94 h.tag s with changer.pause := .clear } =
      { takePlace 0x94 h.tag s with changer := g, tray.search := k }) :
    exec (.abortMoves h) s = .next { replied 0x94 h.tag [0] s with changer := g, tray.search := k } :=
  abortMoves_writes hs hl (fun u => { u with changer := g, tray := { s.tray with search := k } }) (fun _ _ => rfl)
    (fun _ => rfl) ((abortAll_empty (s := takePlace 0x94 h.tag s) hq).trans hf)

/-- A cycle in DARK, which no chase waits on, ends at once (R42). -/
theorem abort_dark {c : Cycle} (hq : s.changer.queue = []) (hc : s.changer.cycle = some c) (ha : c.aborted = false)
    (hd : s.changer.stage = .dark) (ho : c.entry.owner = none) : ∃ t, exec (.abortMoves h) s = .next t
      ∧ t.changer = cutShort s.changer ∧ t.tray = { s.tray with search := none } ∧ t.items = s.items
      ∧ t.transport = s.transport ∧ t.cueLog = s.cueLog := by
  obtain ⟨l, t, m, g, d, r, p, cut⟩ := finishAborted_spec (c := { c with aborted := true })
    (s := { takePlace 0x94 h.tag s with changer.pause := .clear, changer.cycle := some { c with aborted := true } }) rfl ho
  have event : abortAll (takePlace 0x94 h.tag s) = { s with
      link := l, trace := t, lamp := m, heat := g, decoder := d, remote := r, program := p
      tray.search := none, changer := cutShort s.changer } := by
    rw [abortAll_empty (by exact hq), abortCycle_dark (by exact hc) ha (by exact hd), cut]
    exact startReady_empty hq
  refine ⟨_, abortMoves_serves hs hl, ?_⟩
  obtain ⟨l1, reply, -⟩ := fillReply_spec [0] (abortAll (takePlace 0x94 h.tag s))
  obtain ⟨l2, t2, thermal, -⟩ := settleThermal_spec (thermalKey s) (fillReply [0] (abortAll (takePlace 0x94 h.tag s)))
  rw [thermal, reply, event]
  exact ⟨rfl, rfl, rfl, rfl, rfl⟩

/-- With no cycle in progress a queued entry is answered, and that is all (R42). -/
theorem abort_queued {e : MoveEntry} (hq : s.changer.queue = [e]) (ho : e.owner = none) (hc : s.changer.cycle = none) :
    ∃ l, exec (.abortMoves h) s = .next { s with link := l, changer.queue := [], changer.pause := .clear }
      ∧ l.flags = s.link.flags ||| 2 ∧ l.mask = s.link.mask ∧ l.faults = s.link.faults := by
  obtain ⟨l, cleared, hflags, hmask, hfaults⟩ := clearQueue_one (s := takePlace 0x94 h.tag s) .aborted hq ho
  have event : abortAll (takePlace 0x94 h.tag s) =
      { s with link := l, changer.queue := [], changer.pause := .clear } := by
    rw [abortAll, cleared]
    exact abortCycle_none hc
  obtain ⟨l1, reply, hf1, hm1, hb1⟩ := fillReply_spec [0] (abortAll (takePlace 0x94 h.tag s))
  rw [event] at reply hf1 hm1 hb1
  refine ⟨l1, ?_, hf1.trans hflags, hm1.trans hmask, hb1.trans hfaults⟩
  rw [abortMoves_serves hs hl, event, reply]
  exact next_congr (settleThermal_same _ _ rfl)

end

/-- Settles O22: PAUSE MOVE and CONTINUE MOVE stand in `pause_and_continue`, and ABORT MOVES is `abort_writes` with the
stage's redirection, `abort_dark` or `abort_queued`. -/
theorem movesPauseContinueAndAbort : Obligations.MovesPauseContinueAndAbort := by
  refine ⟨fun h s hs hl => pause_and_continue hs hl, fun h s hs hl => ⟨fun hq => ⟨fun hc => ?_, fun c hc => ⟨fun ha => ?_,
    fun ha => ⟨abort_dark hs hl hq hc ha, fun hst => ?_, fun p hst hp => ?_, fun hst hp => ?_, fun hst => ?_,
      fun p hst hp h0 => ?_⟩⟩⟩, fun e => abort_queued hs hl⟩⟩
  · exact abort_writes hs hl hq (abortCycle_none hc)
  · exact abort_writes hs hl hq (abortCycle_aborted hc ha)
  · exact abort_writes hs hl hq (abortCycle_lift hc ha hst)
  · exact abort_writes hs hl hq (abortCycle_rotate hc ha hst hp)
  · exact abort_writes hs hl hq (abortCycle_search hc ha hst hp)
  · exact abort_writes hs hl hq (abortCycle_dropped hc ha hst)
  · exact abort_writes hs hl hq (abortCycle_paused hc ha hst hp h0)

end Sys2Proof.Proofs
end

section
/-! ## What the laws of lamp and heat read

`lampLaw` and `thermalLaw` read few fields of a few blocks. `viewOf` collects them, so that an operation that moves none of
them is one equation, `viewOf (f s) = viewOf s`. Those that hold by computation are proved by `(rfl)`, in parentheses, so that
`simp` takes them as equations to rewrite with, in a side condition's proof too, and not as definitional ones. -/

namespace Sys2Proof.Machine

/-- The fields that the laws of lamp and heat read: of the Lamp Drive, of the Heat Monitor, the three faults of heat and fan,
and the cut-out line. -/
structure View where
  state : LampState
  recA : LampCond
  recB : LampCond
  active : LampPos
  swapTo : Option LampPos
  ramp : Nat
  drive : Nat
  estimate : Nat
  ceiling : Nat
  zone : Zone
  allowed : Bool
  floor : FanFloor
  fan : FanLevel
  latch : Bool
  cooling : Bool
  power : PowerState
  overtemp : Bool
  tco : Bool
  stall : Bool
  line : Bool

/-- A fault kind stands in a fault word (R191). -/
def faultIn (f : FaultKind) (w : BitVec 16) : Bool := w.getLsbD (faultCode f - 1)

/-- What the laws of lamp and heat read of a state. -/
def viewOf (s : State) : View where
  state := s.lamp.state
  recA := s.lamp.recA
  recB := s.lamp.recB
  active := s.lamp.active
  swapTo := s.lamp.swap.map Swap.newPos
  ramp := s.lamp.ramp
  drive := s.lamp.drive
  estimate := s.heat.estimate
  ceiling := s.heat.ceiling
  zone := s.heat.zone
  allowed := s.heat.allowed
  floor := s.heat.floor
  fan := s.heat.fan
  latch := s.heat.latch
  cooling := s.heat.cooling
  power := s.heat.power
  overtemp := faultIn .overtemp s.link.faults
  tco := faultIn .tcoOpen s.link.faults
  stall := faultIn .fanStall s.link.faults
  line := s.lines.tcoOpen

@[simp] theorem viewOf_mk (link : Link) (items : Items) (trace : Trace) (tray : Tray) (changer : Changer) (lamp : Lamp)
    (heat : Heat) (transport : Transport) (decoder : Decoder) (cueLog : CueLog) (program : Program) (remote : RemoteRx)
    (lines : Lines) (pending : List Instr) (reads : Nat) :
    viewOf ⟨link, items, trace, tray, changer, lamp, heat, transport, decoder, cueLog, program, remote, lines, pending, reads⟩
      = ⟨lamp.state, lamp.recA, lamp.recB, lamp.active, lamp.swap.map Swap.newPos, lamp.ramp, lamp.drive, heat.estimate,
        heat.ceiling, heat.zone, heat.allowed, heat.floor, heat.fan, heat.latch, heat.cooling, heat.power,
        faultIn .overtemp link.faults, faultIn .tcoOpen link.faults, faultIn .fanStall link.faults, lines.tcoOpen⟩ := (rfl)

@[simp] theorem view_eta (s : State) :
    (⟨s.lamp.state, s.lamp.recA, s.lamp.recB, s.lamp.active, s.lamp.swap.map Swap.newPos, s.lamp.ramp, s.lamp.drive,
      s.heat.estimate, s.heat.ceiling, s.heat.zone, s.heat.allowed, s.heat.floor, s.heat.fan, s.heat.latch, s.heat.cooling,
      s.heat.power, faultIn .overtemp s.link.faults, faultIn .tcoOpen s.link.faults, faultIn .fanStall s.link.faults,
      s.lines.tcoOpen⟩ : View) = viewOf s := (rfl)

variable (s : State)

/-! ### Notices, records, faults -/

@[simp] theorem viewOf_giveAll (ns : List Notice) : viewOf (giveAll ns s) = viewOf s := by
  obtain ⟨l, h, hf, -⟩ := giveAll_spec ns s
  simp [h, hf]

@[simp] theorem viewOf_give (n : Notice) : viewOf (give n s) = viewOf s := viewOf_giveAll s [n]

@[simp] theorem viewOf_settleWatermark : viewOf (settleWatermark s) = viewOf s := by
  obtain ⟨l, t, h, hf, -⟩ := settleWatermark_spec s
  simp [h, hf]

@[simp] theorem viewOf_offer (b : TraceBody) : viewOf (offer b s) = viewOf s := by
  obtain ⟨l, t, h, hf, -⟩ := offer_spec b s
  simp [h, hf]

@[simp] theorem viewOf_report (n : Notice) (b : TraceBody) : viewOf (report n b s) = viewOf s := by simp [report]

/-- Another fault's bit in the fault word. -/
theorem faultIn_or_mask (f g : FaultKind) (w : BitVec 16) :
    faultIn f (w ||| faultMask g) = (faultIn f w || decide (f = g)) := by
  cases f <;> cases g <;> simp [faultIn, faultMask, faultCode]

theorem faultIn_and_not_mask (f g : FaultKind) (w : BitVec 16) :
    faultIn f (w &&& ~~~(faultMask g)) = (faultIn f w && !decide (f = g)) := by
  cases f <;> cases g <;> simp [faultIn, faultMask, faultCode]

/-- Raising a fault sets its bit and leaves the others (R191). -/
theorem faultIn_raiseFault (f g : FaultKind) (pos : Option LampPos) :
    faultIn f (raiseFault g pos s).link.faults = (faultIn f s.link.faults || decide (f = g)) := by
  obtain ⟨l, t, h, -, -, hf⟩ := raiseFault_spec g pos s
  have stands : hasFault g s = faultIn g s.link.faults := rfl
  rw [h, hf, stands]
  split
  · next hg =>
    by_cases e : f = g
    · simp [e, hg]
    · simp [e]
  · exact faultIn_or_mask f g _

/-- Clearing a fault clears its bit and leaves the others (R191). -/
theorem faultIn_clearFault (f g : FaultKind) :
    faultIn f (clearFault g s).link.faults = (faultIn f s.link.faults && !decide (f = g)) := by
  obtain ⟨l, t, h, -, -, hf⟩ := clearFault_spec g s
  have stands : hasFault g s = faultIn g s.link.faults := rfl
  rw [h, hf, stands]
  split
  · exact faultIn_and_not_mask f g _
  · next hg =>
    by_cases e : f = g
    · simpa [e] using hg
    · simp [e]

/-- What raising a fault shows the laws: its own bit. -/
theorem viewOf_raiseFault_eq (f : FaultKind) (pos : Option LampPos) :
    viewOf (raiseFault f pos s) = { viewOf s with
      overtemp := (viewOf s).overtemp || decide (.overtemp = f)
      tco := (viewOf s).tco || decide (.tcoOpen = f)
      stall := (viewOf s).stall || decide (.fanStall = f) } := by
  have bit : ∀ g, faultIn g (raiseFault f pos s).link.faults = (faultIn g s.link.faults || decide (g = f)) :=
    fun g => faultIn_raiseFault s g f pos
  obtain ⟨l, t, h, -⟩ := raiseFault_spec f pos s
  rw [h] at bit ⊢
  simp only [viewOf_mk, bit]
  rfl

/-- What clearing a fault shows the laws: its own bit. -/
theorem viewOf_clearFault_eq (f : FaultKind) :
    viewOf (clearFault f s) = { viewOf s with
      overtemp := (viewOf s).overtemp && !decide (.overtemp = f)
      tco := (viewOf s).tco && !decide (.tcoOpen = f)
      stall := (viewOf s).stall && !decide (.fanStall = f) } := by
  have bit : ∀ g, faultIn g (clearFault f s).link.faults = (faultIn g s.link.faults && !decide (g = f)) :=
    fun g => faultIn_clearFault s g f
  obtain ⟨l, t, h, -⟩ := clearFault_spec f s
  rw [h] at bit ⊢
  simp only [viewOf_mk, bit]
  rfl

@[simp] theorem viewOf_raiseFault {f : FaultKind} (pos : Option LampPos) (h1 : .overtemp ≠ f) (h2 : .tcoOpen ≠ f)
    (h3 : .fanStall ≠ f) : viewOf (raiseFault f pos s) = viewOf s := by simp [viewOf_raiseFault_eq, h1, h2, h3]

@[simp] theorem viewOf_clearFault {f : FaultKind} (h1 : .overtemp ≠ f) (h2 : .tcoOpen ≠ f) (h3 : .fanStall ≠ f) :
    viewOf (clearFault f s) = viewOf s := by simp [viewOf_clearFault_eq, h1, h2, h3]

theorem viewOf_raise_overtemp (pos : Option LampPos) :
    viewOf (raiseFault .overtemp pos s) = { viewOf s with overtemp := true } := by simp [viewOf_raiseFault_eq]

theorem viewOf_raise_tcoOpen (pos : Option LampPos) :
    viewOf (raiseFault .tcoOpen pos s) = { viewOf s with tco := true } := by simp [viewOf_raiseFault_eq]

theorem viewOf_raise_fanStall (pos : Option LampPos) :
    viewOf (raiseFault .fanStall pos s) = { viewOf s with stall := true } := by simp [viewOf_raiseFault_eq]

theorem viewOf_clear_overtemp : viewOf (clearFault .overtemp s) = { viewOf s with overtemp := false } := by
  simp [viewOf_clearFault_eq]

theorem viewOf_clear_tcoOpen : viewOf (clearFault .tcoOpen s) = { viewOf s with tco := false } := by
  simp [viewOf_clearFault_eq]

theorem viewOf_clear_fanStall : viewOf (clearFault .fanStall s) = { viewOf s with stall := false } := by
  simp [viewOf_clearFault_eq]

@[simp] theorem viewOf_writeTraceMode (mode : TraceMode) (trigger : BitVec 16) (post : Nat) :
    viewOf (writeTraceMode mode trigger post s) = viewOf s := by
  obtain ⟨l, h, hf, -⟩ := writeTraceMode_spec mode trigger post s
  simp [h, hf]

@[simp] theorem viewOf_takePlace (k t : Byte) : viewOf (takePlace k t s) = viewOf s := (rfl)

@[simp] theorem viewOf_fillReply (p : List Byte) : viewOf (fillReply p s) = viewOf s := by
  unfold fillReply
  split <;> rfl

/-! ### Reports of lamp, heat and power -/

@[simp] theorem viewOf_reportLamp (c : Reason) : viewOf (reportLamp c s) = viewOf s := viewOf_report ..

@[simp] theorem viewOf_recordRefusedStrike (r : Reason) : viewOf (recordRefusedStrike r s) = viewOf s := viewOf_offer ..

@[simp] theorem viewOf_settleThermal (key : FanLevel × Zone × Bool) : viewOf (settleThermal key s) = viewOf s := by
  unfold settleThermal
  split
  · rfl
  · exact viewOf_report ..

@[simp] theorem viewOf_powerNotice (c : Reason) (w : Option WakeSource) (t : Option Byte) (o : Option Reason) :
    viewOf (powerNotice c w t o s) = viewOf s := viewOf_give ..

@[simp] theorem viewOf_relayLost (r : Reason) (fs : List RelayFrame) : viewOf (relayLost r fs s) = viewOf s := by
  induction fs generalizing s with
  | nil => rfl
  | cons f fs ih => simp [relayLost, ih]

@[simp] theorem viewOf_loseRelayQueue (r : Reason) : viewOf (loseRelayQueue r s) = viewOf s := viewOf_relayLost ..

@[simp] theorem viewOf_sleepRemote : viewOf (sleepRemote s) = viewOf s := by
  unfold sleepRemote sleepFocus
  split <;> simp

/-! ### Changer and show -/

@[simp] theorem viewOf_timerMoveDone : viewOf (timerMoveDone s) = viewOf s := by
  unfold timerMoveDone
  split <;> rfl

@[simp] theorem viewOf_stopTimer : viewOf (stopTimer s) = viewOf s := by
  unfold stopTimer
  split <;> rfl

@[simp] theorem viewOf_endLoop (r : Reason) (d : Option Reason) : viewOf (endLoop r d s) = viewOf s := by
  unfold endLoop
  split <;> simp

@[simp] theorem viewOf_clearSeekCue : viewOf (clearSeekCue s) = viewOf s := (rfl)

@[simp] theorem viewOf_chaseFailed (o : Option ChaseOwner) (d : Reason) : viewOf (chaseFailed o d s) = viewOf s := by
  unfold chaseFailed
  repeat' split
  all_goals simp

@[simp] theorem viewOf_reportShort (n : Int) (w : WalkEnd) : viewOf (reportShort n w s) = viewOf s := by
  unfold reportShort
  split <;> simp

@[simp] theorem viewOf_failEntries (r : Reason) (es : List MoveEntry) : viewOf (failEntries r es s) = viewOf s := by
  induction es generalizing s with
  | nil => rfl
  | cons e es ih => simp [failEntries, ih]

@[simp] theorem viewOf_clearQueue (r : Reason) : viewOf (clearQueue r s) = viewOf s := viewOf_failEntries ..

@[simp] theorem viewOf_reportFailure (r : Reason) (k : Nat) : viewOf (reportFailure r k s) = viewOf s := by
  unfold reportFailure
  split <;> simp

@[simp] theorem viewOf_toIdle : viewOf (toIdle s) = viewOf s := (rfl)
@[simp] theorem viewOf_toSettle : viewOf (toSettle s) = viewOf s := (rfl)
@[simp] theorem viewOf_toPaused : viewOf (toPaused s) = viewOf s := (rfl)
@[simp] theorem viewOf_driveMotor (d : Turn) : viewOf (driveMotor d s) = viewOf s := (rfl)
@[simp] theorem viewOf_setTarget (t : Option Nat) : viewOf (setTarget t s) = viewOf s := (rfl)
@[simp] theorem viewOf_redirect (f : Cycle → Cycle) : viewOf (redirect f s) = viewOf s := (rfl)
@[simp] theorem viewOf_disownAll : viewOf (disownAll s) = viewOf s := (rfl)

@[simp] theorem viewOf_doneStage : viewOf (doneStage s) = viewOf s := by
  unfold doneStage
  split <;> simp

@[simp] theorem viewOf_toDrop : viewOf (toDrop s) = viewOf s := by
  unfold toDrop
  dsimp only
  split <;> rfl

@[simp] theorem viewOf_rotateTo (p t : Nat) : viewOf (rotateTo p t s) = viewOf s := by
  unfold rotateTo
  repeat' split
  all_goals simp

@[simp] theorem viewOf_learn (pres : Presence) (shown : Bool) : viewOf (learn pres shown s) = viewOf s := by
  unfold learn
  repeat' split
  all_goals rfl

@[simp] theorem viewOf_countPulse (p : Nat) (d : Turn) (mark : Bool) : viewOf (countPulse p d mark s) = viewOf s := by
  unfold countPulse
  dsimp only
  split <;> simp

@[simp] theorem viewOf_rotationPulse : viewOf (rotationPulse s) = viewOf s := by
  unfold rotationPulse
  repeat' split
  all_goals simp

@[simp] theorem viewOf_mergeEntry (e : MoveEntry) (n : Int) (tags : List Byte) :
    viewOf (mergeEntry e n tags s) = viewOf s := by
  unfold mergeEntry
  dsimp only
  split <;> simp

@[simp] theorem viewOf_pauseCycle : viewOf (pauseCycle s) = viewOf s := by
  unfold pauseCycle
  repeat' split
  all_goals rfl

@[simp] theorem viewOf_settleTrayCode (c : Fin 4) : viewOf (settleTrayCode c s) = viewOf s := by
  unfold settleTrayCode
  split <;> simp

/-! ### Tape -/

@[simp] theorem viewOf_reportTape (c : Reason) (e : TapeEnds) : viewOf (reportTape c e s) = viewOf s := viewOf_report ..

@[simp] theorem viewOf_recordTapeRefusal (q : MotionReq) (r : Reason) : viewOf (recordTapeRefusal q r s) = viewOf s :=
  viewOf_offer ..

@[simp] theorem viewOf_leaveTape : viewOf (leaveTape s) = viewOf s := by
  unfold leaveTape exitPlaying
  split
  · simp
  · rfl
  · rfl

@[simp] theorem viewOf_stillIn (t : TapeState) : viewOf (stillIn t s) = viewOf s := (rfl)
@[simp] theorem viewOf_driveTape (t : TapeState) (d : CountDir) : viewOf (driveTape t d s) = viewOf s := (rfl)
@[simp] theorem viewOf_setPending (d : PendingDest) : viewOf (setPending d s) = viewOf s := (rfl)
@[simp] theorem viewOf_resync : viewOf (resync s) = viewOf s := (rfl)

@[simp] theorem viewOf_brakeTo (d : PendingDest) : viewOf (brakeTo d s) = viewOf s := by simp [brakeTo]

@[simp] theorem viewOf_leaderInRewind : viewOf (leaderInRewind s) = viewOf s := by
  unfold leaderInRewind
  split <;> simp

@[simp] theorem viewOf_enterRewinding (c : Reason) (e : TapeEnds) : viewOf (enterRewinding c e s) = viewOf s := by
  simp [enterRewinding]

@[simp] theorem viewOf_reportEnds (c : Reason) (e : TapeEnds) : viewOf (reportEnds c e s) = viewOf s := by
  unfold reportEnds
  split <;> simp

@[simp] theorem viewOf_enterShow (q : MotionReq) (src : MotionSource) (e : TapeEnds) :
    viewOf (enterShow q src e s) = viewOf s := by
  unfold enterShow
  split <;> simp

@[simp] theorem viewOf_handMotion (q : MotionReq) (src : MotionSource) (b : Bool) :
    viewOf (handMotion q src b s) = viewOf s := by
  unfold handMotion
  cases src <;> dsimp only <;> repeat' split
  all_goals simp

@[simp] theorem viewOf_endSeek (o r : Reason) : viewOf (endSeek o r s) = viewOf s := by
  unfold endSeek
  split <;> simp

@[simp] theorem viewOf_rewindUndone : viewOf (rewindUndone s).2 = viewOf s := by
  unfold rewindUndone
  split <;> simp

@[simp] theorem viewOf_decideRestart : viewOf (decideRestart s) = viewOf s := by
  unfold decideRestart
  repeat' split
  all_goals simp

@[simp] theorem viewOf_startTimer (p : Nat) : viewOf (startTimer p s) = viewOf s := by
  unfold startTimer
  dsimp only
  repeat' split
  all_goals rfl

@[simp] theorem viewOf_startTimerAction (p : Nat) : viewOf (startTimerAction p s) = viewOf s := by
  unfold startTimerAction
  split <;> simp

@[simp] theorem viewOf_holdTimer : viewOf (holdTimer s) = viewOf s := by
  unfold holdTimer
  split <;> rfl

@[simp] theorem viewOf_playingHanded (src : MotionSource) : viewOf (playingHanded src s) = viewOf s := by
  unfold playingHanded playFromZero
  dsimp only
  repeat' split
  all_goals rfl

@[simp] theorem viewOf_seekStops : viewOf (seekStops s) = viewOf s := by
  unfold seekStops stopSeek
  repeat' split
  all_goals simp

/-! ### Cues, relay, decoder -/

@[simp] theorem viewOf_reportCue (k : CueKind) (i : Nat) (o : Origin) (r : Option Nat) :
    viewOf (reportCue k i o r s) = viewOf s := by
  unfold reportCue
  dsimp only
  split <;> simp

@[simp] theorem viewOf_offerRelay (f : RelayFrame) : viewOf (offerRelay f s) = viewOf s := by
  unfold offerRelay
  repeat' split
  all_goals simp

@[simp] theorem viewOf_slipTest (i : Nat) (o : Origin) (r : Option Nat) : viewOf (slipTest i o r s) = viewOf s := by
  unfold slipTest
  dsimp only
  split <;> simp

@[simp] theorem viewOf_burstFrame : viewOf (burstFrame s) = viewOf s := by
  unfold burstFrame
  dsimp only
  split <;> simp

@[simp] theorem viewOf_gapFrame (n : Nat) : viewOf (gapFrame n s) = viewOf s := by
  unfold gapFrame
  split <;> simp

@[simp] theorem viewOf_dropRelay (r : Reason) : viewOf (dropRelay r s) = viewOf s := viewOf_offer ..

@[simp] theorem viewOf_lineSlip (i : Nat) : viewOf (lineSlip i s) = viewOf s := by
  unfold lineSlip
  dsimp only
  split <;> simp

@[simp] theorem viewOf_relayConflict : viewOf (relayConflict s) = viewOf s := by simp [relayConflict]

@[simp] theorem viewOf_relayTimingError : viewOf (relayTimingError s) = viewOf s := by
  unfold relayTimingError
  split <;> simp

@[simp] theorem viewOf_relayStartPulse : viewOf (relayStartPulse s) = viewOf s := by
  unfold relayStartPulse
  repeat' split
  all_goals simp

@[simp] theorem viewOf_conflictExpires : viewOf (conflictExpires s) = viewOf s := by
  unfold conflictExpires
  split <;> simp

@[simp] theorem viewOf_relayFrameEnds : viewOf (relayFrameEnds s) = viewOf s := by
  unfold relayFrameEnds
  split <;> rfl

@[simp] theorem viewOf_relayGapEnds : viewOf (relayGapEnds s) = viewOf s := by
  unfold relayGapEnds
  split <;> rfl

/-! ### Remotes -/

@[simp] theorem viewOf_setHeld (r : Remote) (k : Option Held) : viewOf (setHeld r k s) = viewOf s := by cases r <;> rfl

@[simp] theorem viewOf_markHeld (r : Remote) (f : Held → Held) : viewOf (markHeld r f s) = viewOf s := viewOf_setHeld ..

@[simp] theorem viewOf_ignoreKey (k : Key) (r : Remote) (x : Reason) : viewOf (ignoreKey k r x s) = viewOf s :=
  viewOf_offer ..

@[simp] theorem viewOf_discardEntry : viewOf (discardEntry s) = viewOf s := (rfl)

@[simp] theorem viewOf_refuseEntry (v : Nat) (r : Reason) : viewOf (refuseEntry v r s) = viewOf s := viewOf_report ..

@[simp] theorem viewOf_focusPress (r : Remote) (d : FocusDir) : viewOf (focusPress r d s) = viewOf s := by
  unfold focusPress takeOverNudge
  dsimp only
  split <;> split <;> simp

@[simp] theorem viewOf_focusRelease (r : Remote) : viewOf (focusRelease r s) = viewOf s := by
  unfold focusRelease
  repeat' split
  all_goals rfl

@[simp] theorem viewOf_focusSpeeds : viewOf (focusSpeeds s) = viewOf s := by
  unfold focusSpeeds
  split <;> rfl

@[simp] theorem viewOf_limitStops (d : FocusDir) : viewOf (limitStops d s) = viewOf s := by
  unfold limitStops
  repeat' split
  all_goals simp

@[simp] theorem viewOf_limitChanges (d : FocusDir) (b : Bool) : viewOf (limitChanges d b s) = viewOf s := by
  unfold limitChanges
  cases d <;> dsimp only <;> split <;> simp

@[simp] theorem viewOf_nudgeCompletes : viewOf (nudgeCompletes s) = viewOf s := by
  unfold nudgeCompletes
  split <;> simp

@[simp] theorem viewOf_startNudge (c n : Nat) (t : Byte) : viewOf (startNudge c n t s).2 = viewOf s := by
  unfold startNudge
  repeat' split
  all_goals simp

@[simp] theorem viewOf_digitPress (r : Remote) (d : Fin 10) : viewOf (digitPress r d s) = viewOf s := by
  unfold digitPress
  repeat' split
  all_goals simp

@[simp] theorem viewOf_irError (b : Bool) : viewOf (irError b s) = viewOf s := by
  unfold irError
  split <;> rfl

@[simp] theorem viewOf_irLeads : viewOf (irLeads s) = viewOf s := by
  unfold irLeads
  split <;> rfl

/-! ### Power, requests, resets -/

@[simp] theorem viewOf_supersedeSleep : viewOf (supersedeSleep s) = viewOf s := by
  unfold supersedeSleep
  split <;> simp

@[simp] theorem viewOf_keyPending : viewOf (keyPending s) = viewOf s := by
  unfold keyPending
  split <;> rfl

@[simp] theorem viewOf_programStandby : viewOf (programStandby s) = viewOf s := by simp [programStandby]

@[simp] theorem viewOf_readAmbient (r : Option Int) : viewOf (readAmbient r s) = viewOf s := by
  unfold readAmbient
  split <;> simp

@[simp] theorem viewOf_writeShowLoop (b : Bool) : viewOf (writeShowLoop b s) = viewOf s := by
  unfold writeShowLoop
  dsimp only
  split <;> simp

@[simp] theorem viewOf_softProgram (b : Bool) : viewOf (softProgram b s) = viewOf s := (rfl)
@[simp] theorem viewOf_softChanger : viewOf (softChanger s) = viewOf s := (rfl)

@[simp] theorem viewOf_softTransport : viewOf (softTransport s) = viewOf s := by
  unfold softTransport
  dsimp only
  repeat' split
  all_goals rfl

@[simp] theorem viewOf_rejectFrame (k t : Byte) (r : Reason) : viewOf (rejectFrame k t r s) = viewOf s := by
  simp [rejectFrame]

@[simp] theorem viewOf_overrunFrame : viewOf (overrunFrame s) = viewOf s := (rfl)
@[simp] theorem viewOf_hunt : viewOf (hunt s) = viewOf s := (rfl)

@[simp] theorem viewOf_pump (l : Link) (h : l.faults = s.link.faults) :
    viewOf { s with link := pump l } = viewOf s := by
  obtain ⟨-, -, -, -, kept, -⟩ := pump_keeps l
  simp [kept, h]

@[simp] theorem viewOf_tick : viewOf (tick s) = viewOf s := (rfl)

end Sys2Proof.Machine
end

section
/-! ## The laws of lamp and heat, part by part

Inside a step the parts of `thermalLaw` do not hold together: a raised OVERTEMP changes what the ceiling should be before
the ceiling is computed. So each part is followed on its own (`View.Right`), and an operation `Agrees` when every part that
was right stays right. -/

namespace Sys2Proof.Machine

/-- The parts of the agreement of lamp and heat: the drive level, the ceiling, the zone, the strike permission, the fan level, and
the two heat faults with the trip latch and with the cut-out line (R46, R70, R72 to R75). -/
inductive Part where
  | drive | ceiling | zone | permission | fan | latch | line
  deriving DecidableEq

namespace View

variable (v : View)

/-- D as the lamp state, R and the ceiling give it (R46). -/
def driveLevel : Nat :=
  match v.state with
  | .preheat | .lit => min v.ramp v.ceiling
  | .off | .swapping | .failed => 0

/-- The ceiling as H and the faults give it (R72). -/
def ceilingLevel : Nat :=
  let c := heatCeiling v.estimate (v.overtemp || v.tco)
  if v.stall then min c 400 else c

/-- The fan level, the first row of R70 that holds. -/
def fanLevel : FanLevel :=
  if v.power = .sleep then .off
  else if v.cooling || v.overtemp || v.tco then .high
  else if 0 < v.drive then floorLevel v.floor
  else .off

/-- A part of the agreement holds. -/
def Right : Part → Prop
  | .drive => v.drive = v.driveLevel
  | .ceiling => v.ceiling = v.ceilingLevel
  | .zone => v.zone = zoneOf v.estimate
  | .permission => v.allowed = (decide (v.estimate ≤ 17920) && !v.tco)
  | .fan => v.fan = v.fanLevel
  | .latch => v.overtemp = v.latch
  | .line => v.tco = v.line

/-- The record of a lamp position (R47). -/
def record : LampPos → LampCond
  | .a => v.recA
  | .b => v.recB

/-- `lampLaw`, of a view: no lamp burns, or is swapped in, in a position whose record is FAILED. -/
def LampLaw : Prop :=
  (v.state = .preheat ∨ v.state = .lit → v.record v.active ≠ .failed)
    ∧ (v.state = .swapping → ∀ p, v.swapTo = some p → v.record p ≠ .failed)

/-- The lamp state, the two records, the active position and the position being swapped in. -/
def lampPart : LampState × LampCond × LampCond × LampPos × Option LampPos :=
  (v.state, v.recA, v.recB, v.active, v.swapTo)

end View

/-- `thermalLaw` is its seven parts. -/
theorem thermalLaw_iff (s : State) : thermalLaw s ↔ ∀ p, (viewOf s).Right p := by
  constructor
  · rintro ⟨hd, hc, hz, ha, hf, hl, hi⟩ p
    cases p
    · exact hd
    · exact hc
    · exact hz
    · exact ha
    · exact hf
    · exact hl
    · exact hi
  · exact fun h => ⟨h .drive, h .ceiling, h .zone, h .permission, h .fan, h .latch, h .line⟩

theorem record_viewOf (s : State) (p : LampPos) : (viewOf s).record p = lampRec s.lamp p := by cases p <;> rfl

theorem lampLaw_iff (s : State) : lampLaw s ↔ (viewOf s).LampLaw := by
  unfold lampLaw View.LampLaw
  simp only [record_viewOf]
  refine and_congr Iff.rfl (imp_congr Iff.rfl ?_)
  simp only [viewOf, Option.map_eq_some_iff, forall_exists_index, and_imp, forall_apply_eq_imp_iff₂]

/-- The law of the lamp reads the lamp's part alone. -/
theorem View.LampLaw.of_lampPart {v w : View} (h : v.LampLaw) (e : w.lampPart = v.lampPart) : w.LampLaw := by
  obtain ⟨state, recA, recB, active, swapTo⟩ := w
  simp only [View.lampPart, Prod.mk.injEq] at e
  obtain ⟨rfl, rfl, rfl, rfl, rfl⟩ := e
  exact h

/-! ### Operations that agree -/

/-- What is followed of the lamp's part: that it stands still, or only that its law is kept. -/
inductive Watch where
  | still | law

/-- The lamp's part as followed from `v` to `w`. -/
def Watch.Holds (v w : View) : Watch → Prop
  | .still => w.lampPart = v.lampPart
  | .law => v.LampLaw → w.LampLaw

/-- Every part that is right in `v` is right in `w`. -/
def PartsKept (v w : View) : Prop := ∀ p, v.Right p → w.Right p

/-- From `v` to `w` every part that was right is right, and the lamp's part does as watched. -/
structure Agrees (m : Watch) (v w : View) : Prop where
  lamp : m.Holds v w
  parts : PartsKept v w

variable {m : Watch} {v w : View} {s t : State}

/-- A lamp's part that stands still does as watched. -/
theorem Watch.Holds.still {u : View} (h : m.Holds v w) (e : u.lampPart = w.lampPart) : m.Holds v u := by
  cases m with
  | still => exact e.trans h
  | law => exact fun l => (h l).of_lampPart e

theorem Agrees.refl (v : View) : Agrees m v v where
  lamp := match m with
    | .still => rfl
    | .law => id
  parts _ := id

/-! ### Fan, drive level, cooldown -/

/-- The fan evaluated afresh after a change of what it reads of the Heat Monitor (R70). -/
theorem evalFan_agrees (h : Agrees m v (viewOf s))
    (ht : viewOf t = { viewOf s with
      power := t.heat.power, cooling := t.heat.cooling, floor := t.heat.floor, fan := t.heat.fan }) :
    Agrees m v (viewOf (evalFan t)) := by
  have view : viewOf (evalFan t) = { viewOf t with fan := (viewOf t).fanLevel } := rfl
  rw [view, ht]
  refine ⟨h.lamp.still rfl, fun p hp => ?_⟩
  cases p with
  | fan => rfl
  | _ => exact h.parts _ hp

@[simp] theorem startCooldown_agrees (h : Agrees m v (viewOf s)) : Agrees m v (viewOf (startCooldown s)) :=
  evalFan_agrees h rfl

@[simp] theorem endCooldown_agrees (h : Agrees m v (viewOf s)) : Agrees m v (viewOf (endCooldown s)) :=
  evalFan_agrees h rfl

/-- A recomputation of D sets D, and of what the laws read at most the cooldown and the fan with it; a right fan stays
right (R46, R70, R77). -/
theorem viewOf_recomputeD (s : State) : ∃ c f,
    viewOf (recomputeD s) = { viewOf s with drive := (viewOf s).driveLevel, cooling := c, fan := f }
      ∧ ((viewOf s).Right .fan → (viewOf (recomputeD s)).Right .fan) := by
  have level : driveOf s.lamp s.heat.ceiling = (viewOf s).driveLevel := rfl
  unfold recomputeD
  simp only [level]
  split
  · next hd => exact ⟨true, _, by rw [← hd.2]; rfl, fun _ => rfl⟩
  · split
    · exact ⟨_, _, rfl, fun _ => rfl⟩
    · next hfall hrise =>
      refine ⟨s.heat.cooling, s.heat.fan, rfl, fun hf => ?_⟩
      have same : (0 < (viewOf s).driveLevel) ↔ 0 < s.lamp.drive := by omega
      have fan : s.heat.fan = (viewOf s).fanLevel := hf
      change s.heat.fan = _
      rw [fan]
      unfold View.fanLevel
      simp only [viewOf_mk, same]
      rfl

/-- D recomputed after a change of the lamp (R46). -/
theorem recomputeD_parts (h : PartsKept v (viewOf s))
    (ht : viewOf t = { viewOf s with
      state := t.lamp.state, recA := t.lamp.recA, recB := t.lamp.recB, active := t.lamp.active
      swapTo := t.lamp.swap.map Swap.newPos, ramp := t.lamp.ramp }) :
    PartsKept v (viewOf (recomputeD t)) := by
  obtain ⟨c, f, view, fan⟩ := viewOf_recomputeD t
  intro p hp
  have right := h p hp
  cases p with
  | drive => rw [view]; rfl
  | fan => exact fan (by rw [ht]; exact right)
  | _ => rw [view, ht]; exact right

theorem recomputeD_lampPart (s : State) : (viewOf (recomputeD s)).lampPart = (viewOf s).lampPart := by
  obtain ⟨c, f, view, -⟩ := viewOf_recomputeD s
  rw [view]
  rfl

/-- D recomputed after a change of the lamp that does as watched. -/
theorem recomputeD_agrees (h : PartsKept v (viewOf s))
    (ht : viewOf t = { viewOf s with
      state := t.lamp.state, recA := t.lamp.recA, recB := t.lamp.recB, active := t.lamp.active
      swapTo := t.lamp.swap.map Swap.newPos, ramp := t.lamp.ramp })
    (hl : m.Holds v (viewOf t)) : Agrees m v (viewOf (recomputeD t)) :=
  ⟨hl.still (recomputeD_lampPart t), recomputeD_parts h ht⟩

/-! ### Power -/

@[simp] theorem enterSleep_agrees (tag : Option Byte) (h : Agrees m v (viewOf s)) :
    Agrees m v (viewOf (enterSleep tag s)) := by
  have slept : Agrees m v (viewOf (evalFan { s with
      heat.power := .sleep, heat.sleepPending := .clear, heat.updateTimer := none, decoder.relayIn := .idle })) :=
    evalFan_agrees h rfl
  simpa [enterSleep] using slept

@[simp] theorem sleepTest_agrees (h : Agrees m v (viewOf s)) : Agrees m v (viewOf (sleepTest s)) := by
  unfold sleepTest
  split
  · exact h
  · split
    · exact enterSleep_agrees _ h
    · exact h

@[simp] theorem wake_agrees (src : WakeSource) (h : Agrees m v (viewOf s)) : Agrees m v (viewOf (wake src s)) := by
  unfold wake
  split
  · rw [viewOf_powerNotice]
    exact evalFan_agrees h rfl
  · exact h

end Sys2Proof.Machine
end

section
/-! ## Lamp Drive and Changer agree -/

namespace Sys2Proof.Machine

variable {m : Watch} {v : View} {s : State}

/-! ### The fade engine -/

@[simp] theorem startFade_agrees (k : FadeKind) (b n : Nat) (h : Agrees m v (viewOf s)) :
    Agrees m v (viewOf (startFade k b n s)) := by
  unfold startFade
  split
  · exact recomputeD_agrees h.parts rfl (h.lamp.still rfl)
  · exact h

@[simp] theorem viewOf_setResume (lv : Level) (s : State) (a b : Nat) :
    viewOf { s with lamp := setResume lv { s.lamp with show_ := a, preset := b } } = viewOf s := by
  simp [setResume, Function.comp_def]

@[simp] theorem viewOf_setResume_waiting (lv : Level) (s : State) (b : Bool) :
    viewOf { s with lamp := setResume lv { s.lamp with darkWaiting := b } } = viewOf s := by
  simp [setResume, Function.comp_def]

@[simp] theorem viewOf_cancelRestrike (s : State) : viewOf (cancelRestrike s) = viewOf s := by
  simp [cancelRestrike, Function.comp_def]

@[simp] theorem takeFade_agrees (level n : Nat) (h : Agrees m v (viewOf s)) : Agrees m v (viewOf (takeFade level n s)) := by
  unfold takeFade
  split
  · split
    · exact h
    · split
      · exact h
      · exact startFade_agrees _ _ _ h
  · split <;> exact h
  · exact h
  · exact h
  · rw [viewOf_setResume]
    exact h

@[simp] theorem darkRequest_agrees (h : Agrees m v (viewOf s)) : Agrees m v (viewOf (darkRequest s).2) := by
  unfold darkRequest
  split
  · exact h
  · exact h
  · exact h
  · exact recomputeD_agrees h.parts rfl (h.lamp.still rfl)
  · dsimp only
    split
    · exact h
    · exact startFade_agrees _ _ _ h

@[simp] theorem lightRequest_agrees (h : Agrees m v (viewOf s)) : Agrees m v (viewOf (lightRequest s)) := by
  unfold lightRequest
  dsimp only
  split
  · exact h
  · exact h
  · exact recomputeD_agrees h.parts rfl (h.lamp.still rfl)
  · split
    · exact h
    · exact startFade_agrees _ _ _ h
  · rw [viewOf_setResume_waiting]
    exact h

@[simp] theorem programLight_agrees (h : Agrees m v (viewOf s)) : Agrees m v (viewOf (programLight s)) := by
  unfold programLight
  split <;> simp [h]

@[simp] theorem lampEndFade_agrees (h : Agrees m v (viewOf s)) : Agrees m v (viewOf (lampEndFade s)) := by
  unfold lampEndFade
  repeat' split
  all_goals simp [h, setResume, Function.comp_def]

/-! ### Stages of the cycle -/

@[simp] theorem failMove_agrees (r : Reason) (h : Agrees m v (viewOf s)) : Agrees m v (viewOf (failMove r s)) := by
  simp [failMove, h]

theorem changerFails_agrees {f : FaultKind} (r : Reason) (hf : isChangerFault f = true) (h : Agrees m v (viewOf s)) :
    Agrees m v (viewOf (changerFails f r s)) := by
  unfold changerFails
  cases f <;> simp [isChangerFault] at hf <;> simp [h]

@[simp] theorem lightStage_agrees (h : Agrees m v (viewOf s)) : Agrees m v (viewOf (lightStage s)) := by
  unfold lightStage
  dsimp only
  repeat' split
  all_goals simp [h]

@[simp] theorem finishAborted_agrees (h : Agrees m v (viewOf s)) : Agrees m v (viewOf (finishAborted s)) := by
  simp [finishAborted, h]

@[simp] theorem searchFound_agrees (h : Agrees m v (viewOf s)) : Agrees m v (viewOf (searchFound s)) := by
  unfold searchFound
  dsimp only
  repeat' split
  all_goals simp [h]

@[simp] theorem toRotate_agrees (h : Agrees m v (viewOf s)) : Agrees m v (viewOf (toRotate s)) := by
  unfold toRotate
  repeat' split
  all_goals simp [h]

@[simp] theorem toLift_agrees (h : Agrees m v (viewOf s)) : Agrees m v (viewOf (toLift s)) := by
  unfold toLift
  split <;> simp [h]

@[simp] theorem toDark_agrees (mode : ChangeMode) (h : Agrees m v (viewOf s)) : Agrees m v (viewOf (toDark mode s)) := by
  unfold toDark
  dsimp only
  repeat' split
  all_goals simp [h]

theorem viewOf_targetOf {mv : Move} {t : Option Nat} {u : State} (h : targetOf mv s = .inr (t, u)) :
    viewOf u = viewOf s := by
  unfold targetOf at h
  split at h
  · split at h <;> cases h
    rfl
  · split at h
    · cases h
    · split at h <;> cases h <;> simp

@[simp] theorem runEntry_agrees (e : MoveEntry) (h : Agrees m v (viewOf s)) : Agrees m v (viewOf (runEntry e s)) := by
  unfold runEntry
  dsimp only
  split
  · simp [h]
  · next ht =>
    refine toDark_agrees _ ?_
    rw [viewOf_setTarget, viewOf_targetOf ht]
    exact h

@[simp] theorem startCycles_agrees (es : List MoveEntry) (h : Agrees m v (viewOf s)) :
    Agrees m v (viewOf (startCycles es s)) := by
  induction es generalizing s with
  | nil => exact h
  | cons e rest ih =>
    have run : Agrees m v (viewOf (runEntry e { s with changer.queue := rest })) := runEntry_agrees e h
    unfold startCycles
    dsimp only
    split
    · exact ih run
    · exact run

@[simp] theorem startReady_agrees (h : Agrees m v (viewOf s)) : Agrees m v (viewOf (startReady s)) := by
  unfold startReady
  split <;> simp [h]

@[simp] theorem darkReached_agrees (h : Agrees m v (viewOf s)) : Agrees m v (viewOf (darkReached s)) := by
  unfold darkReached
  dsimp only
  repeat' split
  all_goals simp [h]

@[simp] theorem darkTest_agrees (h : Agrees m v (viewOf s)) : Agrees m v (viewOf (darkTest s)) := by
  unfold darkTest
  split <;> simp [h]

theorem withDarkTest_agrees {f : State → State} (h : Agrees m v (viewOf (f s))) :
    Agrees m v (viewOf (withDarkTest f s)) := by
  unfold withDarkTest
  split <;> simp [h]

/-! ### Strikes, swaps, lamp off -/

/-- A dark lamp is lawful. -/
theorem View.LampLaw.of_dark {w : View} (h : w.state = .off ∨ w.state = .failed) : w.LampLaw := by
  rcases h with h | h <;> simp [View.LampLaw, h]

theorem lampDark_agrees {st : LampState} (hst : st = .off ∨ st = .failed) (h : PartsKept v (viewOf s)) :
    Agrees .law v (viewOf (lampDark st s)) :=
  recomputeD_agrees h rfl fun _ => .of_dark hst

@[simp] theorem lampGoesOff_agrees (c : Reason) (h : Agrees .law v (viewOf s)) :
    Agrees .law v (viewOf (lampGoesOff c s)) := by
  refine sleepTest_agrees ?_
  rw [viewOf_reportLamp]
  exact lampDark_agrees (.inl rfl) h.parts

/-- The lamp at the entry to PREHEAT, D recomputed, before the cooldown ends (R49). -/
def preheated (dest : Level) (b : Bool) (s : State) : State :=
  recomputeD { s with
    lamp.state := .preheat, lamp.ramp := preheatDrive s, lamp.fade := none, lamp.swap := none,
    lamp.dest := if claimStands s then .keepWarm else dest, lamp.destRamp := .strikeRamp,
    lamp.restriking := b, lamp.window := some 0 }

theorem enterPreheat_eq (c : Reason) (dest : Level) (b : Bool) (s : State) :
    enterPreheat c dest b s = reportLamp c
      (if (preheated dest b s).heat.cooling then endCooldown (preheated dest b s) else preheated dest b s) := rfl

/-- PREHEAT is entered in a position whose record is not FAILED. -/
theorem enterPreheat_agrees (c : Reason) (dest : Level) (b : Bool) (hr : v.LampLaw → lampRec s.lamp s.lamp.active ≠ .failed)
    (h : PartsKept v (viewOf s)) : Agrees .law v (viewOf (enterPreheat c dest b s)) := by
  have heated : Agrees .law v (viewOf (preheated dest b s)) :=
    recomputeD_agrees h rfl fun l => ⟨fun _ => record_viewOf s _ ▸ hr l, nofun⟩
  rw [enterPreheat_eq, viewOf_reportLamp]
  split
  · exact endCooldown_agrees heated
  · exact heated

/-- A swap starts toward a position whose record is not FAILED. -/
theorem startSwap_agrees (c : Reason) (w : Swap) (hr : lampRec s.lamp w.newPos ≠ .failed)
    (h : PartsKept v (viewOf s)) : Agrees .law v (viewOf (startSwap c w s)) := by
  unfold startSwap
  rw [viewOf_reportLamp]
  refine recomputeD_agrees h rfl fun _ => ⟨by simp, fun _ p hp => ?_⟩
  cases Option.some.inj hp
  exact record_viewOf s _ ▸ hr

/-- A strike that is not refused finds a lamp to strike (R48). -/
theorem other_of_strikeRefusal (h : strikeRefusal s = none) (hs : ¬ (s.lamp.state = .preheat ∨ s.lamp.state = .lit))
    (ha : lampRec s.lamp s.lamp.active = .failed) : lampRec s.lamp (otherPos s.lamp.active) ≠ .failed := by
  intro ho
  unfold strikeRefusal at h
  simp only [ha, ho, hs, if_false, true_or, and_self, if_true] at h
  repeat' split at h
  all_goals cases h

@[simp] theorem strike_agrees (c : Reason) (h : Agrees .law v (viewOf s)) : Agrees .law v (viewOf (strike c s).2) := by
  unfold strike
  split
  · exact h
  · next hr =>
    unfold makeStrike
    split
    · exact h
    · next hs =>
      dsimp only
      split
      · next ha => exact startSwap_agrees _ _ (other_of_strikeRefusal hr hs ha) h.parts
      · next ha => exact enterPreheat_agrees _ _ _ (fun _ => ha) h.parts

@[simp] theorem strikeUnanswered_agrees (c : Reason) (h : Agrees .law v (viewOf s)) :
    Agrees .law v (viewOf (strikeUnanswered c s)) := by
  have hs := strike_agrees c h
  unfold strikeUnanswered
  split <;> simp_all

@[simp] theorem takeCueFade_agrees (level n : Nat) (h : Agrees .law v (viewOf s)) :
    Agrees .law v (viewOf (takeCueFade level n s)) := by
  unfold takeCueFade
  dsimp only
  repeat' split
  all_goals simp [h]

@[simp] theorem lampOffNow_agrees (c : Reason) (h : Agrees .law v (viewOf s)) :
    Agrees .law v (viewOf (lampOffNow c s)) := by
  unfold lampOffNow
  split <;> simp [h]

@[simp] theorem powerDownLamp_agrees (h : Agrees .law v (viewOf s)) : Agrees .law v (viewOf (powerDownLamp s)) := by
  unfold powerDownLamp
  repeat' split
  all_goals simp [h]

@[simp] theorem fadeAdvance_agrees (h : Agrees .law v (viewOf s)) : Agrees .law v (viewOf (fadeAdvance s)) := by
  unfold fadeAdvance
  split
  · split
    · exact recomputeD_agrees h.parts rfl (h.lamp.still rfl)
    · split
      · exact lampGoesOff_agrees _ h
      · exact recomputeD_agrees h.parts rfl (h.lamp.still rfl)
  · exact h

/-- A lamp in PREHEAT lights with D and the records as they are. -/
@[simp] theorem lampLights_agrees (h : Agrees .law v (viewOf s)) : Agrees .law v (viewOf (lampLights s)) := by
  unfold lampLights
  split
  · next hp =>
    rw [viewOf_reportLamp]
    refine startFade_agrees _ _ _ ⟨fun l => ?_, fun p hv => ?_⟩
    · exact ⟨fun _ => (h.lamp l).1 (.inl hp), nofun⟩
    · have right := h.parts p hv
      cases p with
      | drive =>
        have level : (viewOf s).driveLevel = min s.lamp.ramp s.heat.ceiling := by simp [View.driveLevel, viewOf, hp]
        exact Eq.trans right level
      | _ => exact right
  · exact h

/-- The lamp taken into the light position by a swap. -/
theorem restrikeLamp_agrees (lv : Level) (hr : v.LampLaw → lampRec s.lamp s.lamp.active ≠ .failed)
    (h : Agrees .law v (viewOf s)) : Agrees .law v (viewOf (restrikeLamp lv s)) := by
  unfold restrikeLamp
  split
  · simp [h]
  · split
    · simp [h]
    · exact enterPreheat_agrees _ _ _ hr h.parts

theorem report_lamp (n : Notice) (b : TraceBody) (s : State) : (report n b s).lamp = s.lamp := by
  obtain ⟨l, t, h, -⟩ := report_spec n b s
  rw [h]

/-- The end of a swap moves the light to a position whose record is not FAILED (R60, R61). -/
@[simp] theorem swapEnds_agrees (h : Agrees .law v (viewOf s)) : Agrees .law v (viewOf (swapEnds s)) := by
  unfold swapEnds
  split
  · next w hs hw =>
    have moved : Agrees .law v (viewOf { s with lamp.active := w.newPos, lamp.swap := none, lamp.window := none }) :=
      ⟨fun _ => ⟨by simp [hs], nofun⟩, fun p hp => by have right := h.parts p hp; cases p <;> exact right⟩
    have sound : v.LampLaw → lampRec s.lamp w.newPos ≠ .failed := fun l =>
      record_viewOf s _ ▸ (h.lamp l).2 hs _ (by simp [viewOf, hw])
    dsimp only
    split
    · exact restrikeLamp_agrees _ (fun l => by rw [report_lamp]; exact sound l) (by simpa using moved)
    · split
      · exact sleepTest_agrees (by simpa using lampDark_agrees (.inr rfl) (by simpa using moved.parts))
      · exact lampGoesOff_agrees _ (by simpa using moved)
  · exact h

@[simp] theorem leaveFailed_agrees (h : Agrees .law v (viewOf s)) : Agrees .law v (viewOf (leaveFailed s)) := by
  unfold leaveFailed
  split
  · exact sleepTest_agrees (by simpa using lampDark_agrees (.inl rfl) h.parts)
  · exact h

/-! ### Records and the filament -/

/-- A record set GOOD fails no lamp (R47, R58). -/
theorem setLampRec_good_agrees (p : LampPos) (h : Agrees .law v (viewOf s)) :
    Agrees .law v (viewOf { s with lamp := setLampRec p .good s.lamp }) := by
  have sound : ∀ q, (viewOf s).record q ≠ .failed →
      (viewOf { s with lamp := setLampRec p .good s.lamp }).record q ≠ .failed := fun q hq => by
    cases p <;> cases q
    · nofun
    · exact hq
    · exact hq
    · nofun
  refine ⟨fun l => ?_, fun q hq => ?_⟩
  · obtain ⟨burns, swaps⟩ := h.lamp l
    cases p <;> exact ⟨fun g => sound _ (burns g), fun g q hq => sound q (swaps g q hq)⟩
  · have right := h.parts q hq
    cases p <;> cases q <;> exact right

/-- The state of an open filament: the active record FAILED and D recomputed with the fade gone, before the dark test (R59). -/
def filamentFailed (s : State) : State :=
  recomputeD { s with lamp := { setLampRec s.lamp.active .failed s.lamp with fade := none, ramp := 0 } }

theorem openFilament_eq (s : State) : openFilament s =
    if s.items.lampAutoChange ∧ lampRec s.lamp (otherPos s.lamp.active) ≠ .failed ∧ s.heat.power = .active
        ∧ ¬ powerDownRuns s.lamp ∧ ¬ s.lamp.restriking then
      startSwap .opened
        { newPos := otherPos s.lamp.active, auto := true, tag := none, restrike := true, resume := resumeLevel s.lamp }
        (darkTest (filamentFailed s))
    else
      sleepTest (raiseFault .lampOpen (some s.lamp.active)
        (reportLamp .opened (lampDark .failed (darkTest (filamentFailed s))))) := rfl

theorem filamentFailed_parts (h : PartsKept v (viewOf s)) : PartsKept v (viewOf (filamentFailed s)) := by
  refine recomputeD_parts h ?_
  cases hp : s.lamp.active <;> simp only [viewOf, setLampRec]

/-- The other position's record stands while the filament fails. -/
theorem filamentFailed_other (s : State) :
    lampRec (darkTest (filamentFailed s)).lamp (otherPos s.lamp.active) = lampRec s.lamp (otherPos s.lamp.active) := by
  have still : Agrees .still (viewOf (filamentFailed s)) (viewOf (darkTest (filamentFailed s))) :=
    darkTest_agrees (.refl _)
  have part := still.lamp.trans (recomputeD_lampPart _)
  simp only [View.lampPart, Prod.mk.injEq] at part
  obtain ⟨-, ha, hb, -⟩ := part
  cases hp : s.lamp.active with
  | a => exact hb.trans (show (setLampRec s.lamp.active .failed s.lamp).recB = s.lamp.recB by rw [hp]; rfl)
  | b => exact ha.trans (show (setLampRec s.lamp.active .failed s.lamp).recA = s.lamp.recA by rw [hp]; rfl)

/-- An open filament leaves its lamp for the other one, or dark (R59). -/
theorem openFilament_agrees (h : Agrees .law v (viewOf s)) : Agrees .law v (viewOf (openFilament s)) := by
  have parts : PartsKept v (viewOf (darkTest (filamentFailed s))) := fun p hp =>
    (darkTest_agrees (m := .still) (.refl _)).parts p (filamentFailed_parts h.parts p hp)
  rw [openFilament_eq]
  split
  · next hs => exact startSwap_agrees _ _ (filamentFailed_other s ▸ hs.2.1) parts
  · exact sleepTest_agrees (by simpa using lampDark_agrees (.inr rfl) parts)

@[simp] theorem filamentSample_agrees (b : Bool) (h : Agrees .law v (viewOf s)) :
    Agrees .law v (viewOf (filamentSample b s)) := by
  unfold filamentSample
  split
  · split
    · dsimp only
      split
      · exact setLampRec_good_agrees (s := { s with lamp.openCount := 0 }) _ h
      · exact h
    · split
      · exact h
      · exact openFilament_agrees h
  · exact h

@[simp] theorem fadeStepEvent_agrees (b : Bool) (h : Agrees .law v (viewOf s)) :
    Agrees .law v (viewOf (fadeStepEvent b s)) :=
  filamentSample_agrees b (darkTest_agrees (fadeAdvance_agrees h))

end Sys2Proof.Machine
end

section
/-! ## Tape, moves, cues and remotes agree -/

namespace Sys2Proof.Machine

variable {m : Watch} {v : View} {s : State}

/-! ### Moves -/

@[simp] theorem offerMove_agrees (e : MoveEntry) (h : Agrees m v (viewOf s)) :
    Agrees m v (viewOf (offerMove e s).2) := by
  unfold offerMove
  repeat' split
  all_goals simp [h]

@[simp] theorem offerKeyMove_agrees (k : Key) (r : Remote) (mv : Move) (h : Agrees m v (viewOf s)) :
    Agrees m v (viewOf (offerKeyMove k r mv s)) := by
  have ho := offerMove_agrees (plainMove .remote mv) h
  unfold offerKeyMove
  split <;> simp_all

@[simp] theorem offerCueMove_agrees (i : Nat) (mv : Move) (h : Agrees m v (viewOf s)) :
    Agrees m v (viewOf (offerCueMove i mv s)) := by
  have ho := offerMove_agrees (plainMove .cue mv) h
  unfold offerCueMove
  split <;> simp_all

@[simp] theorem offerTimerMove_agrees (h : Agrees m v (viewOf s)) : Agrees m v (viewOf (offerTimerMove s)) := by
  have ho := offerMove_agrees (plainMove .timer (.step 1)) h
  unfold offerTimerMove
  split <;> simp_all

@[simp] theorem offerChaseMove_agrees (o : Option ChaseOwner) (t : Nat) (h : Agrees m v (viewOf s)) :
    Agrees m v (viewOf (offerChaseMove o t s)) := by
  have ho := offerMove_agrees { source := .chase, move := .goto t, tags := [], owner := o } h
  unfold offerChaseMove
  dsimp only
  split <;> simp_all

@[simp] theorem hostMove_agrees (mv : Move) (tag : Byte) (h : Agrees m v (viewOf s)) :
    Agrees m v (viewOf (hostMove mv tag s).2) := by
  have ho := offerMove_agrees { source := .host, move := mv, tags := [tag], owner := none } h
  unfold hostMove
  split <;> simp_all

@[simp] theorem runChase_agrees (o : Option ChaseOwner) (i : Nat) (h : Agrees m v (viewOf s)) :
    Agrees m v (viewOf (runChase o i s)) := by
  simp [runChase, applyChase, h]

@[simp] theorem logChase_agrees (o : ChaseOwner) (i : Nat) (h : Agrees m v (viewOf s)) :
    Agrees m v (viewOf (logChase o i s)) := by
  unfold logChase
  split <;> simp [h]

/-! ### Rest and the entries of the Transport -/

@[simp] theorem restEvent_agrees (h : Agrees m v (viewOf s)) : Agrees m v (viewOf (restEvent s)) := by
  unfold restEvent loopRest
  repeat' split
  all_goals simp [h]

@[simp] theorem seekEndHanded_agrees (k : Seek) (h : Agrees m v (viewOf s)) :
    Agrees m v (viewOf (seekEndHanded k s)) := by
  unfold seekEndHanded
  dsimp only
  split
  · split <;> split <;> simp [h]
  · split <;> simp [h]

@[simp] theorem enterStopped_agrees (c : Reason) (e : TapeEnds) (h : Agrees m v (viewOf s)) :
    Agrees m v (viewOf (enterStopped c e s)) := by
  unfold enterStopped seekReached
  dsimp only
  split <;> simp [h]

@[simp] theorem enterPaused_agrees (c : Reason) (e : TapeEnds) (h : Agrees m v (viewOf s)) :
    Agrees m v (viewOf (enterPaused c e s)) := by simp [enterPaused, h]

/-! ### Motion requests and the end of the audio fade -/

/-- A taken motion request agrees when the entries it may make do. -/
theorem moveTape_agrees {enter : MotionReq → MotionSource → TapeEnds → State → State}
    (he : ∀ q src e (u : State), Agrees m v (viewOf u) → Agrees m v (viewOf (enter q src e u)))
    (req : MotionReq) (source : MotionSource) (tag : Option Byte) (h : Agrees m v (viewOf s)) :
    Agrees m v (viewOf (moveTape enter req source tag s).2) := by
  unfold moveTape
  dsimp only
  repeat' split
  all_goals simp [h, he]

theorem takeMotion_agrees {enter : MotionReq → MotionSource → TapeEnds → State → State} {hand cut : State → State}
    (he : ∀ q src e (u : State), Agrees m v (viewOf u) → Agrees m v (viewOf (enter q src e u)))
    (hh : ∀ u : State, Agrees m v (viewOf u) → Agrees m v (viewOf (hand u)))
    (hc : ∀ u : State, Agrees m v (viewOf u) → Agrees m v (viewOf (cut u)))
    (req : MotionReq) (source : MotionSource) (tag : Option Byte) (h : Agrees m v (viewOf s)) :
    Agrees m v (viewOf (takeMotion enter hand cut req source tag s).2) := by
  have handed := hh _ (moveTape_agrees he req source tag h)
  unfold takeMotion
  dsimp only
  split
  · exact hc _ handed
  · exact handed

theorem showMotion_agrees {cut : State → State}
    (hc : ∀ u : State, Agrees m v (viewOf u) → Agrees m v (viewOf (cut u))) (req : MotionReq)
    (h : Agrees m v (viewOf s)) : Agrees m v (viewOf (showMotion cut req s).2) := by
  unfold showMotion
  split
  · split <;> simp [h]
  · exact takeMotion_agrees (fun _ _ _ _ g => by simpa using g) (fun _ g => by simpa using g) hc _ _ _ h

theorem fadeEndsWith_agrees {stop : State → State} {rewind : State → Option Reason × State}
    (hs : ∀ u : State, Agrees m v (viewOf u) → Agrees m v (viewOf (stop u)))
    (hr : ∀ u : State, Agrees m v (viewOf u) → Agrees m v (viewOf (rewind u).2)) (h : Agrees m v (viewOf s)) :
    Agrees m v (viewOf (fadeEndsWith stop rewind s)) := by
  have stopped := hs s h
  unfold fadeEndsWith
  dsimp only
  split
  · split
    · have rewound := hr { stop s with cueLog.phase := .rewinding } stopped
      split
      · next hq => simpa [hq] using rewound
      · next hq => simpa [hq] using rewound
    · exact stopped
  · exact h

@[simp] theorem audioFadeEnd_agrees (h : Agrees m v (viewOf s)) : Agrees m v (viewOf (audioFadeEnd s)) := by
  refine fadeEndsWith_agrees (fun u g => ?_) (fun _ => showMotion_agrees (fun _ g => g) _) h
  unfold fadeEndStop
  split
  · exact showMotion_agrees (fun _ g => g) _ g
  · exact g

@[simp] theorem fadeEndsAtRemoval_agrees (h : Agrees m v (viewOf s)) : Agrees m v (viewOf (fadeEndsAtRemoval s)) :=
  fadeEndsWith_agrees (fun _ g => g) (fun _ g => by simpa using g) h

@[simp] theorem cutIf_agrees (b : Bool) (h : Agrees m v (viewOf s)) : Agrees m v (viewOf (cutIf b s)) := by
  unfold cutIf
  split <;> simp [h]

@[simp] theorem requestEndFade_agrees (h : Agrees m v (viewOf s)) : Agrees m v (viewOf (requestEndFade s)) := by
  unfold requestEndFade
  repeat' split
  all_goals simp [h]

@[simp] theorem endSequence_agrees (h : Agrees m v (viewOf s)) : Agrees m v (viewOf (endSequence s)) := by
  unfold endSequence
  split
  · exact requestEndFade_agrees (withDarkTest_agrees (lampEndFade_agrees (by simpa using h)))
  · exact h

@[simp] theorem endFadeAdvance_agrees (h : Agrees m v (viewOf s)) : Agrees m v (viewOf (endFadeAdvance s)) := by
  unfold endFadeAdvance
  repeat' split
  all_goals simp [h]

@[simp] theorem showPause_agrees (h : Agrees m v (viewOf s)) : Agrees m v (viewOf (showPause s)) :=
  showMotion_agrees (fun _ => audioFadeEnd_agrees) _ h

/-! ### Removal, insertion, stall, STANDBY -/

@[simp] theorem insertCassette_agrees (h : Agrees m v (viewOf s)) : Agrees m v (viewOf (insertCassette s)) := by
  unfold insertCassette
  split <;> simp [h]

@[simp] theorem removeCassette_agrees (h : Agrees m v (viewOf s)) : Agrees m v (viewOf (removeCassette s)) := by
  unfold removeCassette
  dsimp only
  split
  · simp [h]
  · split <;> simp [h]

@[simp] theorem tapeStalls_agrees (h : Agrees m v (viewOf s)) : Agrees m v (viewOf (tapeStalls s)) := by
  have rested : Agrees m v (viewOf (restEvent (stillIn .stopped (leaveTape s)))) := restEvent_agrees (by simpa using h)
  unfold tapeStalls
  split
  case h_4 => exact h
  all_goals exact sleepTest_agrees (by simpa using cutIf_agrees _ (by simpa using rested))

@[simp] theorem tapeStandby_agrees (h : Agrees m v (viewOf s)) : Agrees m v (viewOf (tapeStandby s)) := by
  unfold tapeStandby
  dsimp only
  split <;> simp [h]

/-! ### Forward motion and seeks -/

@[simp] theorem leaderAhead_agrees (h : Agrees m v (viewOf s)) : Agrees m v (viewOf (leaderAhead s)) := by
  unfold leaderAhead tapeEnds
  dsimp only
  split <;> simp [h]

@[simp] theorem enterPlaying_agrees (src : MotionSource) (c : Reason) (e : TapeEnds) (h : Agrees m v (viewOf s)) :
    Agrees m v (viewOf (enterPlaying src c e s)) := by simp [enterPlaying, h]

@[simp] theorem enterWinding_agrees (c : Reason) (e : TapeEnds) (h : Agrees m v (viewOf s)) :
    Agrees m v (viewOf (enterWinding c e s)) := by simp [enterWinding, h]

@[simp] theorem enterNow_agrees (q : MotionReq) (src : MotionSource) (e : TapeEnds) (h : Agrees m v (viewOf s)) :
    Agrees m v (viewOf (enterNow q src e s)) := by
  cases q <;> simp [enterNow, h]

@[simp] theorem takeRequest_agrees (q : MotionReq) (src : MotionSource) (t : Option Byte) (h : Agrees m v (viewOf s)) :
    Agrees m v (viewOf (takeRequest q src t s).2) :=
  takeMotion_agrees (fun _ _ _ _ => enterNow_agrees _ _ _) (fun _ g => by simpa using g) (fun _ => audioFadeEnd_agrees)
    _ _ _ h

@[simp] theorem hostMotion_agrees (q : MotionReq) (t : Byte) (h : Agrees m v (viewOf s)) :
    Agrees m v (viewOf (hostMotion q t s).2) := by
  unfold hostMotion
  split <;> simp [h]

@[simp] theorem keyMotion_agrees (k : Key) (r : Remote) (q : MotionReq) (h : Agrees m v (viewOf s)) :
    Agrees m v (viewOf (keyMotion k r q s)) := by
  unfold keyMotion
  repeat' split
  all_goals simp [h]

@[simp] theorem ownPlay_agrees (src : MotionSource) (h : Agrees m v (viewOf s)) :
    Agrees m v (viewOf (ownPlay src s).2) := by
  unfold ownPlay
  split
  · simpa using h
  · refine takeMotion_agrees (fun _ _ _ _ => enterNow_agrees _ _ _) (fun u g => ?_) (fun _ => audioFadeEnd_agrees) _ _ _ h
    split <;> simpa using g

@[simp] theorem continueHold_agrees (h : Agrees m v (viewOf s)) : Agrees m v (viewOf (continueHold s)) := by
  unfold continueHold
  dsimp only
  repeat' split
  all_goals simp [h]

@[simp] theorem playAfter_agrees (k : Seek) (h : Agrees m v (viewOf s)) : Agrees m v (viewOf (playAfter k s)) := by
  unfold playAfter
  split <;> simp [h]

@[simp] theorem seekDue_agrees (k : Seek) (h : Agrees m v (viewOf s)) : Agrees m v (viewOf (seekDue k s)) := by
  unfold seekDue
  repeat' split
  all_goals simp [h]

theorem beginSeek_agrees {hand : State → State}
    (hh : ∀ u : State, Agrees m v (viewOf u) → Agrees m v (viewOf (hand u))) (k : Seek) (h : Agrees m v (viewOf s)) :
    Agrees m v (viewOf (beginSeek hand k s).2) := by
  unfold beginSeek
  dsimp only
  split
  · exact hh _ (seekDue_agrees _ (by simpa using h))
  · exact hh _ (seekDue_agrees _ (by simpa using h))
  · exact hh _ (by simpa using h)
  all_goals exact cutIf_agrees _ (hh _ (by simpa using h))

@[simp] theorem hostSeek_agrees (n : Nat) (t : Byte) (h : Agrees m v (viewOf s)) :
    Agrees m v (viewOf (hostSeek n t s).2) := by
  unfold hostSeek
  split
  · simpa using h
  · exact beginSeek_agrees (fun _ g => by simpa using g) _ h

@[simp] theorem takeSeekCue_agrees (k : Nat) (e : LogEntry) (h : Agrees m v (viewOf s)) :
    Agrees m v (viewOf (takeSeekCue k e s)) :=
  beginSeek_agrees (fun _ g => g) _ (by simpa using h)

@[simp] theorem brakeEnds_agrees (h : Agrees m v (viewOf s)) : Agrees m v (viewOf (brakeEnds s)) := by
  unfold brakeEnds enterPending
  dsimp only
  repeat' split
  all_goals simp [h]

@[simp] theorem leaderChanges_agrees (b : Bool) (h : Agrees m v (viewOf s)) :
    Agrees m v (viewOf (leaderChanges b s)) := by simp [leaderChanges, h]

@[simp] theorem chaseComplete_agrees (o : Option ChaseOwner) (h : Agrees m v (viewOf s)) :
    Agrees m v (viewOf (chaseComplete o s)) := by
  unfold chaseComplete
  split
  · dsimp only
    repeat' split
    all_goals simp [h]
  · split
    · have lit : Agrees m v (viewOf (withDarkTest programLight { s with cueLog.phase := .idle, cueLog.restart := false })) :=
        withDarkTest_agrees (programLight_agrees h)
      have played := ownPlay_agrees .restart lit
      dsimp only
      split
      · next hq => simpa [hq] using played
      · next hq => simpa [hq] using played
    · exact h
  · exact h

/-! ### Events of the cycle -/

@[simp] theorem settleEnds_agrees (h : Agrees m v (viewOf s)) : Agrees m v (viewOf (settleEnds s)) := by
  have done : Agrees m v (viewOf (doneStage (lightStage s))) := by simp [h]
  unfold settleEnds
  dsimp only
  split
  · refine startReady_agrees (sleepTest_agrees ?_)
    split <;> simp [h]
  · exact h

@[simp] theorem shutterCloses_agrees (h : Agrees m v (viewOf s)) : Agrees m v (viewOf (shutterCloses s)) := by
  unfold shutterCloses
  repeat' split
  all_goals simp [h]

@[simp] theorem liftReported_agrees (h : Agrees m v (viewOf s)) : Agrees m v (viewOf (liftReported s)) := by
  unfold liftReported
  split <;> simp [h]

@[simp] theorem liftExpires_agrees (h : Agrees m v (viewOf s)) : Agrees m v (viewOf (liftExpires s)) := by
  unfold liftExpires
  split
  · exact changerFails_agrees _ rfl h
  · exact h

@[simp] theorem stallExpires_agrees (h : Agrees m v (viewOf s)) : Agrees m v (viewOf (stallExpires s)) := by
  unfold stallExpires
  split
  · exact changerFails_agrees _ rfl h
  · exact h

@[simp] theorem searchPulse_agrees (b : Bool) (h : Agrees m v (viewOf s)) : Agrees m v (viewOf (searchPulse b s)) := by
  unfold searchPulse
  dsimp only
  split
  · exact searchFound_agrees h
  · split
    · exact changerFails_agrees _ rfl h
    · split <;> exact h

@[simp] theorem indexPulseEvent_agrees (b : Bool) (h : Agrees m v (viewOf s)) :
    Agrees m v (viewOf (indexPulseEvent b s)) := by
  unfold indexPulseEvent
  dsimp only
  split <;> simp [h]

@[simp] theorem dropReported_agrees (h : Agrees m v (viewOf s)) : Agrees m v (viewOf (dropReported s)) := by
  unfold dropReported
  repeat' split
  all_goals exact h

@[simp] theorem seatReported_agrees (h : Agrees m v (viewOf s)) : Agrees m v (viewOf (seatReported s)) := by
  unfold seatReported
  split <;> simp [h]

@[simp] theorem afterEmptyDrop_agrees (h : Agrees m v (viewOf s)) : Agrees m v (viewOf (afterEmptyDrop s)) := by
  unfold afterEmptyDrop extend
  dsimp only
  repeat' split
  all_goals simp [h]

@[simp] theorem dropExpires_agrees (h : Agrees m v (viewOf s)) : Agrees m v (viewOf (dropExpires s)) := by
  unfold dropExpires
  split <;> simp [h]

@[simp] theorem seatExpires_agrees (h : Agrees m v (viewOf s)) : Agrees m v (viewOf (seatExpires s)) := by
  unfold seatExpires
  split
  · exact changerFails_agrees _ rfl (by simpa using h)
  · exact h

@[simp] theorem continueCycle_agrees (h : Agrees m v (viewOf s)) : Agrees m v (viewOf (continueCycle s)) := by
  unfold continueCycle
  split <;> simp [h]

@[simp] theorem abortPaused_agrees (h : Agrees m v (viewOf s)) : Agrees m v (viewOf (abortPaused s)) := by
  unfold abortPaused
  split <;> simp [h]

@[simp] theorem abortAll_agrees (h : Agrees m v (viewOf s)) : Agrees m v (viewOf (abortAll s)) := by
  unfold abortAll abortCycle
  repeat' split
  all_goals simp [h]

@[simp] theorem changerStandby_agrees (h : Agrees m v (viewOf s)) : Agrees m v (viewOf (changerStandby s)) := by
  unfold changerStandby
  dsimp only
  split <;> simp [h]

@[simp] theorem removeFromChanger_agrees (h : Agrees m v (viewOf s)) : Agrees m v (viewOf (removeFromChanger s)) := by
  unfold removeFromChanger
  dsimp only
  split <;> simp [h]

@[simp] theorem trayCodeChanges_agrees (code : Fin 4) (h : Agrees m v (viewOf s)) :
    Agrees m v (viewOf (trayCodeChanges code s)) := by
  unfold trayCodeChanges removeTray seatTray
  dsimp only
  repeat' split
  all_goals simp [h]

/-! ### Timer, hold and cues -/

@[simp] theorem timerExpires_agrees (h : Agrees m v (viewOf s)) : Agrees m v (viewOf (timerExpires s)) := by
  unfold timerExpires reloadTimer
  split <;> simp [h]

@[simp] theorem takeHold_agrees (h : Agrees m v (viewOf s)) : Agrees m v (viewOf (takeHold s)) := by
  unfold takeHold
  dsimp only
  repeat' split
  all_goals simp [h]

@[simp] theorem takeAction_agrees (k : CueKind) (i : Nat) (a : Action) (h : Agrees .law v (viewOf s)) :
    Agrees .law v (viewOf (takeAction k i a s)) := by
  cases a with
  | fade level duration => exact withDarkTest_agrees (takeCueFade_agrees _ _ h)
  | _ => simp [takeAction, h]

@[simp] theorem takeActions_agrees (k : CueKind) (i : Nat) (as : List Action) (h : Agrees .law v (viewOf s)) :
    Agrees .law v (viewOf (takeActions k i as s)) := by
  induction as generalizing s with
  | nil => exact h
  | cons a as ih => exact ih (takeAction_agrees k i a h)

@[simp] theorem actOnCue_agrees (k : CueKind) (i : Nat) (h : Agrees .law v (viewOf s)) :
    Agrees .law v (viewOf (actOnCue k i s)) := by
  unfold actOnCue
  repeat' split
  all_goals simp [h]

@[simp] theorem takeCue_agrees (k : CueKind) (o : Origin) (i r : Option Nat) (h : Agrees .law v (viewOf s)) :
    Agrees .law v (viewOf (takeCue k o i r s)) := by
  unfold takeCue
  dsimp only
  split <;> simp [h]

@[simp] theorem handCue_agrees (k : CueKind) (o : Origin) (i : Option Nat) (r : Nat) (h : Agrees .law v (viewOf s)) :
    Agrees .law v (viewOf (handCue k o i r s)) := by
  unfold handCue
  split <;> simp [h]

@[simp] theorem logCue_agrees (k : CueKind) (h : Agrees .law v (viewOf s)) : Agrees .law v (viewOf (logCue k s)) := by
  unfold logCue
  dsimp only
  repeat' split
  all_goals simp [h]

@[simp] theorem takeAllMissed_agrees (n : Nat) (b : Bool) (es : List LogEntry) (h : Agrees .law v (viewOf s)) :
    Agrees .law v (viewOf (takeAllMissed n b es s)) := by
  induction es generalizing s with
  | nil => exact h
  | cons e es ih =>
    refine ih ?_
    unfold takeMissed
    split <;> simp [h]

@[simp] theorem reelPulse_agrees (h : Agrees .law v (viewOf s)) : Agrees .law v (viewOf (reelPulse s)) := by
  unfold reelPulse missedTest
  dsimp only
  repeat' split
  all_goals simp [h]

@[simp] theorem recogniserStep_agrees (t : BitVec 3) (h : Agrees .law v (viewOf s)) :
    Agrees .law v (viewOf (recogniserStep t s)) := by
  unfold recogniserStep candidateAt recognised
  dsimp only
  repeat' split
  all_goals simp [h]

@[simp] theorem analyse_agrees (l1 l2 l3 : Byte) (h : Agrees .law v (viewOf s)) :
    Agrees .law v (viewOf (analyse l1 l2 l3 s)) := by
  unfold analyse
  dsimp only
  split <;> simp [h]

@[simp] theorem relayFrameTaken_agrees (w : BitVec 14) (h : Agrees .law v (viewOf s)) :
    Agrees .law v (viewOf (relayFrameTaken w s)) := by
  unfold relayFrameTaken lineCue
  dsimp only
  repeat' split
  all_goals simp [h]

end Sys2Proof.Machine
end

section
/-! ## Power states, remotes and requests agree -/

namespace Sys2Proof.Machine

variable {m : Watch} {v : View} {s : State}

/-! ### Power states -/

@[simp] theorem enterStandby_agrees (h : Agrees .law v (viewOf s)) : Agrees .law v (viewOf (enterStandby s)) := by
  have stood : Agrees .law v (viewOf (evalFan { s with heat.power := .standby })) := evalFan_agrees h rfl
  have lamp : Agrees .law v (viewOf (lampStandby (evalFan { s with heat.power := .standby }))) :=
    withDarkTest_agrees (powerDownLamp_agrees stood)
  exact tapeStandby_agrees (by simpa using changerStandby_agrees lamp)

@[simp] theorem activate_agrees (c : Reason) (h : Agrees m v (viewOf s)) : Agrees m v (viewOf (activate c s)) := by
  have woken : Agrees m v (viewOf (evalFan { s with heat.power := .active, heat.sleepPending := .clear })) :=
    evalFan_agrees h rfl
  exact startReady_agrees (by simpa [powerNoticeEnding] using woken)

@[simp] theorem powerModeTo_agrees (md : PowerState) (t : Byte) (h : Agrees .law v (viewOf s)) :
    Agrees .law v (viewOf (powerModeTo md t s).2) := by
  unfold powerModeTo sleepFromActive askSleep
  dsimp only
  repeat' split
  all_goals simp [h]

@[simp] theorem powerKeyToggles_agrees (h : Agrees .law v (viewOf s)) : Agrees .law v (viewOf (powerKeyToggles s)) := by
  unfold powerKeyToggles
  split <;> simp [h]

@[simp] theorem powerKeyHeld_agrees (h : Agrees .law v (viewOf s)) : Agrees .law v (viewOf (powerKeyHeld s)) := by
  unfold powerKeyHeld
  dsimp only
  repeat' split
  all_goals simp [h]

/-! ### Remotes -/

@[simp] theorem commitEntry_agrees (n : Nat) (h : Agrees m v (viewOf s)) : Agrees m v (viewOf (commitEntry n s)) := by
  unfold commitEntry
  dsimp only
  repeat' split
  all_goals simp [h]

@[simp] theorem gotoPress_agrees (r : Remote) (h : Agrees m v (viewOf s)) : Agrees m v (viewOf (gotoPress r s)) := by
  unfold gotoPress
  split <;> simp [h]

@[simp] theorem entryExpires_agrees (h : Agrees m v (viewOf s)) : Agrees m v (viewOf (entryExpires s)) := by
  unfold entryExpires
  repeat' split
  all_goals simp [h]

@[simp] theorem lampKey_agrees (h : Agrees .law v (viewOf s)) : Agrees .law v (viewOf (lampKey s)) := by
  unfold lampKey
  split
  · exact withDarkTest_agrees (lampOffNow_agrees _ h)
  · exact strikeUnanswered_agrees _ h

@[simp] theorem holdKey_agrees (h : Agrees m v (viewOf s)) : Agrees m v (viewOf (holdKey s)) := by
  unfold holdKey
  split <;> simp [h]

@[simp] theorem playKey_agrees (r : Remote) (h : Agrees m v (viewOf s)) : Agrees m v (viewOf (playKey r s)) := by
  unfold playKey
  split <;> simp [h]

@[simp] theorem keyAction_agrees (r : Remote) (n : Nat) (k : Key) (h : Agrees .law v (viewOf s)) :
    Agrees .law v (viewOf (keyAction r n k s)) := by
  cases k <;> simp [keyAction, h]

@[simp] theorem pressActs_agrees (r : Remote) (n : Nat) (k : Key) (h : Agrees .law v (viewOf s)) :
    Agrees .law v (viewOf (pressActs r n k s)) := by
  have discarded : Agrees .law v (viewOf (if keepsEntry k then s else discardEntry s)) := by split <;> exact h
  refine keyAction_agrees _ _ _ ?_
  split
  · exact activate_agrees _ discarded
  · exact discarded

@[simp] theorem press_agrees (r : Remote) (n : Nat) (k : Key) (b : Bool) (h : Agrees .law v (viewOf s)) :
    Agrees .law v (viewOf (press r n k b s)) := by
  unfold press
  dsimp only
  repeat' split
  all_goals simp [h]

@[simp] theorem release_agrees (r : Remote) (h : Agrees .law v (viewOf s)) : Agrees .law v (viewOf (release r s)) := by
  unfold release releaseActs
  repeat' split
  all_goals simp [h]

@[simp] theorem repeatKey_agrees (r : Remote) (h : Agrees m v (viewOf s)) : Agrees m v (viewOf (repeatKey r s)) := by
  unfold repeatKey
  repeat' split
  all_goals simp [h]

@[simp] theorem powerHeldOn_agrees (h : Agrees .law v (viewOf s)) : Agrees .law v (viewOf (powerHeldOn s)) := by
  unfold powerHeldOn
  repeat' split
  all_goals simp [h]

@[simp] theorem irKeyFrame_agrees (n : Nat) (k : Key) (b : Bool) (h : Agrees .law v (viewOf s)) :
    Agrees .law v (viewOf (irKeyFrame n k b s)) := by
  unfold irKeyFrame
  repeat' split
  all_goals simp [h]

@[simp] theorem irFrameTaken_agrees (w : BitVec 16) (h : Agrees .law v (viewOf s)) :
    Agrees .law v (viewOf (irFrameTaken w s)) := by
  unfold irFrameTaken wakeIfAsleep
  dsimp only
  repeat' split
  all_goals simp [h]

@[simp] theorem bandChanges_agrees (b : Band) (h : Agrees .law v (viewOf s)) :
    Agrees .law v (viewOf (bandChanges b s)) := by
  unfold bandChanges
  dsimp only
  split <;> simp [h]

@[simp] theorem ladderSampled_agrees (n : Nat) (h : Agrees .law v (viewOf s)) :
    Agrees .law v (viewOf (ladderSampled n s)) := by
  unfold ladderSampled bandSample
  repeat' split
  all_goals simp [h]

/-! ### Requests -/

/-- An event with its THERMAL report agrees when the event does. -/
theorem withThermal_agrees {f : State → State} (h : Agrees m v (viewOf (f s))) :
    Agrees m v (viewOf (withThermal f s)) := by simpa [withThermal] using h

/-- A served request agrees when its body does. -/
theorem request_agrees {k : Byte} {n : Nat} {hd : Hdr} {body : State → Answer × State}
    (hb : ∀ u : State, Agrees m v (viewOf u) → Agrees m v (viewOf (body u).2)) (h : Agrees m v (viewOf s)) :
    Agrees m v (viewOf (request k n hd body s)) := by
  have woken : Agrees m v (viewOf (wake .frame (takePlace (k + 0x80) hd.tag s))) := wake_agrees _ (by simpa using h)
  unfold request
  split
  · exact h
  · refine withThermal_agrees ?_
    unfold serve served
    dsimp only
    rw [viewOf_fillReply]
    split
    · exact hb _ woken
    · exact woken

theorem unlessRefused_agrees {r : State → Option Reason} {f : State → State} (hf : Agrees m v (viewOf (f s)))
    (h : Agrees m v (viewOf s)) : Agrees m v (viewOf (unlessRefused r f s).2) := by
  unfold unlessRefused
  split
  · exact h
  · exact hf

@[simp] theorem writeThreshold_agrees (n : Nat) (h : Agrees m v (viewOf s)) :
    Agrees m v (viewOf (writeThreshold n s)) := by
  unfold writeThreshold thresholdLamp
  dsimp only
  split
  · split
    · exact recomputeD_agrees h.parts rfl (h.lamp.still rfl)
    · exact h
  · split
    · exact withDarkTest_agrees (startFade_agrees _ _ _ h)
    · exact h
  · exact recomputeD_agrees h.parts rfl (h.lamp.still rfl)
  · exact h

/-- An item written agrees: only DARK_THRESHOLD reaches the lamp (R189, R53). -/
theorem writeItem_agrees {n k : Nat} {u : State} (hw : writeItem n k s = some u) (h : Agrees m v (viewOf s)) :
    Agrees m v (viewOf u) := by
  unfold writeItem writeEnum at hw
  split at hw
  all_goals first
    | (obtain ⟨b, -, rfl⟩ := Option.map_eq_some_iff.mp hw)
    | (cases hw)
  all_goals first
    | exact h
    | exact writeThreshold_agrees k h
    | simpa using h

@[simp] theorem setItemBody_agrees (n k : Nat) (h : Agrees m v (viewOf s)) :
    Agrees m v (viewOf (setItemBody n k s).2) := by
  unfold setItemBody
  split
  · next hw => exact writeItem_agrees hw h
  · exact h

/-- No sticky fault is one of heat and fan (R191). -/
theorem viewOf_clearFault_sticky {f : FaultKind} (hf : isSticky f = true) (s : State) :
    viewOf (clearFault f s) = viewOf s := by
  cases f <;> simp [isSticky] at hf <;> simp

theorem clearSticky_agrees {f : FaultKind} (hf : isSticky f = true) (h : Agrees .law v (viewOf s)) :
    Agrees .law v (viewOf (clearSticky f s)) := by
  have cleared : Agrees .law v (viewOf (clearFault f s)) := by rwa [viewOf_clearFault_sticky hf]
  unfold clearSticky
  dsimp only
  split
  · exact startReady_agrees cleared
  · exact startReady_agrees cleared
  · exact startReady_agrees cleared
  · exact leaveFailed_agrees cleared
  · exact cleared

theorem clearEach_agrees (fs : List FaultKind) (h : Agrees .law v (viewOf s)) :
    Agrees .law v (viewOf (clearEach fs s)) := by
  induction fs generalizing s with
  | nil => exact h
  | cons f fs ih =>
    unfold clearEach
    split
    · next hc =>
      simp only [Bool.and_eq_true] at hc
      exact ih (clearSticky_agrees hc.1.1 h)
    · exact ih h

@[simp] theorem faultClearBody_agrees (c : Nat) (h : Agrees .law v (viewOf s)) :
    Agrees .law v (viewOf (faultClearBody c s).2) := by
  unfold faultClearBody
  split
  · split
    · exact h
    · exact clearEach_agrees _ h
  · split
    · next f _ =>
      unfold clearNamed
      split
      · exact h
      · next hf =>
        repeat' split
        · exact h
        · exact h
        · exact h
        · exact clearSticky_agrees (by simpa using hf) h
    · exact h

@[simp] theorem selectLampBody_agrees (p t : Byte) (h : Agrees .law v (viewOf s)) :
    Agrees .law v (viewOf (selectLampBody p t s).2) := by
  unfold selectLampBody
  split
  · exact h
  · split
    · exact h
    · split
      · exact h
      · next hr =>
        split
        · exact h
        · exact startSwap_agrees _ _ hr h.parts

@[simp] theorem markLampBody_agrees (p c : Byte) (h : Agrees .law v (viewOf s)) :
    Agrees .law v (viewOf (markLampBody p c s).2) := by
  unfold markLampBody
  split
  · split
    · exact setLampRec_good_agrees _ h
    · exact h
  · exact h

@[simp] theorem viewOf_getItemBody (n : Nat) (s : State) : viewOf (getItemBody n s).2 = viewOf s := by
  unfold getItemBody
  split <;> rfl

@[simp] theorem viewOf_getMapBody (n : Nat) (s : State) : viewOf (getMapBody n s).2 = viewOf s := by
  unfold getMapBody
  split <;> rfl

@[simp] theorem viewOf_markSlotBody (slot pres hold value : Nat) (s : State) :
    viewOf (markSlotBody slot pres hold value s).2 = viewOf s := by
  unfold markSlotBody
  repeat' split
  all_goals rfl

@[simp] theorem viewOf_setCueSourceBody (c : Byte) (s : State) : viewOf (setCueSourceBody c s).2 = viewOf s := by
  unfold setCueSourceBody
  split <;> rfl

@[simp] theorem viewOf_writeEntryBody (i : Nat) (raw : List RawAction) (s : State) :
    viewOf (writeEntryBody i raw s).2 = viewOf s := by
  unfold writeEntryBody
  repeat' split
  all_goals rfl

@[simp] theorem viewOf_readEntryBody (i n : Nat) (s : State) : viewOf (readEntryBody i n s).2 = viewOf s := by
  unfold readEntryBody
  repeat' split
  all_goals rfl

@[simp] theorem viewOf_readCueLogBody (i : Nat) (s : State) : viewOf (readCueLogBody i s).2 = viewOf s := by
  unfold readCueLogBody
  split <;> rfl

@[simp] theorem viewOf_setTraceModeBody (n : Nat) (t : BitVec 16) (p : Nat) (s : State) :
    viewOf (setTraceModeBody n t p s).2 = viewOf s := by
  unfold setTraceModeBody
  repeat' split
  all_goals simp

@[simp] theorem viewOf_readTraceBody (k : Nat) (s : State) : viewOf (readTraceBody k s).2 = viewOf s := by
  unfold readTraceBody
  split <;> rfl

@[simp] theorem viewOf_protectBody (i : Byte) (s : State) : viewOf (protectBody i s).2 = viewOf s := by
  unfold protectBody
  split <;> rfl

@[simp] theorem viewOf_lockBody (c : Byte) (s : State) : viewOf (lockBody c s).2 = viewOf s := by
  unfold lockBody
  repeat' split
  all_goals rfl

theorem powerModeBody_agrees (md t : Byte) (h : Agrees .law v (viewOf s)) :
    Agrees .law v (viewOf (powerModeBody md t s).2) := by
  unfold powerModeBody
  split <;> simp [h]

theorem stepBody_agrees (n : Int) (t : Byte) (h : Agrees m v (viewOf s)) :
    Agrees m v (viewOf (stepBody n t s).2) := by
  unfold stepBody
  split <;> simp [h]

theorem gotoBody_agrees (n : Nat) (t : Byte) (h : Agrees m v (viewOf s)) : Agrees m v (viewOf (gotoBody n t s).2) := by
  unfold gotoBody
  split <;> simp [h]

theorem seekCueBody_agrees (k : Nat) (h : Agrees m v (viewOf s)) : Agrees m v (viewOf (seekCueBody k s).2) := by
  unfold seekCueBody
  split <;> simp [h]

theorem injectCueBody_agrees (c : Byte) (h : Agrees .law v (viewOf s)) :
    Agrees .law v (viewOf (injectCueBody c s).2) := by
  unfold injectCueBody
  repeat' split
  all_goals simp [h]

end Sys2Proof.Machine
end

section
/-! ## Heat, cut-out and resets: what they break they settle -/

namespace Sys2Proof.Machine

variable {m : Watch} {v w : View} {s : State}

/-! ### The parts each decision settles -/

/-- The parts the ceiling's computation settles: D, the ceiling and the zone (R46, R72). -/
def Part.byCeiling : Part → Bool
  | .drive | .ceiling | .zone => true
  | .permission | .fan | .latch | .line => false

/-- The parts a raised heat fault's effects settle: those of the ceiling, and the fan (R73, R74). -/
def Part.byHeatFault : Part → Bool
  | .drive | .ceiling | .zone | .fan => true
  | .permission | .latch | .line => false

/-- The parts that read H, and stand open from its computation to the decisions that follow (R65). -/
def Part.readsHeat : Part → Bool
  | .ceiling | .zone | .permission => true
  | .drive | .fan | .latch | .line => false

theorem evalFan_right {p : Part} (h : p ≠ .fan → (viewOf s).Right p) : (viewOf (evalFan s)).Right p := by
  have view : viewOf (evalFan s) = { viewOf s with fan := (viewOf s).fanLevel } := rfl
  rw [view]
  cases p with
  | fan => rfl
  | _ => exact h nofun

theorem evalPermission_right {p : Part} (h : p ≠ .permission → (viewOf s).Right p) :
    (viewOf (evalPermission s)).Right p := by
  cases p with
  | permission => rfl
  | _ => exact h nofun

theorem evalPermission_lampPart (s : State) : (viewOf (evalPermission s)).lampPart = (viewOf s).lampPart := rfl

theorem evalCeiling_right {p : Part} (h : p.byCeiling = false → (viewOf s).Right p) :
    (viewOf (evalCeiling s)).Right p := by
  obtain ⟨c, f, view, fan⟩ := viewOf_recomputeD { s with heat.ceiling := ceilingOf s, heat.zone := zoneOf s.heat.estimate }
  cases p with
  | fan => exact fan (h rfl)
  | permission => exact view ▸ h rfl
  | latch => exact view ▸ h rfl
  | line => exact view ▸ h rfl
  | _ => exact view ▸ rfl

@[simp] theorem evalCeiling_lampPart (s : State) : (viewOf (evalCeiling s)).lampPart = (viewOf s).lampPart :=
  recomputeD_lampPart _

theorem handCeiling_right {p : Part} (h : p.byCeiling = false → (viewOf s).Right p) :
    (viewOf (handCeiling s)).Right p :=
  (withDarkTest_agrees (f := evalCeiling) (m := .still) (.refl _)).parts p (evalCeiling_right h)

theorem handCeiling_lampPart (s : State) : (viewOf (handCeiling s)).lampPart = (viewOf s).lampPart :=
  ((withDarkTest_agrees (f := evalCeiling) (m := .still) (.refl _)).lamp).trans (evalCeiling_lampPart s)

theorem ensureCooldown_agrees (h : Agrees m v (viewOf s)) : Agrees m v (viewOf (ensureCooldown s)) := by
  unfold ensureCooldown
  split <;> simp [h]

/-! ### A raised or cleared heat fault -/

/-- The lamp forced off and the cooldown begun agree. -/
theorem forcedOff_agrees (c : Reason) (s : State) :
    Agrees .law (viewOf s) (viewOf (ensureCooldown (forceLampOff c s))) :=
  ensureCooldown_agrees (withDarkTest_agrees (lampOffNow_agrees c (.refl _)))

theorem heatFaultRaised_right (c : Reason) {p : Part} (h : p.byHeatFault = false → (viewOf s).Right p) :
    (viewOf (heatFaultRaised c s)).Right p := by
  refine evalFan_right fun hp => handCeiling_right fun hc => (forcedOff_agrees c s).parts p (h ?_)
  cases p <;> simp_all [Part.byCeiling, Part.byHeatFault]

theorem heatFaultRaised_law (c : Reason) (h : (viewOf s).LampLaw) : (viewOf (heatFaultRaised c s)).LampLaw :=
  ((forcedOff_agrees c s).lamp h).of_lampPart (handCeiling_lampPart (ensureCooldown (forceLampOff c s)))

/-! ### The heat-model update -/

/-- The trip latch moves with OVERTEMP, and what does not read H is right after it as before (R73). -/
theorem evalLatch_right (h : ∀ p : Part, p.readsHeat = false → (viewOf s).Right p) {p : Part}
    (hp : p.readsHeat = false) : (viewOf (evalLatch s)).Right p := by
  unfold evalLatch
  split
  · refine heatFaultRaised_right _ fun hf => ?_
    rw [viewOf_raise_overtemp]
    cases p with
    | latch => rfl
    | line => exact h .line rfl
    | permission => cases hp
    | _ => cases hf
  · split
    · refine evalFan_right fun hfan => handCeiling_right fun hc => ?_
      rw [viewOf_clear_overtemp]
      cases p with
      | latch => rfl
      | line => exact h .line rfl
      | fan => exact absurd rfl hfan
      | permission => cases hp
      | _ => cases hc
    · exact h p hp

theorem evalLatch_law (h : (viewOf s).LampLaw) : (viewOf (evalLatch s)).LampLaw := by
  unfold evalLatch
  split
  · exact heatFaultRaised_law _ (h.of_lampPart (by rw [viewOf_raise_overtemp]; rfl))
  · split
    · refine h.of_lampPart ((handCeiling_lampPart _).trans ?_)
      rw [viewOf_clear_overtemp]
      rfl
    · exact h

theorem advanceCooldown_agrees (h : Agrees m v (viewOf s)) : Agrees m v (viewOf (advanceCooldown s)) := by
  unfold advanceCooldown
  dsimp only
  split
  · split
    · exact evalFan_agrees h (by rw [viewOf_give]; rfl)
    · exact h
  · exact h

theorem evalFloor_agrees (h : Agrees m v (viewOf s)) : Agrees m v (viewOf (evalFloor s)) := evalFan_agrees h rfl

/-- The decisions of an update settle what reads H (R65). -/
theorem updateDecisions_right (b : Bool) (h : ∀ p : Part, p.readsHeat = false → (viewOf s).Right p) (p : Part) :
    (viewOf (updateDecisions b s)).Right p := by
  have decided : (viewOf (evalPermission (handCeiling (evalFloor s)))).Right p := by
    refine evalPermission_right fun hp => handCeiling_right fun hc =>
      (evalFloor_agrees (m := .still) (.refl _)).parts p (h p ?_)
    cases p <;> simp_all [Part.readsHeat, Part.byCeiling]
  unfold updateDecisions
  dsimp only
  split
  · exact (advanceCooldown_agrees (m := .still) (.refl _)).parts p decided
  · exact decided

theorem updateDecisions_law (b : Bool) (h : (viewOf s).LampLaw) : (viewOf (updateDecisions b s)).LampLaw := by
  have decided : (viewOf (evalPermission (handCeiling (evalFloor s)))).LampLaw :=
    h.of_lampPart (handCeiling_lampPart (evalFloor s))
  unfold updateDecisions
  dsimp only
  split
  · exact (advanceCooldown_agrees (m := .law) (.refl _)).lamp decided
  · exact decided

/-! ### Both laws together -/

/-- The laws of lamp and heat that hold in `v` hold in `w`. -/
structure Sound (v w : View) : Prop where
  lamp : v.LampLaw → w.LampLaw
  heat : (∀ p, v.Right p) → ∀ p, w.Right p

theorem Agrees.sound (h : Agrees .law v w) : Sound v w := ⟨h.lamp, fun g p => h.parts p (g p)⟩

theorem Sound.then {u : View} (h : Sound v w) (g : Agrees .law w u) : Sound v u :=
  ⟨g.lamp ∘ h.lamp, fun r p => g.parts p (h.heat r p)⟩

/-- A new H leaves open what reads H, and nothing else (R67). -/
theorem updateEstimate_right (h : ∀ p, (viewOf s).Right p) {p : Part} (hp : p.readsHeat = false) :
    (viewOf (updateEstimate s)).Right p := by
  have right := h p
  cases p with
  | drive => exact right
  | fan => exact right
  | latch => exact right
  | line => exact right
  | _ => cases hp

/-- H computed, the latch moved and the decisions made (R65). -/
theorem update_sound (b : Bool) (s : State) :
    Sound (viewOf s) (viewOf (updateDecisions b (evalLatch (updateEstimate s)))) :=
  ⟨fun l => updateDecisions_law b (evalLatch_law (l.of_lampPart rfl)),
    fun g => updateDecisions_right b fun _ hp => evalLatch_right (fun _ => updateEstimate_right g) hp⟩

theorem heatUpdated_sound (r : Option Int) (s : State) : Sound (viewOf s) (viewOf (heatUpdated r s)) := by
  have read : viewOf (readAmbient r { s with heat.updateTimer := some 0 }) = viewOf s := by simp
  have updated := fun b => read ▸ update_sound b (readAmbient r { s with heat.updateTimer := some 0 })
  unfold heatUpdated
  dsimp only
  split
  · exact Agrees.sound (.refl _)
  · split
    · exact (updated _).then (sleepTest_agrees (by simpa using .refl _))
    · simpa using updated _

/-- A changed FAN_STALL and the ceiling that follows it (R71, R72). -/
theorem handCeiling_stall_sound {b : Bool} (hv : viewOf s = { v with stall := b }) :
    Sound v (viewOf (handCeiling s)) := by
  refine ⟨fun l => l.of_lampPart ((handCeiling_lampPart s).trans (hv ▸ rfl)), fun g p => handCeiling_right fun hc => ?_⟩
  have right := g p
  rw [hv]
  cases p with
  | permission => exact right
  | fan => exact right
  | latch => exact right
  | line => exact right
  | _ => cases hc

theorem fanStalls_sound (s : State) : Sound (viewOf s) (viewOf (fanStalls s)) := by
  unfold fanStalls
  split
  · exact handCeiling_stall_sound (viewOf_raise_fanStall _ _)
  · exact Agrees.sound (.refl _)

theorem fanTach_sound (s : State) : Sound (viewOf s) (viewOf (fanTach s)) := by
  unfold fanTach
  dsimp only
  split
  · exact handCeiling_stall_sound (viewOf_clear_fanStall _)
  · exact Agrees.sound (.refl _)

/-- The cut-out's opening raises TCO_OPEN, and its effects settle what reads it (R74). -/
theorem tcoOpens_sound (s : State) : Sound (viewOf s) (viewOf (tcoOpens s)) := by
  have woken : Agrees .law (viewOf { s with lines.tcoOpen := true })
      (viewOf (wake .cutOut { s with lines.tcoOpen := true })) := wake_agrees _ (.refl _)
  have line : (viewOf (wake .cutOut { s with lines.tcoOpen := true })).line = true := by
    unfold wake
    split <;> rfl
  unfold tcoOpens
  dsimp only
  generalize wake .cutOut { s with lines.tcoOpen := true } = u at woken line ⊢
  have raised := viewOf_raise_tcoOpen u none
  refine ⟨fun l => (heatFaultRaised_law _ ?_).of_lampPart (evalPermission_lampPart _),
    fun g p => evalPermission_right fun hp => heatFaultRaised_right _ fun hf => ?_⟩
  · rw [raised]
    exact woken.lamp l
  · rw [raised]
    cases p with
    | latch => exact woken.parts .latch (g .latch)
    | line => exact line.symm
    | permission => exact absurd rfl hp
    | _ => cases hf

/-- The cut-out's closing clears TCO_OPEN, and what reads it is decided afresh (R74). -/
theorem tcoCloses_sound (s : State) : Sound (viewOf s) (viewOf (tcoCloses s)) := by
  have cleared := viewOf_clear_tcoOpen { s with lines.tcoOpen := false }
  unfold tcoCloses
  generalize clearFault .tcoOpen { s with lines.tcoOpen := false } = u at cleared ⊢
  refine ⟨fun l => (l.of_lampPart ?_ : (viewOf (handCeiling u)).LampLaw),
    fun g p => evalPermission_right fun hp => evalFan_right fun hf => handCeiling_right fun hc => ?_⟩
  · rw [handCeiling_lampPart, cleared]
    rfl
  · rw [cleared]
    cases p with
    | latch => exact g .latch
    | line => rfl
    | permission => exact absurd rfl hp
    | fan => exact absurd rfl hf
    | _ => cases hc

theorem tcoChanges_sound (b : Bool) (s : State) : Sound (viewOf s) (viewOf (tcoChanges b s)) := by
  unfold tcoChanges
  split
  · exact Agrees.sound (.refl _)
  · split
    · simpa [withThermal] using tcoOpens_sound s
    · exact (tcoCloses_sound s).then (sleepTest_agrees (by simpa [withThermal] using .refl _))

/-! ### Resets -/

theorem viewOf_raiseIf (b : Bool) (f : FaultKind) (s : State) :
    viewOf (raiseIf b f s) = { viewOf s with
      overtemp := (viewOf s).overtemp || (b && decide (.overtemp = f))
      tco := (viewOf s).tco || (b && decide (.tcoOpen = f))
      stall := (viewOf s).stall || (b && decide (.fanStall = f)) } := by
  unfold raiseIf
  split
  · next hb => simp [viewOf_raiseFault_eq, hb]
  · next hb => simp [Bool.eq_false_iff.mpr hb]

/-- A hardware reset with its faults raised, before its decisions (R193). -/
def hardRaised (pins : Pins) (h : Nat) (s : State) : State :=
  raiseIf pins.tcoOpen .tcoOpen (raiseIf (decide (21760 ≤ h)) .overtemp
    (raiseIf (pins.trayCode == 3) .trayCode (hardState pins h s)))

theorem viewOf_hardRaised (pins : Pins) (h : Nat) (s : State) :
    viewOf (hardRaised pins h s)
      = { viewOf (hardState pins h s) with overtemp := decide (21760 ≤ h), tco := pins.tcoOpen } := by
  have none (f : FaultKind) : faultIn f (hardState pins h s).link.faults = false := by
    have faults : (hardState pins h s).link.faults = 0#16 := rfl
    rw [faults]
    cases f <;> decide
  have overtemp : (viewOf (hardState pins h s)).overtemp = false := none _
  have tco : (viewOf (hardState pins h s)).tco = false := none _
  simp [hardRaised, viewOf_raiseIf, overtemp, tco]

/-- A hardware reset decides everything afresh, from the lines and H it starts with (R193, R88). -/
theorem hardReset_sound (pins : Pins) (h : Nat) (s : State) : Sound v (viewOf (hardReset pins h s)) := by
  have raised := viewOf_hardRaised pins h s
  change Sound v (viewOf (evalFan (evalPermission (evalCeiling (hardRaised pins h s)))))
  refine ⟨fun _ => .of_lampPart (.of_dark (w := viewOf (hardRaised pins h s)) (.inl (by rw [raised]; rfl))) ?_,
    fun _ p => evalFan_right fun hf => evalPermission_right fun hp => evalCeiling_right fun hc => ?_⟩
  · exact evalCeiling_lampPart _
  · rw [raised]
    cases p with
    | latch => rfl
    | line => rfl
    | permission => exact absurd rfl hp
    | fan => exact absurd rfl hf
    | _ => cases hc

/-- The soft reset's lamp is dark, or in the swap it was in (R64). -/
theorem softLamp_agrees (h : Agrees .law v (viewOf s)) : Agrees .law v (viewOf (softLamp s)) := by
  unfold softLamp
  dsimp only
  split
  · next hs =>
    rw [viewOf_cancelRestrike]
    refine ⟨h.lamp.still rfl, fun p hp => ?_⟩
    have right := h.parts p hp
    cases p with
    | drive => simpa [View.Right, View.driveLevel, viewOf, hs] using right
    | _ => exact right
  · exact recomputeD_agrees h.parts rfl fun _ => .of_dark (.inl rfl)

theorem faultIn_foldl (f : FaultKind) (fs : List FaultKind) (w : BitVec 16) :
    faultIn f (fs.foldl (fun w f => w ||| faultMask f) w) = (faultIn f w || decide (f ∈ fs)) := by
  induction fs generalizing w with
  | nil => simp
  | cons g fs ih => simp [ih, faultIn_or_mask, Bool.or_assoc, Bool.decide_or]

/-- The rebuilt fault word holds the faults whose condition is still present (R193). -/
theorem faultIn_rebuiltFaults (f : FaultKind) (s : State) : faultIn f (rebuiltFaults s) = faultStays s f := by
  have all : f ∈ allFaults := by cases f <;> decide
  have none : faultIn f 0#16 = false := by cases f <;> decide
  simp [rebuiltFaults, faultIn_foldl, all, none]

/-- Where the two heat faults agree with the latch and the line, the rebuilt fault set shows the laws what the old one did. -/
theorem viewOf_softLink (hl : (viewOf s).Right .latch) (hi : (viewOf s).Right .line) : viewOf (softLink s) = viewOf s := by
  have overtemp : faultIn .overtemp (rebuiltFaults s) = (viewOf s).overtemp := (faultIn_rebuiltFaults _ s).trans hl.symm
  have tco : faultIn .tcoOpen (rebuiltFaults s) = (viewOf s).tco := (faultIn_rebuiltFaults _ s).trans hi.symm
  have stall : faultIn .fanStall (rebuiltFaults s) = (viewOf s).stall := faultIn_rebuiltFaults _ s
  simp only [softLink, viewOf_mk, overtemp, tco, stall]
  rfl

theorem softHeat_agrees (h : Agrees m v (viewOf s)) : Agrees m v (viewOf (softHeat s)) := evalFan_agrees h rfl

theorem softResetAll_sound (service : Bool) (s : State) : Sound (viewOf s) (viewOf (softResetAll service s)) := by
  have settled : Agrees .law (viewOf s) (viewOf (softHeat (softLamp (softChanger (softTransport (softProgram service
      { s with decoder := Decoder.reset, remote := RemoteRx.reset })))))) :=
    softHeat_agrees (softLamp_agrees (by simpa using .refl _))
  change Sound _ (viewOf (softTrace (softLink _)))
  generalize softHeat _ = u at settled ⊢
  rw [softTrace, viewOf_writeTraceMode]
  refine ⟨fun l => (settled.lamp l).of_lampPart rfl, fun g => ?_⟩
  have right := fun p => settled.parts p (g p)
  rw [viewOf_softLink (right .latch) (right .line)]
  exact right

end Sys2Proof.Machine
end

section
/-! ## Every step keeps lamp and heat in agreement (R46 to R48, R59 to R61, R70, R72 to R75) -/

namespace Sys2Proof.Machine

variable {s : State}

/-- An outcome that is a next state is as sound as its state. -/
theorem next_sound {u t : State} (h : (.next u : Result) = .next t) (k : Sound (viewOf s) (viewOf u)) :
    Sound (viewOf s) (viewOf t) := by
  cases h
  exact k

/-- A command that agrees. -/
theorem next_agrees {u t : State} (h : (.next u : Result) = .next t) (k : Agrees .law (viewOf s) (viewOf u)) :
    Sound (viewOf s) (viewOf t) := next_sound h k.sound

/-- A command that moves nothing the laws read. -/
theorem next_unseen {u t : State} (h : (.next u : Result) = .next t) (k : viewOf u = viewOf s) :
    Sound (viewOf s) (viewOf t) := next_agrees h (k ▸ .refl _)

/-- A request whose body agrees. -/
theorem request_next_agrees {k : Byte} {n : Nat} {h : Hdr} {body : State → Answer × State} {t : State}
    (hn : (.next (request k n h body s) : Result) = .next t)
    (hb : ∀ u : State, Agrees .law (viewOf s) (viewOf u) → Agrees .law (viewOf s) (viewOf (body u).2)) :
    Sound (viewOf s) (viewOf t) := next_agrees hn (request_agrees hb (.refl _))

/-- A request whose body moves nothing the laws read. -/
theorem request_next_unseen {k : Byte} {n : Nat} {h : Hdr} {body : State → Answer × State} {t : State}
    (hn : (.next (request k n h body s) : Result) = .next t) (hb : ∀ u : State, viewOf (body u).2 = viewOf u) :
    Sound (viewOf s) (viewOf t) := request_next_agrees hn fun u hu => hb u ▸ hu

/-- An event with its THERMAL report that agrees. -/
theorem thermal_next_agrees {f : State → State} {t : State} (hn : (.next (withThermal f s) : Result) = .next t)
    (hf : Agrees .law (viewOf s) (viewOf s) → Agrees .law (viewOf s) (viewOf (f s))) : Sound (viewOf s) (viewOf t) :=
  next_agrees hn (withThermal_agrees (hf (.refl _)))

/-- An event of the Heat Monitor with its THERMAL report. -/
theorem thermal_next_sound {f : State → State} {t : State} (hn : (.next (withThermal f s) : Result) = .next t)
    (hf : Sound (viewOf s) (viewOf (f s))) : Sound (viewOf s) (viewOf t) :=
  next_sound hn (by simpa [withThermal] using hf)

theorem execFrameReject_sound {k t : Byte} {b : Bool} {u : State} (h : execFrameReject k t b s = .next u) :
    Sound (viewOf s) (viewOf u) :=
  next_unseen h (by repeat' split
                    all_goals simp)

theorem execFrameSent_sound {u : State} (h : execFrameSent s = .next u) : Sound (viewOf s) (viewOf u) := by
  refine next_sound h ?_
  split
  · split
    · exact softResetAll_sound _ { s with link.sending := none, lineReads := s.lineReads + 1 }
    · exact (Agrees.refl (viewOf s)).sound.then (viewOf_pump { s with link.sending := none } { s.link with sending := none } rfl ▸ .refl _)
  · exact (Agrees.refl _).sound

theorem unlessRefused_unseen {r : State → Option Reason} {f : State → State} (hf : ∀ u, viewOf (f u) = viewOf u)
    (u : State) : viewOf (unlessRefused r f u).2 = viewOf u := by
  unfold unlessRefused
  split
  · rfl
  · exact hf u

/-- Every command keeps the law of the lamp, and lamp and heat in agreement. -/
theorem exec_sound (i : Instr) {t : State} (h : exec i s = .next t) : Sound (viewOf s) (viewOf t) := by
  cases i with
  | powerOn pins => exact next_sound h (hardReset_sound _ _ _)
  | resetLine pins => exact next_sound h (hardReset_sound _ _ _)
  | softReset service => exact next_sound h (softResetAll_sound _ _)
  | linkByteTimeout => exact next_unseen h (by split <;> simp)
  | frameReject kind tag checkOk => exact execFrameReject_sound h
  | frameOverrun => exact next_unseen h (by split <;> simp)
  | frameSent => exact execFrameSent_sound h
  | identify hd => exact request_next_unseen h fun u => rfl
  | readStatus hd => exact request_next_unseen h fun u => rfl
  | getItem hd item => exact request_next_unseen h (viewOf_getItemBody _)
  | setItem hd item value => exact request_next_agrees h fun u => setItemBody_agrees _ _
  | reset hd => exact request_next_unseen h fun u => rfl
  | faultClear hd code => exact request_next_agrees h fun u => faultClearBody_agrees _
  | setNoticeMask hd mask => exact request_next_unseen h fun u => rfl
  | powerMode hd mode => exact request_next_agrees h fun u => powerModeBody_agrees _ _
  | step hd n => exact request_next_agrees h fun u => stepBody_agrees _ _
  | goto hd slot => exact request_next_agrees h fun u => gotoBody_agrees _ _
  | pauseMove hd => exact request_next_unseen h viewOf_pauseCycle
  | continueMove hd => exact request_next_agrees h fun u => continueCycle_agrees
  | abortMoves hd => exact request_next_agrees h fun u => abortAll_agrees
  | markSlot hd slot presence hold value => exact request_next_unseen h (viewOf_markSlotBody _ _ _ _)
  | setMap hd num slots => exact request_next_unseen h (unlessRefused_unseen fun u => rfl)
  | getMap hd num => exact request_next_unseen h (viewOf_getMapBody _)
  | selectMap hd num => exact request_next_unseen h (unlessRefused_unseen fun u => rfl)
  | lampOn hd => exact request_next_agrees h fun u => strike_agrees _
  | lampOff hd => exact request_next_agrees h fun u hu => withDarkTest_agrees (lampOffNow_agrees _ hu)
  | fade hd level duration =>
    exact request_next_agrees h fun u hu => unlessRefused_agrees (withDarkTest_agrees (takeFade_agrees _ _ hu)) hu
  | selectLamp hd pos => exact request_next_agrees h fun u => selectLampBody_agrees _ _
  | markLamp hd pos cond => exact request_next_agrees h fun u => markLampBody_agrees _ _
  | focusNudge hd dir duration => exact request_next_unseen h fun u => viewOf_startNudge u _ _ _
  | play hd => exact request_next_agrees h fun u => hostMotion_agrees _ _
  | stop hd => exact request_next_agrees h fun u => hostMotion_agrees _ _
  | pause hd => exact request_next_agrees h fun u => hostMotion_agrees _ _
  | rewind hd => exact request_next_agrees h fun u => hostMotion_agrees _ _
  | wind hd => exact request_next_agrees h fun u => hostMotion_agrees _ _
  | seekCount hd count => exact request_next_agrees h fun u => hostSeek_agrees _ _
  | seekCue hd index => exact request_next_agrees h fun u => seekCueBody_agrees _
  | setVolume hd volume => exact request_next_unseen h fun u => rfl
  | setCueSource hd source => exact request_next_unseen h (viewOf_setCueSourceBody _)
  | injectCue hd kind => exact request_next_agrees h fun u => injectCueBody_agrees _
  | reference hd => exact request_next_unseen h (unlessRefused_unseen fun u => rfl)
  | writeEntry hd index actions => exact request_next_unseen h (viewOf_writeEntryBody _ _)
  | deleteEntry hd index => exact request_next_unseen h (unlessRefused_unseen fun u => rfl)
  | readEntry hd index mode => exact request_next_unseen h (viewOf_readEntryBody _ _)
  | clearTable hd => exact request_next_unseen h (unlessRefused_unseen fun u => rfl)
  | readCueLog hd start => exact request_next_unseen h (viewOf_readCueLogBody _)
  | clearCueLog hd => exact request_next_unseen h fun u => rfl
  | chase hd index => exact request_next_agrees h fun u hu => unlessRefused_agrees (runChase_agrees _ _ hu) hu
  | timerStart hd period => exact request_next_unseen h (unlessRefused_unseen fun u => viewOf_startTimer u _)
  | timerStop hd => exact request_next_unseen h viewOf_stopTimer
  | hold hd => exact request_next_agrees h fun u => takeHold_agrees
  | continueShow hd => exact request_next_agrees h fun u => continueHold_agrees
  | setTraceMode hd mode trigger post => exact request_next_unseen h (viewOf_setTraceModeBody _ _ _)
  | readTrace hd k => exact request_next_unseen h (viewOf_readTraceBody _)
  | protect hd item => exact request_next_unseen h (viewOf_protectBody _)
  | unprotect hd => exact request_next_unseen h (unlessRefused_unseen fun u => rfl)
  | lock hd state => exact request_next_unseen h (viewOf_lockBody _)
  | trayCodeChange code => exact thermal_next_agrees h (trayCodeChanges_agrees _)
  | indexPulse mark => exact thermal_next_agrees h (indexPulseEvent_agrees _)
  | cycleStart => exact thermal_next_agrees h startReady_agrees
  | shutterCloseDone => exact thermal_next_agrees h shutterCloses_agrees
  | liftDone => exact thermal_next_agrees h liftReported_agrees
  | liftTimeout => exact next_agrees h (liftExpires_agrees (.refl _))
  | rotateStallTimeout => exact next_agrees h (stallExpires_agrees (.refl _))
  | dropPathReport => exact next_agrees h (dropReported_agrees (.refl _))
  | dropTimeout => exact thermal_next_agrees h dropExpires_agrees
  | seatReport => exact next_agrees h (seatReported_agrees (.refl _))
  | seatTimeout => exact next_agrees h (seatExpires_agrees (.refl _))
  | settleDone => exact thermal_next_agrees h settleEnds_agrees
  | preheatEnd => exact thermal_next_agrees h lampLights_agrees
  | fadeStep current => exact thermal_next_agrees h (fadeStepEvent_agrees _)
  | swapTravelEnd => exact thermal_next_agrees h swapEnds_agrees
  | heatUpdate reading => exact next_sound h (heatUpdated_sound _ _)
  | fanStallTimeout => exact thermal_next_sound h (fanStalls_sound _)
  | fanTachPulse => exact thermal_next_sound h (fanTach_sound _)
  | tcoLineChange opened => exact next_sound h (tcoChanges_sound _ _)
  | cassetteChange present =>
    exact thermal_next_agrees h fun g => by
      split
      · exact insertCassette_agrees g
      · exact removeCassette_agrees g
  | brakeEnd => exact thermal_next_agrees h brakeEnds_agrees
  | reelTachPulse => exact thermal_next_agrees h reelPulse_agrees
  | leaderChange present => exact thermal_next_agrees h (leaderChanges_agrees _)
  | tapeStallTimeout => exact thermal_next_agrees h tapeStalls_agrees
  | endFadeStep => exact thermal_next_agrees h endFadeAdvance_agrees
  | analysisFrame l1 l2 l3 => exact thermal_next_agrees h (analyse_agrees _ _ _)
  | relayOutFrameSent => exact next_unseen h (by simp)
  | relayOutGapEnd => exact next_unseen h (by simp)
  | relayInFrame bits => exact thermal_next_agrees h (relayFrameTaken_agrees _)
  | relayInTimingError => exact next_unseen h (by simp)
  | relayConflictTimeout => exact next_unseen h (by simp)
  | autoAdvanceExpiry => exact thermal_next_agrees h timerExpires_agrees
  | serviceLineChange asserted => exact next_unseen h rfl
  | irFrame bits => exact thermal_next_agrees h (irFrameTaken_agrees _)
  | irReleaseTimeout => exact thermal_next_agrees h (release_agrees _)
  | ladderBandChange band =>
    exact thermal_next_agrees h fun g => by
      split
      · exact g
      · exact bandChanges_agrees _ g
  | keyRepeat remote => exact thermal_next_agrees h (repeatKey_agrees _)
  | entryWindowExpiry => exact thermal_next_agrees h entryExpires_agrees
  | powerHoldTimeout => exact thermal_next_agrees h powerHeldOn_agrees
  | focusFast => exact next_unseen h (by simp)
  | focusLimit dir asserted => exact next_unseen h (by simp)
  | nudgeEnd => exact next_unseen h (by simp)
  | syncByte => exact next_unseen h (by split <;> simp)
  | lengthByteAbove60 => exact next_unseen h (by split <;> simp)
  | replyReady place =>
    exact next_unseen h (viewOf_pump s { s.link with replies := s.link.replies.modify place markReady } rfl)
  | irLeader => exact next_unseen h (by simp)
  | irTimingError leaderMark => exact next_unseen h (by simp)
  | relayInStartPulse => exact next_unseen h (by simp)
  | ladderSample sample => exact thermal_next_agrees h (ladderSampled_agrees _)

/-- A step does: the command at the front of the queue, or a millisecond, which the laws do not see. -/
theorem step_sound {t : State} (h : step s = .next t) : Sound (viewOf s) (viewOf t) := by
  unfold step at h
  split at h
  · next c rest _ => exact exec_sound (s := { s with pending := rest }) c h
  · exact next_unseen h (viewOf_tick s)

end Sys2Proof.Machine

namespace Sys2Proof.Proofs

open Sys2Proof.Machine

/-- Settles O51: each operation keeps each part of the agreement that stood, the events of H, the faults and the resets
settle the parts they break, and so every command and the millisecond keep both laws (`step_sound`). -/
theorem everyStepKeepsLampAndHeatInAgreement : Obligations.EveryStepKeepsLampAndHeatInAgreement := by
  intro s t hstep
  have sound := step_sound hstep
  simp only [lampLaw_iff, thermalLaw_iff]
  exact ⟨sound.lamp, sound.heat⟩

end Sys2Proof.Proofs
end

section
/-! ## A fade from its start to its end (R50) -/

namespace Sys2Proof.Machine

variable {f : Fade} {k n : Nat}

/-- A rising fade has come `(b - a) k / n` up. -/
theorem fade_travel_rising (h : f.a ≤ f.b) (k : Nat) :
    Int.tdiv (((f.b : Int) - f.a) * k) f.n = ((f.b - f.a) * k / f.n : Nat) := by
  have way : ((f.b : Int) - f.a) * k = ((f.b - f.a) * k : Nat) := by push_cast [h]; rfl
  rw [way]
  exact Int.ofNat_tdiv ..

/-- A falling fade has come `(a - b) k / n` down. -/
theorem fade_travel_falling (h : f.b ≤ f.a) (k : Nat) :
    Int.tdiv (((f.b : Int) - f.a) * k) f.n = -((f.a - f.b) * k / f.n : Nat) := by
  have way : ((f.b : Int) - f.a) * k = -(((f.a - f.b) * k : Nat) : Int) := by push_cast [h]; ring
  rw [way, Int.neg_tdiv]
  exact congrArg _ (Int.ofNat_tdiv ..)

theorem fadeLevel_rising (h : f.a ≤ f.b) (k : Nat) : fadeLevel f k = f.a + (f.b - f.a) * k / f.n := by
  rw [fadeLevel, fade_travel_rising h]
  exact Int.toNat_natCast _

theorem fadeLevel_falling (h : f.b ≤ f.a) (k : Nat) : fadeLevel f k = f.a - (f.a - f.b) * k / f.n := by
  rw [fadeLevel, fade_travel_falling h]
  exact Int.toNat_sub ..

/-- Within its n steps a fade covers no more than its way. -/
theorem fade_way_le (hk : k ≤ n) (d : Nat) : d * k / n ≤ d :=
  Nat.div_le_of_le_mul (by rw [Nat.mul_comm n]; exact Nat.mul_le_mul_left d hk)

/-- A fade's way grows with its steps. -/
theorem fade_way_mono (d k n : Nat) : d * k / n ≤ d * (k + 1) / n :=
  Nat.div_le_div_right (Nat.mul_le_mul_left d k.le_succ)

end Sys2Proof.Machine

namespace Sys2Proof.Proofs

open Sys2Proof.Machine

/-- Settles O28: in natural numbers a fade goes `|b - a| k / n` up or down from its start, which grows with k to
`|b - a|`. -/
theorem fadeRunsFromStartToEnd : Obligations.FadeRunsFromStartToEnd := by
  intro f k hn hk
  have none (d : Nat) : d * 0 / f.n = 0 := by simp
  have whole (d : Nat) : d * f.n / f.n = d := Nat.mul_div_cancel d hn
  rcases Nat.le_total f.a f.b with h | h
  · have way := fade_way_le hk (f.b - f.a)
    have way_next := fun hlt : k < f.n => fade_way_le hlt (f.b - f.a)
    have grows := fade_way_mono (f.b - f.a) k f.n
    simp only [fadeLevel_rising h, fade_travel_rising h, none, whole]
    generalize (f.b - f.a) * k / f.n = now at way grows ⊢
    generalize (f.b - f.a) * (k + 1) / f.n = next at way_next grows ⊢
    omega
  · have way := fade_way_le hk (f.a - f.b)
    have way_next := fun hlt : k < f.n => fade_way_le hlt (f.a - f.b)
    have grows := fade_way_mono (f.a - f.b) k f.n
    simp only [fadeLevel_falling h, fade_travel_falling h, none, whole]
    generalize (f.a - f.b) * k / f.n = now at way grows ⊢
    generalize (f.a - f.b) * (k + 1) / f.n = next at way_next grows ⊢
    omega

end Sys2Proof.Proofs
end

section
/-! ## What reports and D's recomputation do to a state

A notice, a record and a THERMAL report reach the link and the trace alone, and of the link they leave more than the faults: the
newest reply stays the newest until its own payload is ready, and no pending flag is cleared. -/

namespace Sys2Proof.Machine

variable {k l m : Link} {s u w : State}

/-- What reports make of a link: faults, mask and clock stand, no flag is cleared, and the newest reply, not yet ready, stays. -/
structure Reported (k l : Link) : Prop where
  faults : l.faults = k.faults
  mask : l.mask = k.mask
  clock : l.clock = k.clock
  flags : ∀ b, k.flags.getLsbD b = true → l.flags.getLsbD b = true
  newest : ∀ r, k.replies.getLast? = some r → r.ready = false → l.replies.getLast? = some r

theorem Reported.refl (l : Link) : Reported l l := ⟨rfl, rfl, rfl, fun _ => id, fun _ h _ => h⟩

theorem Reported.trans (h : Reported k l) (g : Reported l m) : Reported k m where
  faults := g.faults.trans h.faults
  mask := g.mask.trans h.mask
  clock := g.clock.trans h.clock
  flags b := g.flags b ∘ h.flags b
  newest r hr hn := g.newest r (h.newest r hr hn) hn

/-- A free transmitter takes the oldest reply only when that is ready (R185). -/
theorem pump_newest {r : ReplyEntry} (h : l.replies.getLast? = some r) (hr : r.ready = false) :
    (pump l).replies.getLast? = some r := by
  unfold pump
  split
  · exact h
  · split
    · next oldest rest e =>
      split
      · next ready =>
        rw [e] at h
        cases rest with
        | nil =>
          obtain rfl : oldest = r := by simpa using h
          exact absurd ready (by simp [hr])
        | cons => simpa using h
      · exact h
    · split <;> exact h

theorem pump_reported (l : Link) : Reported l (pump l) := by
  obtain ⟨flags, mask, -, -, faults, clock, -⟩ := pump_keeps l
  exact ⟨faults, mask, clock, fun b h => flags ▸ h, fun r => pump_newest⟩

theorem giveLink_reported (n : Notice) (l : Link) : Reported l (giveLink n l) := by
  have flagged (ns : List Notice) (b : Bool) :
      Reported l { l with flags := l.flags ||| noticeMask n, notices := ns, noticesLost := b } :=
    ⟨rfl, rfl, rfl, fun b h => by simp [h], fun r h _ => h⟩
  unfold giveLink queueNotice
  dsimp only
  split
  · split
    · exact (flagged _ _).trans (pump_reported _)
    · exact flagged _ _
  · exact flagged _ _

/-- `u` is `w` but for the trace and the link, and the link is `l` after reports. -/
def Reports (l : Link) (w u : State) : Prop := ∃ m t, u = { w with link := m, trace := t } ∧ Reported l m

theorem Reports.refl (s : State) : Reports s.link s s := ⟨_, _, rfl, .refl _⟩

theorem Reports.trans (h : Reports l w s) (g : Reports s.link s u) : Reports l w u := by
  obtain ⟨m, t, rfl, hm⟩ := h
  obtain ⟨m', t', rfl, hm'⟩ := g
  exact ⟨m', t', rfl, hm.trans hm'⟩

theorem give_reports (n : Notice) (s : State) : Reports s.link s (give n s) := ⟨_, _, rfl, giveLink_reported _ _⟩

theorem settleWatermark_reports (s : State) : Reports s.link s (settleWatermark s) := by
  unfold settleWatermark
  dsimp only
  split
  · exact ⟨_, _, rfl, giveLink_reported _ _⟩
  · exact ⟨_, _, rfl, .refl _⟩

theorem countPost_reports (s : State) : Reports s.link s (countPost s) := by
  unfold countPost
  dsimp only
  split
  · exact ⟨_, _, rfl, giveLink_reported _ _⟩
  · exact ⟨_, _, rfl, .refl _⟩

theorem offer_reports (b : TraceBody) (s : State) : Reports s.link s (offer b s) := by
  have kept (t : Trace) : Reports s.link s (settleWatermark { s with trace := t }) :=
    Reports.trans ⟨s.link, t, rfl, .refl _⟩ (settleWatermark_reports _)
  unfold offer
  dsimp only
  split
  · exact .refl s
  · exact kept _
  · exact .refl s
  · exact (kept _).trans (countPost_reports _)
  · exact .refl s
  · exact kept _

theorem Reports.give (h : Reports l w s) (n : Notice) : Reports l w (give n s) := h.trans (give_reports n s)

theorem Reports.offer (h : Reports l w s) (b : TraceBody) : Reports l w (offer b s) := h.trans (offer_reports b s)

theorem Reports.report (h : Reports l w s) (n : Notice) (b : TraceBody) : Reports l w (report n b s) := (h.give n).offer b

theorem Reports.reportLamp (h : Reports l w s) (c : Reason) : Reports l w (reportLamp c s) := h.report _ _

theorem Reports.settleThermal (h : Reports l w s) (key : FanLevel × Zone × Bool) : Reports l w (settleThermal key s) := by
  unfold Machine.settleThermal
  split
  · exact h
  · exact h.report _ _

/-- A report sets the flag of its notice's kind (R190). -/
theorem report_flag {n : Notice} {i : Nat} (hi : noticeBit n = i) (hl : i < 24) (b : TraceBody) (s : State) :
    (report n b s).link.flags.getLsbD i = true := by
  obtain ⟨m, t, h, hm⟩ := offer_reports b (Machine.give n s)
  have flags := give_flags hi s
  rw [report, h]
  exact hm.flags i (by simp [flags, hl])

/-- Events whose effect and THERMAL report leave `w`, but for link and trace. -/
theorem Reports.next {f : State → State} (h : Reports l w (f s)) :
    ∃ m t, (.next (withThermal f s) : Result) = .next { w with link := m, trace := t } ∧ Reported l m := by
  obtain ⟨m, t, e, hm⟩ := h.settleThermal (thermalKey s)
  exact ⟨m, t, next_congr e, hm⟩

/-! ### Requests that report -/

/-- A served request whose body leaves `w` but for reports: its reply is the newest, and the faults, the mask and the clock
stand. -/
theorem request_reports {k : Byte} {n : Nat} {h : Hdr} {body : State → Answer × State} {a : Answer} (hs : servable s)
    (hl : h.len.toNat = n) (hb : body (takePlace (k + 0x80) h.tag s) = (a, u))
    (hu : Reports (takePlace (k + 0x80) h.tag s).link w u) :
    ∃ l t, request k n h body s = { w with link := l, trace := t }
      ∧ l.replies.getLast? = some { kind := k + 0x80, tag := h.tag, payload := answerPayload a, ready := false }
      ∧ l.faults = s.link.faults ∧ l.mask = s.link.mask ∧ l.clock = s.link.clock := by
  obtain ⟨m, t, rfl, hm⟩ := hu
  have place : m.replies.getLast? = some { kind := k + 0x80, tag := h.tag, payload := [], ready := false } :=
    hm.newest _ (by simp [takePlace]) rfl
  have filled : fillReply (answerPayload a) { w with link := m, trace := t } = { w with
      link := { m with replies := m.replies.dropLast ++
        [{ kind := k + 0x80, tag := h.tag, payload := answerPayload a, ready := false }] }
      trace := t } := by simp [fillReply, place]
  obtain ⟨m', t', e, hm'⟩ := (Reports.refl (fillReply (answerPayload a) { w with link := m, trace := t })).settleThermal
    (thermalKey s)
  rw [filled] at e hm'
  refine ⟨m', t', ?_, hm'.newest _ (by simp) rfl, hm'.faults.trans hm.faults, hm'.mask.trans hm.mask,
    hm'.clock.trans hm.clock⟩
  rw [request_served k n h body s hs hl, hb, filled, e]

/-! ### D recomputed (R46) -/

/-- The lamp with D recomputed (R46, R58). -/
def driven (s : State) : Lamp :=
  { s.lamp with
    drive := driveOf s.lamp s.heat.ceiling
    openCount := if driveOf s.lamp s.heat.ceiling < 120 then 0 else s.lamp.openCount }

/-- A D that neither falls to 0 nor rises from it reaches the lamp alone. -/
theorem recomputeD_still (h : driveOf s.lamp s.heat.ceiling = 0 ↔ s.lamp.drive = 0) :
    recomputeD s = { s with lamp := driven s } := by
  unfold recomputeD
  dsimp only
  split
  · omega
  · split
    · omega
    · rfl

/-- A recomputation of D reaches the lamp and, through the cooldown record and the fan, the Heat Monitor (R70, R77). -/
theorem recomputeD_eq (s : State) : ∃ f t, recomputeD s = { s with
    lamp := driven s
    heat := { s.heat with
      cooling := s.heat.cooling || decide (0 < s.lamp.drive ∧ driveOf s.lamp s.heat.ceiling = 0)
      elapsed := if 0 < s.lamp.drive ∧ driveOf s.lamp s.heat.ceiling = 0 then 0 else s.heat.elapsed
      fan := f, stallTimer := t } } := by
  unfold recomputeD
  dsimp only
  split
  · next h =>
    rw [decide_eq_true h, Bool.or_true]
    exact ⟨_, _, rfl⟩
  · next h =>
    rw [decide_eq_false h, Bool.or_false]
    split
    · exact ⟨_, _, rfl⟩
    · exact ⟨_, _, rfl⟩

end Sys2Proof.Machine
end

section
/-! ## LAMP ON and LAMP OFF (R48, R49, R56, R77, R79) -/

namespace Sys2Proof.Machine

variable {l : Link} {s u w : State}

/-! ### The lamp's changes of state -/

/-- An effect that leaves no dark request waiting, by what it makes. -/
theorem withDarkTest_eq {f : State → State} (h : f s = u) (hd : u.lamp.darkWaiting = false) : withDarkTest f s = u :=
  (withDarkTest_idle f s (h ▸ hd)).trans h

/-- A pending sleep is not tested where none is pending. -/
theorem Reports.sleepTest (h : Reports l w u) (hp : w.heat.sleepPending = .clear) : Reports l w (sleepTest u) := by
  obtain ⟨m, t, rfl, hm⟩ := h
  rw [sleepTest_clear (by exact hp)]
  exact ⟨m, t, rfl, hm⟩

/-- D falls to 0, or stands there: from a D above 0 the cooldown record starts (R77). -/
theorem recomputeD_falls (h : driveOf s.lamp s.heat.ceiling = 0) : ∃ f t, recomputeD s = { s with
    lamp := { s.lamp with drive := 0, openCount := 0 }
    heat := { s.heat with
      cooling := s.heat.cooling || decide (0 < s.lamp.drive)
      elapsed := if 0 < s.lamp.drive then 0 else s.heat.elapsed
      fan := f, stallTimer := t } } := by
  obtain ⟨f, t, e⟩ := recomputeD_eq s
  simp only [driven, h, and_true, Nat.zero_lt_succ, if_true] at e
  exact ⟨f, t, e⟩

/-- D rises from 0, or stands there: of the Heat Monitor the fan alone can follow (R70). -/
theorem recomputeD_rises (h : s.lamp.drive = 0) :
    ∃ f t, recomputeD s = { s with lamp := driven s, heat := { s.heat with fan := f, stallTimer := t } } := by
  obtain ⟨f, t, e⟩ := recomputeD_eq s
  simp only [h, Nat.lt_irrefl, false_and, decide_false, Bool.or_false, if_false] at e
  exact ⟨f, t, e⟩

/-- D stays 0. -/
theorem recomputeD_stays (h : s.lamp.drive = 0) (hd : driveOf s.lamp s.heat.ceiling = 0) :
    recomputeD s = { s with lamp.openCount := 0 } := by
  rw [recomputeD_still (by simp only [h, hd])]
  simp [driven, h, hd]

/-- The lamp leaves the light for OFF or FAILED (R56, R77). -/
theorem lampDark_eq {st : LampState} (h : st = .off ∨ st = .failed) (s : State) : ∃ f t, lampDark st s = { s with
    lamp := { s.lamp with
      state := st, ramp := 0, drive := 0, fade := none, swap := none, restriking := false, openCount := 0, window := none }
    heat := { s.heat with
      cooling := s.heat.cooling || decide (0 < s.lamp.drive)
      elapsed := if 0 < s.lamp.drive then 0 else s.heat.elapsed
      fan := f, stallTimer := t } } :=
  recomputeD_falls (s := { s with lamp := { s.lamp with
    state := st, fade := none, ramp := 0, swap := none, restriking := false, window := none } }) (by
      rcases h with rfl | rfl <;> rfl)

/-- The lamp goes OFF with its report, and no sleep is pending (R63, R83). -/
theorem lampGoesOff_reports (c : Reason) (hp : s.heat.sleepPending = .clear) :
    ∃ f t, Reports s.link { s with
      lamp := { s.lamp with
        state := .off, ramp := 0, drive := 0, fade := none, swap := none, restriking := false, openCount := 0, window := none }
      heat := { s.heat with
        cooling := s.heat.cooling || decide (0 < s.lamp.drive)
        elapsed := if 0 < s.lamp.drive then 0 else s.heat.elapsed
        fan := f, stallTimer := t } } (lampGoesOff c s) := by
  obtain ⟨f, t, e⟩ := lampDark_eq (.inl rfl) s
  refine ⟨f, t, ?_⟩
  rw [lampGoesOff, e]
  exact (Reports.reportLamp (.refl _) c).sleepTest hp

/-- A swap starts with D = 0 (R60, R61). -/
theorem startSwap_reports (c : Reason) (w : Swap) (h : s.lamp.drive = 0) : Reports s.link { s with
    lamp := { s.lamp with
      state := .swapping, ramp := 0, fade := none, restriking := false, openCount := 0, window := some 0, swap := some w } }
    (startSwap c w s) := by
  have still := recomputeD_stays (s := { s with lamp := { s.lamp with
    state := .swapping, fade := none, ramp := 0, restriking := false, swap := some w, window := some 0 } }) h rfl
  rw [startSwap, still]
  exact .reportLamp (.refl _) c

theorem claimStands_eq (s : State) : claimStands s = !decide (s.changer.claim = .clear) := by
  unfold claimStands
  cases s.changer.claim <;> rfl

/-- The lamp at the entry to PREHEAT (R49). -/
def preheatLamp (dest : Level) (restrike : Bool) (s : State) : Lamp :=
  { s.lamp with
    state := .preheat, swap := none, fade := none, restriking := restrike
    ramp := if s.changer.claim = .clear then 120 else min 120 s.items.darkThreshold
    dest := if s.changer.claim = .clear then dest else .keepWarm
    destRamp := .strikeRamp, window := some 0 }

/-- From D = 0 the lamp enters PREHEAT, and a pending cooldown ends (R49, R79). -/
theorem enterPreheat_reports (c : Reason) (dest : Level) (b : Bool) (h : s.lamp.drive = 0) : ∃ f t, Reports s.link { s with
    lamp := driven { s with lamp := preheatLamp dest b s }
    heat := { s.heat with cooling := false, fan := f, stallTimer := t } } (enterPreheat c dest b s) := by
  obtain ⟨f, t, e⟩ := recomputeD_rises (s := { s with lamp := preheatLamp dest b s }) h
  have heated : preheated dest b s = recomputeD { s with lamp := preheatLamp dest b s } := by
    unfold preheated preheatLamp preheatDrive
    simp only [claimStands_eq]
    by_cases hc : s.changer.claim = .clear <;> simp [hc]
  rw [enterPreheat_eq, heated, e]
  split
  · exact ⟨_, _, .reportLamp (.refl _) c⟩
  · next hcool =>
    refine ⟨f, t, ?_⟩
    rw [← Bool.eq_false_iff.mpr hcool]
    exact .reportLamp (.refl _) c

end Sys2Proof.Machine
end

section
/-! ## LAMP ON and LAMP OFF as requests (R48, R56) -/

namespace Sys2Proof.Machine

variable {s : State}

/-! ### The checks of a strike, in their order (R48) -/

theorem tooHot_iff : tooHot s = true ↔ 17920 < s.heat.estimate ∨ hasFault .tcoOpen s = true := by simp [tooHot]

theorem tooHot_eq_false (hh : s.heat.estimate ≤ 17920) (ht : hasFault .tcoOpen s = false) : tooHot s = false := by
  simp [tooHot, ht, Nat.not_lt.mpr hh]

theorem strikeRefusal_notActive (h : s.heat.power ≠ .active) : strikeRefusal s = some .notActive := by
  simp [strikeRefusal, h]

section Active

variable (hp : s.heat.power = .active)
include hp

theorem strikeRefusal_tooHot (h : tooHot s = true) : strikeRefusal s = some .tooHot := by simp [strikeRefusal, hp, h]

variable (hh : tooHot s = false)
include hh

theorem strikeRefusal_busy (h : s.lamp.state = .swapping ∨ powerDownRuns s.lamp = true) : strikeRefusal s = some .busy := by
  simp [strikeRefusal, hp, hh, h]

variable (hf : powerDownRuns s.lamp = false)
include hf

/-- In PREHEAT and LIT a strike is accepted and has no effect. -/
theorem strike_burning (c : Reason) (h : s.lamp.state = .preheat ∨ s.lamp.state = .lit) : strike c s = (none, s) := by
  have accepted : strikeRefusal s = none := by rcases h with h | h <;> simp [strikeRefusal, hp, hh, hf, h]
  simp [strike, accepted, makeStrike, h]

variable (hs : s.lamp.state = .off ∨ s.lamp.state = .failed)
include hs

theorem strikeRefusal_dark : strikeRefusal s =
    if hasFault .lampOpen s then some .faultActive
    else if lampRec s.lamp s.lamp.active = .failed
        ∧ (lampRec s.lamp (otherPos s.lamp.active) = .failed ∨ ¬ s.items.lampAutoChange) then some .noLamp
    else none := by
  rcases hs with h | h <;> simp [strikeRefusal, hp, hh, hf, h]

variable (ho : hasFault .lampOpen s = false)
include ho

/-- With the active record FAILED and the other not, an accepted strike is a swap (R48). -/
theorem strike_swaps (c : Reason) (hr : lampRec s.lamp s.lamp.active = .failed)
    (hother : lampRec s.lamp (otherPos s.lamp.active) ≠ .failed) (hauto : s.items.lampAutoChange = true) :
    strike c s = (none, startSwap c
      { newPos := otherPos s.lamp.active, auto := true, tag := none, restrike := true, resume := .value s.lamp.preset }
      { s with lamp.show_ := s.lamp.preset }) := by
  have accepted : strikeRefusal s = none := by simp [strikeRefusal_dark hp hh hf hs, ho, hother, hauto]
  rcases hs with h | h <;> simp [strike, accepted, makeStrike, h, hr]

/-- With the active record not FAILED it is the entry to PREHEAT (R48, R49). -/
theorem strike_preheats (c : Reason) (hr : lampRec s.lamp s.lamp.active ≠ .failed) :
    strike c s = (none, enterPreheat c (.value s.lamp.preset) false { s with lamp.show_ := s.lamp.preset }) := by
  have accepted : strikeRefusal s = none := by simp [strikeRefusal_dark hp hh hf hs, ho, hr]
  rcases hs with h | h <;> simp [strike, accepted, makeStrike, h, hr]

end Active

theorem lampOnBody_refused {r : Reason} (h : strikeRefusal s = some r) : lampOnBody s = (.refused r, s) := by
  simp [lampOnBody, strike, h, answerOf]

theorem lampOnBody_taken {u : State} (h : strike .request s = (none, u)) : lampOnBody s = (.done [], u) := by
  simp [lampOnBody, h, answerOf]

/-! ### LAMP OFF -/

theorem doneBy_eq {f : State → State} {u : State} (h : f s = u) : doneBy f s = (.done [], u) := congrArg (Prod.mk _) h

theorem lampOffNow_dark (c : Reason) (h : s.lamp.state = .off ∨ s.lamp.state = .failed) : lampOffNow c s = s := by
  rcases h with h | h <;> simp [lampOffNow, h]

theorem lampOffNow_burning (c : Reason) (h : s.lamp.state = .preheat ∨ s.lamp.state = .lit) :
    lampOffNow c s = lampGoesOff c s := by
  rcases h with h | h <;> simp [lampOffNow, h]

theorem lampOffNow_swapping (c : Reason) {w : Swap} (h : s.lamp.state = .swapping) (hw : s.lamp.swap = some w) :
    lampOffNow c s = { s with lamp.swap := some { w with restrike := false } } := by
  simp [lampOffNow, h, cancelRestrike, hw]

end Sys2Proof.Machine

namespace Sys2Proof.Proofs

open Sys2Proof.Machine

variable {h : Hdr} {s : State}

section

variable (hs : servable s) (hl : h.len = 0)
include hs hl

/-- A LAMP ON refused by a check of R48 changes nothing. -/
theorem lampOn_refused {r : Reason} (hr : strikeRefusal s = some r) :
    exec (.lampOn h) s = .next (replied 0xA0 h.tag [2, byte1 (reasonCode r)] s) :=
  next_congr (request_unchanged 0x20 0 h lampOnBody (.refused r) s hs (by simp [hl]) (lampOnBody_refused hr))

/-- A LAMP OFF whose effect is one write. -/
theorem lampOff_writes (f : State → State) (hlink : ∀ u l, f { u with link := l } = { f u with link := l })
    (hheat : ∀ u, (f u).heat = u.heat)
    (hf : withDarkTest (lampOffNow .request) (takePlace 0xA1 h.tag s) = f (takePlace 0xA1 h.tag s)) :
    exec (.lampOff h) s = .next (f (replied 0xA1 h.tag [0] s)) :=
  next_congr (request_writes s 0x21 0 h _ (.done []) f hs (by simp [hl]) hlink (fun u => by simp [thermalKey, hheat])
    (doneBy_eq hf))

variable (hp : s.heat.power = .active) (hh : tooHot s = false) (hf : powerDownRuns s.lamp = false)
  (ho : hasFault .lampOpen s = false) (hd : s.lamp.state = .off ∨ s.lamp.state = .failed) (hz : s.lamp.drive = 0)
include hp hh hf ho hd hz

/-- A LAMP ON that starts a swap. -/
theorem lampOn_swaps (hr : lampRec s.lamp s.lamp.active = .failed) (hother : lampRec s.lamp (otherPos s.lamp.active) ≠ .failed)
    (hauto : s.items.lampAutoChange = true) :
    ∃ l t, exec (.lampOn h) s = .next { s with
        link := l, trace := t
        lamp := { s.lamp with
          state := .swapping, show_ := s.lamp.preset, ramp := 0, fade := none, restriking := false, openCount := 0
          window := some 0
          swap := some { newPos := otherPos s.lamp.active, auto := true, tag := none, restrike := true
                         resume := .value s.lamp.preset } } }
      ∧ l.replies.getLast? = some { kind := 0xA0, tag := h.tag, payload := [0], ready := false } := by
  have struck := strike_swaps (s := takePlace 0xA0 h.tag s) hp hh hf hd ho .request hr hother hauto
  obtain ⟨l, t, e, reply, -⟩ := request_reports (k := 0x20) (n := 0) hs (by simp [hl]) (lampOnBody_taken struck)
    (startSwap_reports (s := { takePlace 0xA0 h.tag s with lamp.show_ := s.lamp.preset }) .request _ hz)
  exact ⟨l, t, next_congr e, reply⟩

/-- A LAMP ON that enters PREHEAT. -/
theorem lampOn_preheats (hr : lampRec s.lamp s.lamp.active ≠ .failed) :
    ∃ l t f m, exec (.lampOn h) s = .next { s with
        link := l, trace := t
        lamp := driven { s with lamp := preheatLamp (.value s.lamp.preset) false { s with lamp.show_ := s.lamp.preset } }
        heat := { s.heat with cooling := false, fan := f, stallTimer := m } }
      ∧ l.replies.getLast? = some { kind := 0xA0, tag := h.tag, payload := [0], ready := false }
      ∧ l.faults = s.link.faults ∧ l.mask = s.link.mask ∧ l.clock = s.link.clock := by
  have struck := strike_preheats (s := takePlace 0xA0 h.tag s) hp hh hf hd ho .request hr
  obtain ⟨f, m, entered⟩ := enterPreheat_reports (s := { takePlace 0xA0 h.tag s with lamp.show_ := s.lamp.preset }) .request
    (.value s.lamp.preset) false hz
  obtain ⟨l, t, e, reply, faults⟩ := request_reports (k := 0x20) (n := 0) hs (by simp [hl]) (lampOnBody_taken struck) entered
  exact ⟨l, t, f, m, next_congr e, reply, faults⟩

end

/-- A LAMP OFF to a burning lamp. -/
theorem lampOff_darkens (hs : servable s) (hl : h.len = 0) (hdark : s.lamp.darkWaiting = false)
    (hp : s.heat.sleepPending = .clear) (hb : s.lamp.state = .preheat ∨ s.lamp.state = .lit) :
    ∃ l t f m, exec (.lampOff h) s = .next { s with
        link := l, trace := t
        lamp := { s.lamp with
          state := .off, ramp := 0, drive := 0, fade := none, swap := none, restriking := false, openCount := 0
          window := none }
        heat := { s.heat with
          cooling := s.heat.cooling || decide (0 < s.lamp.drive)
          elapsed := if 0 < s.lamp.drive then 0 else s.heat.elapsed
          fan := f, stallTimer := m } }
      ∧ l.replies.getLast? = some { kind := 0xA1, tag := h.tag, payload := [0], ready := false }
      ∧ l.faults = s.link.faults ∧ l.mask = s.link.mask ∧ l.clock = s.link.clock := by
  obtain ⟨f, m, dark⟩ := lampGoesOff_reports (s := takePlace 0xA1 h.tag s) .request hp
  have tested : withDarkTest (lampOffNow .request) (takePlace 0xA1 h.tag s) = lampGoesOff .request (takePlace 0xA1 h.tag s) := by
    refine withDarkTest_eq (lampOffNow_burning .request (by exact hb)) ?_
    obtain ⟨_, _, e, -⟩ := dark
    rw [e]
    exact hdark
  obtain ⟨l, t, e, reply, faults⟩ := request_reports (k := 0x21) (n := 0)
    hs (by simp [hl]) (doneBy_eq tested) dark
  exact ⟨l, t, f, m, next_congr e, reply, faults⟩

/-- Settles O26: the checks of a strike in their order (`strikeRefusal_dark` and the lemmas before it), and what an accepted
strike and LAMP OFF make of the lamp, behind a reply that the reports leave the newest (`request_reports`). -/
theorem lampOnAndOff : Obligations.LampOnAndOff := by
  refine ⟨fun h s hs hl => ⟨fun hp => lampOn_refused hs hl (strikeRefusal_notActive (by simp [hp])), fun hp =>
    ⟨fun hhot => lampOn_refused hs hl (strikeRefusal_tooHot hp (tooHot_iff.mpr hhot)), fun hh ht => ?_⟩⟩,
    fun h s hs hl hdark hp => ⟨fun hd => ?_, fun w hw hsw => ?_, fun hb => ?_⟩⟩
  · have cool := tooHot_eq_false hh ht
    refine ⟨fun hb => lampOn_refused hs hl (strikeRefusal_busy hp cool hb), fun hf => ⟨fun hb => ?_, fun hd =>
      ⟨fun ho => lampOn_refused (r := .faultActive) hs hl (by simp [strikeRefusal_dark hp cool hf hd, ho]),
        fun ho hr hnone => lampOn_refused (r := .noLamp) hs hl ?_, fun ho hz => ⟨lampOn_swaps hs hl hp cool hf ho hd hz, fun hr => ?_⟩⟩⟩⟩
    · exact next_congr (request_unchanged 0x20 0 h lampOnBody (.done []) s hs (by simp [hl])
        (lampOnBody_taken (strike_burning (s := takePlace 0xA0 h.tag s) hp cool hf .request hb)))
    · rcases hnone with hnone | hnone <;> simp [strikeRefusal_dark hp cool hf hd, ho, hr, hnone]
    · obtain ⟨l, t, f, m, e, reply, faults⟩ := lampOn_preheats hs hl hp cool hf ho hd hz hr
      exact ⟨_, e, reply, rfl, rfl, rfl, rfl, ⟨rfl, rfl, rfl, rfl⟩, ⟨rfl, rfl, rfl, rfl, rfl⟩, faults⟩
  · exact lampOff_writes hs hl id (fun _ _ => rfl) (fun _ => rfl)
      (withDarkTest_eq (lampOffNow_dark .request (by exact hd)) hdark)
  · exact lampOff_writes hs hl (fun u => { u with lamp := { s.lamp with swap := some { w with restrike := false } } })
      (fun _ _ => rfl) (fun _ => rfl)
      (withDarkTest_eq (lampOffNow_swapping (s := takePlace 0xA1 h.tag s) .request hw hsw) hdark)
  · obtain ⟨l, t, f, m, e, reply, faults⟩ := lampOff_darkens hs hl hdark hp hb
    exact ⟨_, e, reply, rfl, rfl, rfl, rfl, ⟨rfl, rfl, rfl, rfl⟩, ⟨rfl, rfl, rfl, rfl, rfl⟩, faults⟩

end Sys2Proof.Proofs
end

section
/-! ## FADE, SELECT LAMP and MARK LAMP GOOD (R47, R52, R61) -/

namespace Sys2Proof.Machine

variable {s : State} {level n : Nat}

/-! ### FADE by lamp state (R52) -/

theorem badFade_eq_none (hl : level ≤ 1000) (hn : n ≤ 6000) (s : State) : badFade level n s = none :=
  if_neg (by omega)

theorem badFade_eq_badArg (h : 1000 < level ∨ 6000 < n) (s : State) : badFade level n s = some .badArg := if_pos h

theorem takeFade_dark (h : s.lamp.state = .off ∨ s.lamp.state = .failed) :
    takeFade level n s = { s with lamp.show_ := level, lamp.preset := level } := by
  rcases h with h | h <;> simp [takeFade, h]

theorem takeFade_swapping {w : Swap} (h : s.lamp.state = .swapping) (hw : s.lamp.swap = some w) :
    takeFade level n s = { s with
      lamp.show_ := level, lamp.preset := level, lamp.swap := some { w with resume := .value level } } := by
  simp [takeFade, h, setResume, hw]

theorem takeFade_powerDown (h : s.lamp.state = .lit) (hf : powerDownRuns s.lamp = true) :
    takeFade level n s = { s with lamp.show_ := level, lamp.preset := level } := by
  simp [takeFade, h, hf]

/-- Under the dark claim a FADE sets S alone. -/
theorem takeFade_claimed (h : s.lamp.state = .lit ∨ s.lamp.state = .preheat) (hf : powerDownRuns s.lamp = false)
    (hc : s.changer.claim ≠ .clear) : takeFade level n s = { s with lamp.show_ := level } := by
  have claimed : claimStands s = true := by simp [claimStands_eq, hc]
  rcases h with h | h <;> simp [takeFade, h, hf, claimed]

theorem takeFade_preheat (h : s.lamp.state = .preheat) (hc : s.changer.claim = .clear) : takeFade level n s =
    { s with lamp.show_ := level, lamp.dest := .value level, lamp.destRamp := .strikeRamp } := by
  have free : claimStands s = false := by simp [claimStands_eq, hc]
  simp [takeFade, h, free]

/-- A FADE to a burning lamp starts the fade. -/
theorem takeFade_lit (h : s.lamp.state = .lit) (hf : powerDownRuns s.lamp = false) (hc : s.changer.claim = .clear) :
    takeFade level n s = startFade .show_ level n { s with lamp.show_ := level } := by
  have free : claimStands s = false := by simp [claimStands_eq, hc]
  simp [takeFade, h, hf, free]

/-- A fade other than the strike fade starts from R and ends a re-strike (R50, R60). -/
theorem startFade_steps {k : FadeKind} (hk : k ≠ .strike) (h0 : n ≠ 0) (b : Nat) (s : State) : startFade k b n s =
    { s with lamp.fade := some { kind := k, a := s.lamp.ramp, b := b, n := n, k := 0 }, lamp.restriking := false } := by
  have other : (k == .strike) = false := by cases k <;> trivial
  simp [startFade, h0, other]

/-- A fade with no steps sets R at once (R50). -/
theorem startFade_zero (k : FadeKind) (b : Nat) (s : State) : ∃ h, startFade k b 0 s = { s with
    lamp := driven { s with lamp := { s.lamp with ramp := b, fade := none, restriking := false } }, heat := h } := by
  obtain ⟨f, t, e⟩ := recomputeD_eq { s with lamp := { s.lamp with ramp := b, fade := none, restriking := false } }
  exact ⟨_, e⟩

/-! ### SELECT LAMP and MARK LAMP (R47, R61) -/

theorem lampPosArg_eq_none {p : Nat} (h : 1 < p) : lampPosArg p = none := by
  simp only [lampPosArg]
  split <;> simp at h ⊢

/-- The lamp positions are coded 0 and 1 (R47). -/
theorem lampPosArg_of_le {p : Nat} (h : p ≤ 1) : ∃ q, lampPosArg p = some q := by
  obtain rfl | rfl : p = 0 ∨ p = 1 := by omega
  · exact ⟨.a, rfl⟩
  · exact ⟨.b, rfl⟩

theorem lampPosArg_of_code {p : LampPos} {pos : Byte} (h : p = .a ∧ pos = 0 ∨ p = .b ∧ pos = 1) :
    lampPosArg pos.toNat = some p := by
  rcases h with ⟨rfl, rfl⟩ | ⟨rfl, rfl⟩ <;> rfl

variable {pos cond tag : Byte} {p : LampPos}

theorem selectLampBody_badArg (h : 1 < pos.toNat) : selectLampBody pos tag s = (.refused .badArg, s) := by
  simp [selectLampBody, lampPosArg_eq_none h]

theorem selectLampBody_busy (hp : pos.toNat ≤ 1)
    (h : s.lamp.state = .preheat ∨ s.lamp.state = .lit ∨ s.lamp.state = .swapping) :
    selectLampBody pos tag s = (.refused .busy, s) := by
  obtain ⟨q, hq⟩ := lampPosArg_of_le hp
  simp [selectLampBody, hq, h]

/-- SELECT LAMP with the lamp dark (R61). -/
theorem selectLampBody_dark (hp : lampPosArg pos.toNat = some p) (h : s.lamp.state = .off ∨ s.lamp.state = .failed) :
    selectLampBody pos tag s =
      if lampRec s.lamp p = .failed then (.refused .noLamp, s)
      else if s.lamp.active = p then (.done [], s)
      else (.accepted [], startSwap .request
        { newPos := p, auto := false, tag := some tag, restrike := false, resume := .value 0 } s) := by
  rcases h with h | h <;> simp [selectLampBody, hp, h]

theorem markLampBody_badArg (h : 1 < pos.toNat ∨ cond ≠ 1) : markLampBody pos cond s = (.refused .badArg, s) := by
  unfold markLampBody
  split
  · next q hq hc =>
    rcases h with h | h
    · simp [lampPosArg_eq_none h] at hq
    · refine absurd ?_ h
      have good : cond.toNat = 1 := by
        unfold lampCondArg at hc
        split at hc <;> simp_all
      bv_omega
  · rfl

theorem markLampBody_busy (hp : pos.toNat ≤ 1) (hc : cond = 1)
    (h : s.lamp.state = .preheat ∨ s.lamp.state = .lit ∨ s.lamp.state = .swapping) :
    markLampBody pos cond s = (.refused .busy, s) := by
  obtain ⟨q, hq⟩ := lampPosArg_of_le hp
  subst hc
  rcases h with h | h | h <;> simp [markLampBody, hq, lampCondArg, h]

theorem markLampBody_done (hp : lampPosArg pos.toNat = some p) (hc : cond = 1)
    (h : s.lamp.state = .off ∨ s.lamp.state = .failed) :
    markLampBody pos cond s = (.done [], { s with lamp := setLampRec p .good s.lamp }) := by
  subst hc
  rcases h with h | h <;> simp [markLampBody, hp, lampCondArg, h]

end Sys2Proof.Machine

namespace Sys2Proof.Proofs

open Sys2Proof.Machine

variable {h : Hdr} {level duration : BitVec 16} {pos cond : Byte} {s : State}

/-- The body of a FADE in range. -/
theorem fade_body {u : State} (hlevel : level.toNat ≤ 1000) (hn : duration.toNat ≤ 6000)
    (hf : takeFade level.toNat duration.toNat s = u) (hu : u.lamp.darkWaiting = false) :
    unlessRefused (badFade level.toNat duration.toNat) (withDarkTest (takeFade level.toNat duration.toNat)) s
      = (.done [], u) :=
  (unlessRefused_none _ (badFade_eq_none hlevel hn _)).trans (congrArg (Prod.mk _) (withDarkTest_eq hf hu))

section

variable (hs : servable s)
include hs

theorem fade_refused (hl : h.len = 4) (hbad : 1000 < level.toNat ∨ 6000 < duration.toNat) :
    exec (.fade h level duration) s = .next (replied 0xA2 h.tag [2, 3] s) :=
  next_congr (request_unchanged 0x22 4 h _ (.refused .badArg) s hs (by simp [hl])
    (unlessRefused_some (takePlace 0xA2 h.tag s) (badFade_eq_badArg hbad _)))

/-- A FADE in range that makes one write of the lamp. -/
theorem fade_writes (hl : h.len = 4) (hlevel : level.toNat ≤ 1000) (hn : duration.toNat ≤ 6000) {g : Lamp}
    (hg : g.darkWaiting = false)
    (hf : takeFade level.toNat duration.toNat (takePlace 0xA2 h.tag s) = { takePlace 0xA2 h.tag s with lamp := g }) :
    exec (.fade h level duration) s = .next { replied 0xA2 h.tag [0] s with lamp := g } :=
  next_congr (request_writes s 0x22 4 h _ (.done []) (fun u => { u with lamp := g }) hs (by simp [hl]) (fun _ _ => rfl)
    (fun _ => rfl) (fade_body hlevel hn hf hg))

/-- A FADE to a burning lamp in no time. -/
theorem fade_at_once (hl : h.len = 4) (hdark : s.lamp.darkWaiting = false) (hlevel : level.toNat ≤ 1000)
    (hlit : s.lamp.state = .lit) (hf : powerDownRuns s.lamp = false) (hc : s.changer.claim = .clear) (h0 : duration = 0) :
    ∃ l t g, exec (.fade h level duration) s = .next { s with
        link := l, trace := t, heat := g
        lamp := driven { s with lamp := { s.lamp with
          show_ := level.toNat, ramp := level.toNat, fade := none, restriking := false } } }
      ∧ l.replies.getLast? = some { kind := 0xA2, tag := h.tag, payload := [0], ready := false }
      ∧ l.faults = s.link.faults ∧ l.mask = s.link.mask ∧ l.clock = s.link.clock := by
  subst h0
  obtain ⟨g, e⟩ := startFade_zero .show_ level.toNat { takePlace 0xA2 h.tag s with lamp.show_ := level.toNat }
  have faded := (takeFade_lit (s := takePlace 0xA2 h.tag s) (level := level.toNat) (n := 0) hlit hf hc).trans e
  obtain ⟨l, t, e, reply, faults⟩ := request_reports (k := 0x22) (n := 4) hs (by simp [hl])
    (fade_body (duration := 0) hlevel (by simp) faded hdark) (.refl _)
  exact ⟨l, t, g, next_congr e, reply, faults⟩

/-- A SELECT LAMP whose body leaves the state as it found it. -/
theorem selectLamp_unchanged (hl : h.len = 1) {a : Answer}
    (hb : selectLampBody pos h.tag (takePlace 0xA3 h.tag s) = (a, takePlace 0xA3 h.tag s)) :
    exec (.selectLamp h pos) s = .next (replied 0xA3 h.tag (answerPayload a) s) :=
  next_congr (request_unchanged 0x23 1 h _ a s hs (by simp [hl]) hb)

theorem markLamp_refused (hl : h.len = 2) {r : Reason}
    (hb : markLampBody pos cond (takePlace 0xA4 h.tag s) = (.refused r, takePlace 0xA4 h.tag s)) :
    exec (.markLamp h pos cond) s = .next (replied 0xA4 h.tag [2, byte1 (reasonCode r)] s) :=
  next_congr (request_unchanged 0x24 2 h _ (.refused r) s hs (by simp [hl]) hb)

theorem markLamp_done (hl : h.len = 2) {p : LampPos} (hp : lampPosArg pos.toNat = some p) (hc : cond = 1)
    (hd : s.lamp.state = .off ∨ s.lamp.state = .failed) :
    exec (.markLamp h pos cond) s = .next { replied 0xA4 h.tag [0] s with lamp := setLampRec p .good s.lamp } :=
  next_congr (request_writes s 0x24 2 h _ (.done []) (fun u => { u with lamp := setLampRec p .good s.lamp }) hs
    (by simp [hl]) (fun _ _ => rfl) (fun _ => rfl) (markLampBody_done (s := takePlace 0xA4 h.tag s) hp hc hd))

/-- A SELECT LAMP that starts the swap. -/
theorem selectLamp_swaps (hl : h.len = 1) {p : LampPos} (hp : lampPosArg pos.toNat = some p)
    (hd : s.lamp.state = .off ∨ s.lamp.state = .failed) (hr : lampRec s.lamp p ≠ .failed) (ha : s.lamp.active ≠ p)
    (hz : s.lamp.drive = 0) :
    ∃ l t, exec (.selectLamp h pos) s = .next { s with
        link := l, trace := t
        lamp := { s.lamp with
          state := .swapping, ramp := 0, fade := none, restriking := false, openCount := 0, window := some 0
          swap := some { newPos := p, auto := false, tag := some h.tag, restrike := false, resume := .value 0 } } }
      ∧ l.replies.getLast? = some { kind := 0xA3, tag := h.tag, payload := [1], ready := false } := by
  have body := (selectLampBody_dark (s := takePlace 0xA3 h.tag s) (tag := h.tag) hp hd).trans
    ((if_neg hr).trans (if_neg ha))
  obtain ⟨l, t, e, reply, -⟩ := request_reports (k := 0x23) (n := 1) hs (by simp [hl]) body
    (startSwap_reports (s := takePlace 0xA3 h.tag s) .request _ hz)
  exact ⟨l, t, next_congr e, reply⟩

end

/-- Settles O27: what a FADE in range makes of the lamp by its state (`takeFade_lit` and the lemmas beside it), and the
bodies of SELECT LAMP and MARK LAMP by theirs. -/
theorem fadeSelectAndMarkLamp : Obligations.FadeSelectAndMarkLamp := by
  refine ⟨fun h level duration s hs hl hdark => ⟨fade_refused hs hl, fun hlevel hn => ?_⟩, fun h pos cond s hs =>
    ⟨fun hl => ⟨fun hbad => selectLamp_unchanged hs hl (selectLampBody_badArg hbad), fun hb hpos =>
      selectLamp_unchanged hs hl (selectLampBody_busy (s := takePlace 0xA3 h.tag s) hpos hb), fun p hd hp => ?_⟩,
    fun hl => ⟨fun hbad => markLamp_refused hs hl (markLampBody_badArg hbad), fun hpos hc hb =>
      markLamp_refused hs hl (markLampBody_busy (s := takePlace 0xA4 h.tag s) hpos hc hb), fun hc hd => ?_⟩⟩⟩
  · refine ⟨fun hlit hf hc h0 => ?_, fun hlit hf hc h0 => ?_, fun hb hf hc => ?_, fun hlit hf => ?_, fun hpre hc => ?_,
      fun hd => ?_, fun w hw hsw => ?_⟩
    · have steps : duration.toNat ≠ 0 := by bv_omega
      exact fade_writes hs hl hlevel hn hdark ((takeFade_lit (s := takePlace 0xA2 h.tag s) hlit hf hc).trans
        (startFade_steps (k := .show_) nofun steps level.toNat { takePlace 0xA2 h.tag s with lamp.show_ := level.toNat }))
    · obtain ⟨l, t, g, e, reply, faults⟩ := fade_at_once hs hl hdark hlevel hlit hf hc h0
      refine ⟨_, e, reply, ?_, rfl, rfl, ⟨rfl, rfl, rfl, rfl⟩, ⟨rfl, rfl, rfl, rfl, rfl⟩, faults⟩
      simp [driven, driveOf, hlit]
    · exact fade_writes hs hl hlevel hn hdark (takeFade_claimed (s := takePlace 0xA2 h.tag s) hb hf hc)
    · exact fade_writes hs hl hlevel hn hdark (takeFade_powerDown (s := takePlace 0xA2 h.tag s) hlit hf)
    · exact fade_writes hs hl hlevel hn hdark (takeFade_preheat (s := takePlace 0xA2 h.tag s) hpre hc)
    · exact fade_writes hs hl hlevel hn hdark (takeFade_dark (s := takePlace 0xA2 h.tag s) hd)
    · exact fade_writes hs hl hlevel hn hdark (takeFade_swapping (s := takePlace 0xA2 h.tag s) hw hsw)
  · have body := selectLampBody_dark (s := takePlace 0xA3 h.tag s) (tag := h.tag) (lampPosArg_of_code hp) hd
    refine ⟨fun hr => selectLamp_unchanged hs hl (body.trans (if_pos hr)), fun hr ha => selectLamp_unchanged hs hl
      (body.trans ((if_neg hr).trans (if_pos ha))), selectLamp_swaps hs hl (lampPosArg_of_code hp) hd⟩
  · exact ⟨fun hp => markLamp_done hs hl (p := .a) (by rw [hp]; rfl) hc hd,
      fun hp => markLamp_done hs hl (p := .b) (by rw [hp]; rfl) hc hd⟩

end Sys2Proof.Proofs
end

section
/-! ## The events of the lamp (R49, R50, R58 to R61, R63) -/

namespace Sys2Proof.Machine

variable {l : Link} {s u : State} {f : Fade}

/-! ### Reports by the link they leave -/

theorem Reports.own (h : Reports l s u) : Reports u.link s u := by
  obtain ⟨m, t, rfl, -⟩ := h
  exact ⟨m, t, rfl, .refl m⟩

/-- A raised fault reaches the link and the trace alone (R191). -/
theorem Reports.raiseFault (h : Reports l s u) (f : FaultKind) (pos : Option LampPos) :
    Reports (raiseFault f pos u).link s (raiseFault f pos u) := by
  obtain ⟨m, t, rfl, -⟩ := h
  obtain ⟨m', t', e, -⟩ := raiseFault_spec f pos { s with link := m, trace := t }
  exact ⟨m', t', e, by rw [e]; exact .refl m'⟩

/-! ### The fade's part of a step event (R50) -/

/-- Under a burning lamp D follows R, and from 120 up the open-sample count stands. -/
theorem recomputeD_burns (h : s.lamp.state = .lit) (h0 : 0 < s.lamp.drive) (hd : 120 ≤ min s.lamp.ramp s.heat.ceiling) :
    recomputeD s = { s with lamp.drive := min s.lamp.ramp s.heat.ceiling } := by
  have drive : driveOf s.lamp s.heat.ceiling = min s.lamp.ramp s.heat.ceiling := by simp [driveOf, h]
  rw [recomputeD_still (by omega)]
  simp only [driven, drive, if_neg (Nat.not_lt.mpr hd)]

theorem fadeAdvance_unlit (h : s.lamp.state ≠ .lit) : fadeAdvance s = s := by
  unfold fadeAdvance
  split
  · next hl _ => exact absurd hl h
  · rfl

theorem fadeAdvance_no_fade (h : s.lamp.fade = none) : fadeAdvance s = s := by
  unfold fadeAdvance
  split
  · next hf => rw [h] at hf; cases hf
  · rfl

section Lit

variable (h : s.lamp.state = .lit) (hf : s.lamp.fade = some f)
include h hf

/-- A fade's step while the lamp is LIT. -/
theorem fadeAdvance_lit : fadeAdvance s =
    if f.k + 1 < f.n then recomputeD { s with lamp.ramp := fadeLevel f (f.k + 1), lamp.fade := some { f with k := f.k + 1 } }
    else if f.kind = .powerDown then lampGoesOff .power s
    else recomputeD { s with lamp.ramp := f.b, lamp.fade := none, lamp.restriking := false } := by
  unfold fadeAdvance
  split
  · next g _ hg =>
    obtain rfl : g = f := Option.some.inj (hg.symm.trans hf)
    rfl
  · next hno => exact absurd hf (hno f h)

/-- A step inside the fade. -/
theorem fadeAdvance_steps (h0 : 0 < s.lamp.drive) (hk : f.k + 1 < f.n)
    (hd : 120 ≤ min (fadeLevel f (f.k + 1)) s.heat.ceiling) : fadeAdvance s = { s with
      lamp.ramp := fadeLevel f (f.k + 1), lamp.drive := min (fadeLevel f (f.k + 1)) s.heat.ceiling
      lamp.fade := some { f with k := f.k + 1 } } := by
  rw [fadeAdvance_lit h hf, if_pos hk]
  exact recomputeD_burns h h0 hd

/-- The last step of a fade that leaves the lamp burning. -/
theorem fadeAdvance_ends (h0 : 0 < s.lamp.drive) (hk : f.n ≤ f.k + 1) (hkind : f.kind ≠ .powerDown)
    (hd : 120 ≤ min f.b s.heat.ceiling) : fadeAdvance s = { s with
      lamp.ramp := f.b, lamp.drive := min f.b s.heat.ceiling, lamp.fade := none, lamp.restriking := false } := by
  rw [fadeAdvance_lit h hf, if_neg (Nat.not_lt.mpr hk), if_neg hkind]
  exact recomputeD_burns h h0 hd

/-- The last step of a power-down fade takes the lamp OFF (R57). -/
theorem fadeAdvance_powerDown (hk : f.n ≤ f.k + 1) (hkind : f.kind = .powerDown) : fadeAdvance s = lampGoesOff .power s := by
  rw [fadeAdvance_lit h hf, if_neg (Nat.not_lt.mpr hk), if_pos hkind]

end Lit

/-- A step event after whose fade no dark request waits. -/
theorem fadeStepEvent_eq {c : Bool} (hf : fadeAdvance s = u) (hd : u.lamp.darkWaiting = false) :
    fadeStepEvent c s = filamentSample c u := by rw [fadeStepEvent, hf, darkTest_idle u hd]

/-! ### The filament sample (R58, R59) -/

theorem samplesNow_lit (h : s.lamp.state = .lit) (hd : 120 ≤ s.lamp.drive) : samplesNow s = true := by
  simp [samplesNow, h, hd]

theorem filamentSample_unsampled {c : Bool} (h : s.lamp.state ≠ .preheat ∧ s.lamp.state ≠ .lit) :
    filamentSample c s = s := by simp [filamentSample, samplesNow, h]

theorem setLampRec_eq (p : LampPos) (c : LampCond) (l : Lamp) : setLampRec p c l = { l with
    recA := if p = .a then c else l.recA, recB := if p = .b then c else l.recB } := by cases p <;> rfl

/-- A sample with current sets an UNKNOWN record GOOD. -/
theorem filamentSample_current (h : samplesNow s = true) : filamentSample true s = { s with
    lamp.openCount := 0
    lamp.recA := if s.lamp.active = .a ∧ s.lamp.recA = .unknown then .good else s.lamp.recA
    lamp.recB := if s.lamp.active = .b ∧ s.lamp.recB = .unknown then .good else s.lamp.recB } := by
  simp only [filamentSample, h, if_true]
  cases ha : s.lamp.active with
  | a => by_cases hr : s.lamp.recA = .unknown <;> simp [lampRec, setLampRec, hr]
  | b => by_cases hr : s.lamp.recB = .unknown <;> simp [lampRec, setLampRec, hr]

theorem filamentSample_absent (h : samplesNow s = true) (hc : s.lamp.openCount < 2) :
    filamentSample false s = { s with lamp.openCount := s.lamp.openCount + 1 } := by
  simp [filamentSample, h, hc]

theorem filamentSample_third (h : samplesNow s = true) (hc : s.lamp.openCount = 2) :
    filamentSample false s = openFilament s := by simp [filamentSample, h, hc]

/-- The lamp of an open filament before it leaves the light: its record FAILED, the cooldown record started (R59, R77). -/
theorem filamentFailed_eq (h : s.lamp.state = .lit) (h0 : 0 < s.lamp.drive) : ∃ k t, filamentFailed s = { s with
    lamp := { s.lamp with
      fade := none, ramp := 0, drive := 0, openCount := 0
      recA := if s.lamp.active = .a then .failed else s.lamp.recA
      recB := if s.lamp.active = .b then .failed else s.lamp.recB }
    heat := { s.heat with cooling := true, elapsed := 0, fan := k, stallTimer := t } } := by
  obtain ⟨k, t, e⟩ := recomputeD_falls
    (s := { s with lamp := { setLampRec s.lamp.active .failed s.lamp with fade := none, ramp := 0 } })
    (by simp [setLampRec_eq, driveOf, h])
  simp only [setLampRec_eq, h0, decide_true, Bool.or_true, if_true] at e
  refine ⟨k, t, ?_⟩
  rw [filamentFailed, setLampRec_eq]
  exact e

/-- From D = 0 the lamp goes dark without a change of the Heat Monitor. -/
theorem lampDark_stays {st : LampState} (h : st = .off ∨ st = .failed) (h0 : s.lamp.drive = 0) : lampDark st s = { s with
    lamp := { s.lamp with
      state := st, ramp := 0, fade := none, swap := none, restriking := false, openCount := 0, window := none } } :=
  recomputeD_stays (s := { s with lamp := { s.lamp with
    state := st, fade := none, ramp := 0, swap := none, restriking := false, window := none } }) h0 (by
      rcases h with rfl | rfl <;> rfl)

theorem lampGoesOff_stays (c : Reason) (h0 : s.lamp.drive = 0) (hp : s.heat.sleepPending = .clear) :
    lampGoesOff c s = reportLamp c { s with lamp := { s.lamp with
      state := .off, ramp := 0, fade := none, swap := none, restriking := false, openCount := 0, window := none } } := by
  rw [lampGoesOff, lampDark_stays (.inl rfl) h0]
  obtain ⟨m, t, e, -⟩ := Reports.reportLamp (.refl { s with lamp := { s.lamp with
    state := .off, ramp := 0, fade := none, swap := none, restriking := false, openCount := 0, window := none } }) c
  exact sleepTest_clear (by rw [e]; exact hp)

/-! ### Step events that take the lamp out of the light (R57, R59) -/

/-- The third sample without current in a row opens the filament. -/
theorem fadeStep_opens (h : s.lamp.state = .lit) (hdark : s.lamp.darkWaiting = false) (hf : s.lamp.fade = none)
    (hd : 120 ≤ s.lamp.drive) (hc : s.lamp.openCount = 2) : fadeStepEvent false s = openFilament s :=
  (fadeStepEvent_eq (fadeAdvance_no_fade hf) hdark).trans (filamentSample_third (samplesNow_lit h hd) hc)

section Burning

variable (h : s.lamp.state = .lit) (hdark : s.lamp.darkWaiting = false) (h0 : 0 < s.lamp.drive)
include h hdark h0

/-- An open filament whose swap is possible. -/
theorem openFilament_swaps (hf : s.lamp.fade = none) (hauto : s.items.lampAutoChange = true)
    (hother : lampRec s.lamp (otherPos s.lamp.active) ≠ .failed) (ha : s.heat.power = .active)
    (hr : s.lamp.restriking = false) : ∃ k t, Reports s.link { s with
      lamp := { s.lamp with
        state := .swapping, ramp := 0, drive := 0, fade := none, restriking := false, openCount := 0, window := some 0
        recA := if s.lamp.active = .a then .failed else s.lamp.recA
        recB := if s.lamp.active = .b then .failed else s.lamp.recB
        swap := some { newPos := otherPos s.lamp.active, auto := true, tag := none, restrike := true
                       resume := .value s.lamp.ramp } }
      heat := { s.heat with cooling := true, elapsed := 0, fan := k, stallTimer := t } } (openFilament s) := by
  obtain ⟨k, t, e⟩ := filamentFailed_eq h h0
  have resumed : resumeLevel s.lamp = .value s.lamp.ramp := by simp [resumeLevel, hf, h]
  have possible : s.items.lampAutoChange ∧ lampRec s.lamp (otherPos s.lamp.active) ≠ .failed ∧ s.heat.power = .active
      ∧ ¬ powerDownRuns s.lamp ∧ ¬ s.lamp.restriking := by simp [hauto, hother, ha, powerDownRuns, hf, hr]
  rw [openFilament_eq, if_pos possible, e, darkTest_idle _ (by exact hdark), resumed]
  exact ⟨k, t, startSwap_reports _ _ rfl⟩

variable (hp : s.heat.sleepPending = .clear)
include hp

/-- The last step of a power-down fade. -/
theorem fadeStep_powerDown (c : Bool) (hf : s.lamp.fade = some f) (hk : f.n ≤ f.k + 1) (hkind : f.kind = .powerDown) :
    ∃ k t, Reports s.link { s with
      lamp := { s.lamp with
        state := .off, ramp := 0, drive := 0, fade := none, swap := none, restriking := false, openCount := 0, window := none }
      heat := { s.heat with cooling := true, elapsed := 0, fan := k, stallTimer := t } } (fadeStepEvent c s) := by
  obtain ⟨k, t, off⟩ := lampGoesOff_reports (s := s) .power hp
  simp only [h0, decide_true, Bool.or_true, if_true] at off
  refine ⟨k, t, ?_⟩
  obtain ⟨m, t', e, hm⟩ := off
  rw [fadeStepEvent_eq ((fadeAdvance_powerDown h hf hk hkind).trans e) hdark, filamentSample_unsampled (by simp)]
  exact ⟨m, t', rfl, hm⟩

/-- An open filament with LAMP_AUTO_CHANGE OFF. -/
theorem openFilament_fails (hauto : s.items.lampAutoChange = false) : ∃ k t, Reports (openFilament s).link { s with
      lamp := { s.lamp with
        state := .failed, ramp := 0, drive := 0, fade := none, swap := none, restriking := false, openCount := 0
        window := none
        recA := if s.lamp.active = .a then .failed else s.lamp.recA
        recB := if s.lamp.active = .b then .failed else s.lamp.recB }
      heat := { s.heat with cooling := true, elapsed := 0, fan := k, stallTimer := t } } (openFilament s)
    ∧ hasFault .lampOpen (openFilament s) = true := by
  obtain ⟨k, t, e⟩ := filamentFailed_eq h h0
  rw [openFilament_eq, if_neg (by simp [hauto]), e, darkTest_idle _ (by exact hdark), lampDark_stays (.inr rfl) rfl]
  have raised := (Reports.reportLamp (.refl { s with
    lamp := { s.lamp with
      state := .failed, ramp := 0, drive := 0, fade := none, swap := none, restriking := false, openCount := 0, window := none
      recA := if s.lamp.active = .a then .failed else s.lamp.recA
      recB := if s.lamp.active = .b then .failed else s.lamp.recB }
    heat := { s.heat with cooling := true, elapsed := 0, fan := k, stallTimer := t } }) .opened).raiseFault .lampOpen
      (some s.lamp.active)
  refine ⟨k, t, ?_⟩
  rw [sleepTest_clear]
  · exact ⟨raised, hasFault_raiseFault _ _ _⟩
  · obtain ⟨_, _, e, -⟩ := raised
    rw [e]
    exact hp

end Burning

/-! ### The end of a swap (R60, R61) -/

/-- The new position in the light, reported (R61). -/
def swapped (w : Swap) (s : State) : State :=
  report (.lampSwapped w.newPos (if w.auto then .auto else .select) w.tag)
    (.lampSwapped w.newPos (if w.auto then .auto else .select))
    { s with lamp.active := w.newPos, lamp.swap := none, lamp.window := none }

theorem swapped_reports (w : Swap) (s : State) :
    Reports s.link { s with lamp.active := w.newPos, lamp.swap := none, lamp.window := none } (swapped w s) :=
  .report (.refl _) _ _

section Travel

variable {w : Swap} (h : s.lamp.state = .swapping) (hw : s.lamp.swap = some w)
include h hw

theorem swapEnds_eq : swapEnds s =
    if w.restrike then restrikeLamp w.resume (swapped w s)
    else if !w.auto && hasFault .lampOpen s then
      sleepTest (reportLamp .swapEnd (lampDark .failed (swapped w s)))
    else lampGoesOff .swapEnd (swapped w s) := by
  unfold swapEnds
  split
  · next w' _ hw' =>
    obtain rfl : w' = w := Option.some.inj (hw'.symm.trans hw)
    rfl
  · next hno => exact absurd hw (hno w h)

theorem swapEnds_restrikes (hr : w.restrike = true) : swapEnds s = restrikeLamp w.resume (swapped w s) :=
  (swapEnds_eq h hw).trans (if_pos hr)

theorem swapEnds_off (hr : w.restrike = false) (hf : w.auto = true ∨ hasFault .lampOpen s = false) :
    swapEnds s = lampGoesOff .swapEnd (swapped w s) := by
  rw [swapEnds_eq h hw, if_neg (by simp [hr]), if_neg (by rcases hf with hf | hf <;> simp [hf])]

/-- A swap without a re-strike ends with the lamp OFF, and the flags of LAMP SWAPPED and LAMP set (R61, R63). -/
theorem swapEnds_dark (h0 : s.lamp.drive = 0) (hr : w.restrike = false) (hf : w.auto = true ∨ hasFault .lampOpen s = false)
    (hp : s.heat.sleepPending = .clear) :
    Reports (swapEnds s).link { s with lamp := { s.lamp with
        state := .off, active := w.newPos, swap := none, fade := none, ramp := 0, restriking := false, openCount := 0
        window := none } } (swapEnds s)
      ∧ (swapEnds s).link.flags.getLsbD 10 = true ∧ (swapEnds s).link.flags.getLsbD 9 = true := by
  have flag : (swapped w s).link.flags.getLsbD 10 = true := report_flag (i := 10) rfl (by decide) _ _
  obtain ⟨m, t, e, -⟩ := swapped_reports w s
  rw [e] at flag
  rw [swapEnds_off h hw hr hf, e, lampGoesOff_stays _ (by exact h0) (by exact hp)]
  have off := Reports.reportLamp (.refl { s with
    link := m, trace := t
    lamp := { s.lamp with
      state := .off, active := w.newPos, swap := none, fade := none, ramp := 0, restriking := false, openCount := 0
      window := none } }) .swapEnd
  refine ⟨off.own, ?_, report_flag (i := 9) rfl (by decide) _ _⟩
  obtain ⟨_, _, e', hm⟩ := off
  rw [e']
  exact hm.flags 10 flag

/-- A swap with a re-strike, in ACTIVE with the strike permitted, ends with the entry to PREHEAT (R60). -/
theorem swapEnds_preheats (h0 : s.lamp.drive = 0) (hr : w.restrike = true) (ha : s.heat.power = .active)
    (hh : tooHot s = false) : ∃ k t, Reports s.link { s with
      lamp := driven { s with lamp := preheatLamp w.resume true { s with lamp.active := w.newPos, lamp.swap := none } }
      heat := { s.heat with cooling := false, fan := k, stallTimer := t } } (swapEnds s) := by
  obtain ⟨m, t, e, hm⟩ := swapped_reports w s
  obtain ⟨k, t', entered⟩ := enterPreheat_reports (s := { s with
    link := m, trace := t
    lamp := { s.lamp with active := w.newPos, swap := none, window := none } }) .swapEnd w.resume true h0
  have cool : tooHot (swapped w s) = false := by
    rw [e]
    simpa [tooHot, hasFault, hm.faults] using hh
  have active : ¬ (swapped w s).heat.power ≠ .active := by
    rw [e]
    simpa using ha
  refine ⟨k, t', ?_⟩
  rw [swapEnds_restrikes h hw hr, restrikeLamp, if_neg active, if_neg (by simp [cool]), e]
  obtain ⟨m', t'', e', hm'⟩ := entered
  exact ⟨m', t'', e', hm.trans hm'⟩

end Travel

end Sys2Proof.Machine
end

section
/-! ## The events of the lamp as commands -/

namespace Sys2Proof.Machine

variable {s : State}

/-- Outside PREHEAT and LIT a step event does nothing. -/
theorem fadeStepEvent_dark {c : Bool} (hd : s.lamp.darkWaiting = false)
    (h : s.lamp.state = .off ∨ s.lamp.state = .swapping ∨ s.lamp.state = .failed) : fadeStepEvent c s = s := by
  have unlit : s.lamp.state ≠ .preheat ∧ s.lamp.state ≠ .lit := by rcases h with h | h | h <;> simp [h]
  rw [fadeStepEvent_eq (fadeAdvance_unlit unlit.2) hd, filamentSample_unsampled unlit]

theorem lampLights_idle (h : s.lamp.state ≠ .preheat) : lampLights s = s := if_neg h

theorem swapEnds_idle (h : s.lamp.state ≠ .swapping) : swapEnds s = s := by
  unfold swapEnds
  split
  · next hs _ => exact absurd hs h
  · rfl

/-- The end of PREHEAT lights the lamp and starts the strike fade (R49). -/
theorem lampLights_starts (h : s.lamp.state = .preheat) (hn : 0 < rampNow s s.lamp.destRamp) :
    lampLights s = reportLamp .strikeEnd { s with
      lamp.state := .lit, lamp.window := none
      lamp.fade := some
        { kind := .strike, a := s.lamp.ramp, b := levelNow s s.lamp.dest, n := rampNow s s.lamp.destRamp, k := 0 } } := by
  rw [lampLights, if_pos h, startFade, if_neg hn.ne']
  simp

end Sys2Proof.Machine

namespace Sys2Proof.Proofs

open Sys2Proof.Machine

variable {s : State}

/-- A step event that makes one write of the lamp. -/
theorem fadeStep_writes {c : Bool} {g : Lamp} (h : fadeStepEvent c s = { s with lamp := g }) :
    exec (.fadeStep c) s = .next { s with lamp := g } := withThermal_next h rfl

/-- Settles O29: a step event is the fade's step and then the sample (`fadeStepEvent_eq`), and the lamp that goes dark or is
struck again is followed through D's recomputation and the reports (`Reports`). -/
theorem lampEventsMoveTheLamp : Obligations.LampEventsMoveTheLamp := by
  refine ⟨fun s hdark hp => ⟨fun hd c => withThermal_next (fadeStepEvent_dark hdark hd) rfl, fun hlit h0 =>
      ⟨fun f hf hk hd => ?_, fun f hf hk hkind hd => ?_, fun f hf hk hkind => ?_, fun hf hd hc => ?_,
        fun hf hd hc hauto hother ha hr => ?_, fun hf hd hc hauto => ?_⟩⟩,
    fun s => ⟨fun h => withThermal_next (lampLights_idle h) rfl, fun h => withThermal_next (swapEnds_idle h) rfl,
      fun b n h hb hn hpos => ?_, fun w h hw hz => ⟨fun hr hf hp => ?_, fun hr ha hh ht hc => ?_⟩⟩⟩
  · exact fadeStep_writes ((fadeStepEvent_eq (fadeAdvance_steps hlit hf h0 hk hd) hdark).trans
      (filamentSample_current (samplesNow_lit hlit hd)))
  · exact fadeStep_writes ((fadeStepEvent_eq (fadeAdvance_ends hlit hf h0 hk hkind hd) hdark).trans
      (filamentSample_current (samplesNow_lit hlit hd)))
  · obtain ⟨k, t, off⟩ := fadeStep_powerDown hlit hdark h0 hp true hf hk hkind
    obtain ⟨m, t', e, hm⟩ := off.next
    exact ⟨_, e, rfl, rfl, rfl, rfl, rfl, rfl, rfl, ⟨rfl, rfl, rfl, rfl⟩, ⟨rfl, rfl, rfl, rfl, rfl⟩,
      ⟨hm.faults, hm.mask, hm.clock⟩⟩
  · exact fadeStep_writes ((fadeStepEvent_eq (fadeAdvance_no_fade hf) hdark).trans
      (filamentSample_absent (samplesNow_lit hlit hd) hc))
  · obtain ⟨k, t, swaps⟩ := openFilament_swaps hlit hdark h0 hf hauto hother ha hr
    rw [← fadeStep_opens hlit hdark hf hd hc] at swaps
    obtain ⟨m, t', e, hm⟩ := swaps.next
    refine ⟨_, e, ?_, rfl, rfl, rfl, ⟨rfl, rfl, rfl, rfl⟩, ⟨rfl, rfl, rfl, rfl, rfl⟩, ⟨hm.faults, hm.mask, hm.clock⟩⟩
    simp [hf, hr]
  · obtain ⟨k, t, fails, fault⟩ := openFilament_fails hlit hdark h0 hp hauto
    rw [← fadeStep_opens hlit hdark hf hd hc] at fails fault
    obtain ⟨m, t', e, hm⟩ := fails.next
    refine ⟨_, e, rfl, rfl, ?_, rfl, ?_, rfl, rfl, ⟨rfl, rfl, rfl, rfl⟩, ⟨rfl, rfl, rfl, rfl, rfl⟩⟩
    · cases ha : s.lamp.active <;> simp [lampRec]
    · simpa [hasFault, hm.faults] using fault
  · subst hb hn
    exact withThermal_next (lampLights_starts h hpos) (report_heat _ _ _)
  · obtain ⟨off, swappedFlag, lampFlag⟩ := swapEnds_dark h hw hz hr hf hp
    obtain ⟨m, t, e, hm⟩ := off.next
    exact ⟨m, t, e, hm.flags 10 swappedFlag, hm.flags 9 lampFlag⟩
  · obtain ⟨k, t, struck⟩ := swapEnds_preheats h hw hz hr ha (tooHot_eq_false hh ht)
    obtain ⟨m, t', e, hm⟩ := struck.next
    refine ⟨_, e, rfl, rfl, ?_, ?_, ?_, rfl, rfl, rfl, ⟨rfl, rfl, rfl, rfl⟩, ⟨rfl, rfl, rfl, rfl, rfl⟩,
      ⟨hm.faults, hm.mask, hm.clock⟩⟩
    · simp [driven, preheatLamp, hc]
    · simp [driven, driveOf, preheatLamp, hc]
    · simp [driven, preheatLamp, hc]

end Sys2Proof.Proofs
end

section
/-! ## A fall of D that the cooldown does not outlast (R46, R77, R78)

The laws of lamp and heat alone admit a dark request that waits in DARK with the claim CLEAR. Answered inside a heat-model
update, it starts the next DISSOLVE, whose own request takes D to 0 at once, and the update then counts the record that this
starts and, with COOLDOWN_MIN 0, completes it. -/

namespace Sys2Proof.Proofs

open Sys2Proof.Machine

/-- A lamp LIT at the ceiling of H = 20480 with a dark request waiting, and the Changer in the DARK of a DISSOLVE whose claim is
CLEAR: a STEP with no eligible slot, a GOTO queued behind it. Fades take no steps, and the cooldown has no minimum. -/
def dimmed : State :=
  { State.reset with
    heat.power := .active
    heat.cooling := false
    heat.estimate := 20480
    heat.ambient := 20480
    heat.ceiling := 700
    heat.zone := .derate
    heat.allowed := false
    items.changeMode := .dissolve
    items.darkThreshold := 1000
    items.keepWarm := 0
    items.fadeOut := 0
    items.cooldownMin := 0
    lamp.state := .lit
    lamp.ramp := 1000
    lamp.drive := 700
    lamp.darkWaiting := true
    tray.code := 1
    tray.slots := freshSlots 1
    lines.homeMark := true
    program.activeMap := 1
    changer.stage := .dark
    changer.gate := .empty
    changer.cycle := some (freshCycle (hostEntry (.step 1) 3) .dissolve)
    changer.queue := [hostEntry (.goto 9) 4]
    pending := [.heatUpdate (some 20480)] }

/-- `dimmed` after its heat-model update. -/
def undimmed : State := heatUpdated (some 20480) { dimmed with pending := [] }

theorem dimmed_step : step dimmed = .next undimmed := rfl

theorem dimmed_thermalLaw : thermalLaw dimmed :=
  ⟨by decide, by decide, by decide, by decide, by decide, by decide, by decide⟩

theorem dimmed_lampLaw : lampLaw dimmed := ⟨fun _ => by decide, nofun⟩

theorem undimmed_drive : undimmed.lamp.drive = 0 := by decide

theorem undimmed_cooling : undimmed.heat.cooling = false := by decide

/-- Refutes O52, in its clause that a fall of D to 0 leaves the cooldown pending: in `dimmed`, which meets the laws of lamp and
heat, D falls from 700 to 0 inside the heat-model update, and the same update completes the cooldown record. -/
theorem not_driveAndFanObeyTheirLaws : ¬ Obligations.DriveAndFanObeyTheirLaws := by
  unfold Obligations.DriveAndFanObeyTheirLaws
  intro laws
  obtain ⟨-, -, fall, -⟩ := laws dimmed undimmed dimmed_thermalLaw dimmed_lampLaw dimmed_step
  have pending : undimmed.heat.cooling = true := fall (by decide) undimmed_drive
  exact absurd (undimmed_cooling.symm.trans pending) (by decide)

end Sys2Proof.Proofs
end

section
/-! ## What the laws of power and heat read

`sleepLaw` and `heatLaw` read few fields of a few blocks. `postureOf` collects them, and with them whether a fault of heat stands,
which holds SLEEP off (R81). An operation that moves none of them is one equation, as for `viewOf`. -/

namespace Sys2Proof.Machine

/-- The fields that the laws of power and heat read: of the Heat Monitor, the lamp's state and D, the states of Transport and
Changer, and whether OVERTEMP or TCO_OPEN stands. -/
structure Posture where
  estimate : Nat
  ambient : Nat
  latch : Bool
  power : PowerState
  pending : SleepPending
  hot : Bool
  cooling : Bool
  drive : Nat
  lamp : LampState
  tape : TapeState
  stage : Stage

/-- OVERTEMP or TCO_OPEN stands in a fault word. -/
def hotIn (w : BitVec 16) : Bool := faultIn .overtemp w || faultIn .tcoOpen w

/-- What the laws of power and heat read of a state. -/
def postureOf (s : State) : Posture where
  estimate := s.heat.estimate
  ambient := s.heat.ambient
  latch := s.heat.latch
  power := s.heat.power
  pending := s.heat.sleepPending
  hot := hotIn s.link.faults
  cooling := s.heat.cooling
  drive := s.lamp.drive
  lamp := s.lamp.state
  tape := s.transport.state
  stage := s.changer.stage

@[simp] theorem postureOf_mk (link : Link) (items : Items) (trace : Trace) (tray : Tray) (changer : Changer) (lamp : Lamp)
    (heat : Heat) (transport : Transport) (decoder : Decoder) (cueLog : CueLog) (program : Program) (remote : RemoteRx)
    (lines : Lines) (pending : List Instr) (reads : Nat) :
    postureOf ⟨link, items, trace, tray, changer, lamp, heat, transport, decoder, cueLog, program, remote, lines, pending, reads⟩
      = ⟨heat.estimate, heat.ambient, heat.latch, heat.power, heat.sleepPending, hotIn link.faults, heat.cooling, lamp.drive,
        lamp.state, transport.state, changer.stage⟩ := (rfl)

@[simp] theorem posture_eta (s : State) :
    (⟨s.heat.estimate, s.heat.ambient, s.heat.latch, s.heat.power, s.heat.sleepPending, hotIn s.link.faults, s.heat.cooling,
      s.lamp.drive, s.lamp.state, s.transport.state, s.changer.stage⟩ : Posture) = postureOf s := (rfl)

variable (s : State)

/-! ### Notices, records, faults -/

@[simp] theorem postureOf_giveAll (ns : List Notice) : postureOf (giveAll ns s) = postureOf s := by
  obtain ⟨l, h, hf, -⟩ := giveAll_spec ns s
  simp [h, hf]

@[simp] theorem postureOf_give (n : Notice) : postureOf (give n s) = postureOf s := postureOf_giveAll s [n]

@[simp] theorem postureOf_settleWatermark : postureOf (settleWatermark s) = postureOf s := by
  obtain ⟨l, t, h, hf, -⟩ := settleWatermark_spec s
  simp [h, hf]

@[simp] theorem postureOf_offer (b : TraceBody) : postureOf (offer b s) = postureOf s := by
  obtain ⟨l, t, h, hf, -⟩ := offer_spec b s
  simp [h, hf]

@[simp] theorem postureOf_report (n : Notice) (b : TraceBody) : postureOf (report n b s) = postureOf s := by simp [report]

/-- A raised fault that is not of heat. -/
@[simp] theorem postureOf_raiseFault {f : FaultKind} (pos : Option LampPos) (h1 : .overtemp ≠ f) (h2 : .tcoOpen ≠ f) :
    postureOf (raiseFault f pos s) = postureOf s := by
  have hot : hotIn (raiseFault f pos s).link.faults = hotIn s.link.faults := by simp [hotIn, faultIn_raiseFault, h1, h2]
  obtain ⟨l, t, h, -⟩ := raiseFault_spec f pos s
  rw [h] at hot ⊢
  simp only [postureOf_mk, hot, posture_eta]

/-- A cleared fault that is not of heat. -/
@[simp] theorem postureOf_clearFault {f : FaultKind} (h1 : .overtemp ≠ f) (h2 : .tcoOpen ≠ f) :
    postureOf (clearFault f s) = postureOf s := by
  have hot : hotIn (clearFault f s).link.faults = hotIn s.link.faults := by simp [hotIn, faultIn_clearFault, h1, h2]
  obtain ⟨l, t, h, -⟩ := clearFault_spec f s
  rw [h] at hot ⊢
  simp only [postureOf_mk, hot, posture_eta]

@[simp] theorem postureOf_writeTraceMode (mode : TraceMode) (trigger : BitVec 16) (post : Nat) :
    postureOf (writeTraceMode mode trigger post s) = postureOf s := by
  obtain ⟨l, h, hf, -⟩ := writeTraceMode_spec mode trigger post s
  simp [h, hf]

@[simp] theorem postureOf_takePlace (k t : Byte) : postureOf (takePlace k t s) = postureOf s := (rfl)

@[simp] theorem postureOf_fillReply (p : List Byte) : postureOf (fillReply p s) = postureOf s := by
  unfold fillReply
  split <;> rfl

/-! ### Reports of lamp, heat and power -/

@[simp] theorem postureOf_reportLamp (c : Reason) : postureOf (reportLamp c s) = postureOf s := postureOf_report ..

@[simp] theorem postureOf_recordRefusedStrike (r : Reason) : postureOf (recordRefusedStrike r s) = postureOf s := postureOf_offer ..

@[simp] theorem postureOf_settleThermal (key : FanLevel × Zone × Bool) : postureOf (settleThermal key s) = postureOf s := by
  unfold settleThermal
  split
  · rfl
  · exact postureOf_report ..

@[simp] theorem postureOf_powerNotice (c : Reason) (w : Option WakeSource) (t : Option Byte) (o : Option Reason) :
    postureOf (powerNotice c w t o s) = postureOf s := postureOf_give ..

@[simp] theorem postureOf_relayLost (r : Reason) (fs : List RelayFrame) : postureOf (relayLost r fs s) = postureOf s := by
  induction fs generalizing s with
  | nil => rfl
  | cons f fs ih => simp [relayLost, ih]

@[simp] theorem postureOf_loseRelayQueue (r : Reason) : postureOf (loseRelayQueue r s) = postureOf s := postureOf_relayLost ..

@[simp] theorem postureOf_sleepRemote : postureOf (sleepRemote s) = postureOf s := by
  unfold sleepRemote sleepFocus
  split <;> simp

/-! ### Changer and show -/

@[simp] theorem postureOf_timerMoveDone : postureOf (timerMoveDone s) = postureOf s := by
  unfold timerMoveDone
  split <;> rfl

@[simp] theorem postureOf_stopTimer : postureOf (stopTimer s) = postureOf s := by
  unfold stopTimer
  split <;> rfl

@[simp] theorem postureOf_endLoop (r : Reason) (d : Option Reason) : postureOf (endLoop r d s) = postureOf s := by
  unfold endLoop
  split <;> simp

@[simp] theorem postureOf_clearSeekCue : postureOf (clearSeekCue s) = postureOf s := (rfl)

@[simp] theorem postureOf_chaseFailed (o : Option ChaseOwner) (d : Reason) : postureOf (chaseFailed o d s) = postureOf s := by
  unfold chaseFailed
  repeat' split
  all_goals simp

@[simp] theorem postureOf_reportShort (n : Int) (w : WalkEnd) : postureOf (reportShort n w s) = postureOf s := by
  unfold reportShort
  split <;> simp

@[simp] theorem postureOf_failEntries (r : Reason) (es : List MoveEntry) : postureOf (failEntries r es s) = postureOf s := by
  induction es generalizing s with
  | nil => rfl
  | cons e es ih => simp [failEntries, ih]

@[simp] theorem postureOf_clearQueue (r : Reason) : postureOf (clearQueue r s) = postureOf s := postureOf_failEntries ..

@[simp] theorem postureOf_reportFailure (r : Reason) (k : Nat) : postureOf (reportFailure r k s) = postureOf s := by
  unfold reportFailure
  split <;> simp

@[simp] theorem postureOf_setTarget (t : Option Nat) : postureOf (setTarget t s) = postureOf s := (rfl)
@[simp] theorem postureOf_redirect (f : Cycle → Cycle) : postureOf (redirect f s) = postureOf s := (rfl)
@[simp] theorem postureOf_disownAll : postureOf (disownAll s) = postureOf s := (rfl)

@[simp] theorem postureOf_doneStage : postureOf (doneStage s) = postureOf s := by
  unfold doneStage
  split <;> simp

@[simp] theorem postureOf_learn (pres : Presence) (shown : Bool) : postureOf (learn pres shown s) = postureOf s := by
  unfold learn
  repeat' split
  all_goals rfl

@[simp] theorem postureOf_countPulse (p : Nat) (d : Turn) (mark : Bool) : postureOf (countPulse p d mark s) = postureOf s := by
  unfold countPulse
  dsimp only
  split <;> simp

@[simp] theorem postureOf_mergeEntry (e : MoveEntry) (n : Int) (tags : List Byte) :
    postureOf (mergeEntry e n tags s) = postureOf s := by
  unfold mergeEntry
  dsimp only
  split <;> simp

@[simp] theorem postureOf_pauseCycle : postureOf (pauseCycle s) = postureOf s := by
  unfold pauseCycle
  repeat' split
  all_goals rfl

@[simp] theorem postureOf_settleTrayCode (c : Fin 4) : postureOf (settleTrayCode c s) = postureOf s := by
  unfold settleTrayCode
  split <;> simp

/-! ### Tape -/

@[simp] theorem postureOf_reportTape (c : Reason) (e : TapeEnds) : postureOf (reportTape c e s) = postureOf s := postureOf_report ..

@[simp] theorem postureOf_recordTapeRefusal (q : MotionReq) (r : Reason) : postureOf (recordTapeRefusal q r s) = postureOf s :=
  postureOf_offer ..

@[simp] theorem postureOf_leaveTape : postureOf (leaveTape s) = postureOf s := by
  unfold leaveTape exitPlaying
  split
  · simp
  · rfl
  · rfl

@[simp] theorem postureOf_setPending (d : PendingDest) : postureOf (setPending d s) = postureOf s := (rfl)
@[simp] theorem postureOf_resync : postureOf (resync s) = postureOf s := (rfl)

@[simp] theorem postureOf_reportEnds (c : Reason) (e : TapeEnds) : postureOf (reportEnds c e s) = postureOf s := by
  unfold reportEnds
  split <;> simp

@[simp] theorem postureOf_handMotion (q : MotionReq) (src : MotionSource) (b : Bool) :
    postureOf (handMotion q src b s) = postureOf s := by
  unfold handMotion
  cases src <;> dsimp only <;> repeat' split
  all_goals simp

@[simp] theorem postureOf_endSeek (o r : Reason) : postureOf (endSeek o r s) = postureOf s := by
  unfold endSeek
  split <;> simp

@[simp] theorem postureOf_rewindUndone : postureOf (rewindUndone s).2 = postureOf s := by
  unfold rewindUndone
  split <;> simp

@[simp] theorem postureOf_decideRestart : postureOf (decideRestart s) = postureOf s := by
  unfold decideRestart
  repeat' split
  all_goals simp

@[simp] theorem postureOf_startTimer (p : Nat) : postureOf (startTimer p s) = postureOf s := by
  unfold startTimer
  dsimp only
  repeat' split
  all_goals rfl

@[simp] theorem postureOf_startTimerAction (p : Nat) : postureOf (startTimerAction p s) = postureOf s := by
  unfold startTimerAction
  split <;> simp

@[simp] theorem postureOf_holdTimer : postureOf (holdTimer s) = postureOf s := by
  unfold holdTimer
  split <;> rfl

@[simp] theorem postureOf_playingHanded (src : MotionSource) : postureOf (playingHanded src s) = postureOf s := by
  unfold playingHanded playFromZero
  dsimp only
  repeat' split
  all_goals rfl

/-! ### Cues, relay, decoder -/

@[simp] theorem postureOf_reportCue (k : CueKind) (i : Nat) (o : Origin) (r : Option Nat) :
    postureOf (reportCue k i o r s) = postureOf s := by
  unfold reportCue
  dsimp only
  split <;> simp

@[simp] theorem postureOf_offerRelay (f : RelayFrame) : postureOf (offerRelay f s) = postureOf s := by
  unfold offerRelay
  repeat' split
  all_goals simp

@[simp] theorem postureOf_slipTest (i : Nat) (o : Origin) (r : Option Nat) : postureOf (slipTest i o r s) = postureOf s := by
  unfold slipTest
  dsimp only
  split <;> simp

@[simp] theorem postureOf_burstFrame : postureOf (burstFrame s) = postureOf s := by
  unfold burstFrame
  dsimp only
  split <;> simp

@[simp] theorem postureOf_gapFrame (n : Nat) : postureOf (gapFrame n s) = postureOf s := by
  unfold gapFrame
  split <;> simp

@[simp] theorem postureOf_dropRelay (r : Reason) : postureOf (dropRelay r s) = postureOf s := postureOf_offer ..

@[simp] theorem postureOf_lineSlip (i : Nat) : postureOf (lineSlip i s) = postureOf s := by
  unfold lineSlip
  dsimp only
  split <;> simp

@[simp] theorem postureOf_relayConflict : postureOf (relayConflict s) = postureOf s :=
  (postureOf_loseRelayQueue ..).trans (postureOf_raiseFault s none (by decide) (by decide))

@[simp] theorem postureOf_relayTimingError : postureOf (relayTimingError s) = postureOf s := by
  unfold relayTimingError
  split <;> simp

@[simp] theorem postureOf_relayStartPulse : postureOf (relayStartPulse s) = postureOf s := by
  unfold relayStartPulse
  repeat' split
  all_goals simp

@[simp] theorem postureOf_conflictExpires : postureOf (conflictExpires s) = postureOf s := by
  unfold conflictExpires
  split <;> simp

@[simp] theorem postureOf_relayFrameEnds : postureOf (relayFrameEnds s) = postureOf s := by
  unfold relayFrameEnds
  split <;> rfl

@[simp] theorem postureOf_relayGapEnds : postureOf (relayGapEnds s) = postureOf s := by
  unfold relayGapEnds
  split <;> rfl

/-! ### Remotes -/

@[simp] theorem postureOf_setHeld (r : Remote) (k : Option Held) : postureOf (setHeld r k s) = postureOf s := by cases r <;> rfl

@[simp] theorem postureOf_markHeld (r : Remote) (f : Held → Held) : postureOf (markHeld r f s) = postureOf s := postureOf_setHeld ..

@[simp] theorem postureOf_ignoreKey (k : Key) (r : Remote) (x : Reason) : postureOf (ignoreKey k r x s) = postureOf s :=
  postureOf_offer ..

@[simp] theorem postureOf_discardEntry : postureOf (discardEntry s) = postureOf s := (rfl)

@[simp] theorem postureOf_refuseEntry (v : Nat) (r : Reason) : postureOf (refuseEntry v r s) = postureOf s := postureOf_report ..

@[simp] theorem postureOf_focusPress (r : Remote) (d : FocusDir) : postureOf (focusPress r d s) = postureOf s := by
  unfold focusPress takeOverNudge
  dsimp only
  split <;> split <;> simp

@[simp] theorem postureOf_focusRelease (r : Remote) : postureOf (focusRelease r s) = postureOf s := by
  unfold focusRelease
  repeat' split
  all_goals rfl

@[simp] theorem postureOf_focusSpeeds : postureOf (focusSpeeds s) = postureOf s := by
  unfold focusSpeeds
  split <;> rfl

@[simp] theorem postureOf_limitStops (d : FocusDir) : postureOf (limitStops d s) = postureOf s := by
  unfold limitStops
  repeat' split
  all_goals simp

@[simp] theorem postureOf_limitChanges (d : FocusDir) (b : Bool) : postureOf (limitChanges d b s) = postureOf s := by
  unfold limitChanges
  cases d <;> dsimp only <;> split <;> simp

@[simp] theorem postureOf_nudgeCompletes : postureOf (nudgeCompletes s) = postureOf s := by
  unfold nudgeCompletes
  split <;> simp

@[simp] theorem postureOf_startNudge (c n : Nat) (t : Byte) : postureOf (startNudge c n t s).2 = postureOf s := by
  unfold startNudge
  repeat' split
  all_goals simp

@[simp] theorem postureOf_digitPress (r : Remote) (d : Fin 10) : postureOf (digitPress r d s) = postureOf s := by
  unfold digitPress
  repeat' split
  all_goals simp

@[simp] theorem postureOf_irError (b : Bool) : postureOf (irError b s) = postureOf s := by
  unfold irError
  split <;> rfl

@[simp] theorem postureOf_irLeads : postureOf (irLeads s) = postureOf s := by
  unfold irLeads
  split <;> rfl

/-! ### Power, requests, resets -/

@[simp] theorem postureOf_supersedeSleep : postureOf (supersedeSleep s) = postureOf s := by
  unfold supersedeSleep
  split <;> simp

@[simp] theorem postureOf_programStandby : postureOf (programStandby s) = postureOf s :=
  (postureOf_endLoop ..).trans (postureOf_stopTimer s)

@[simp] theorem postureOf_writeShowLoop (b : Bool) : postureOf (writeShowLoop b s) = postureOf s := by
  unfold writeShowLoop
  dsimp only
  split <;> simp

@[simp] theorem postureOf_softProgram (b : Bool) : postureOf (softProgram b s) = postureOf s := (rfl)

@[simp] theorem postureOf_rejectFrame (k t : Byte) (r : Reason) : postureOf (rejectFrame k t r s) = postureOf s := by
  simp [rejectFrame]

@[simp] theorem postureOf_overrunFrame : postureOf (overrunFrame s) = postureOf s := (rfl)
@[simp] theorem postureOf_hunt : postureOf (hunt s) = postureOf s := (rfl)

@[simp] theorem postureOf_pump (l : Link) (h : l.faults = s.link.faults) :
    postureOf { s with link := pump l } = postureOf s := by
  obtain ⟨-, -, -, -, kept, -⟩ := pump_keeps l
  simp [kept, h]

@[simp] theorem postureOf_tick : postureOf (tick s) = postureOf s := (rfl)

end Sys2Proof.Machine
end

section
/-! ## Operations that keep the power state in order

`Calm` follows an operation from one posture to another: the numbers of the heat model stand, the law of SLEEP is kept, and, for a
steady operation, nothing that holds SLEEP off is lost. What sets something in motion needs a part that is awake
(`Posture.Awake`), which its own stage, tape or lamp tells. -/

namespace Sys2Proof.Machine

namespace Posture

variable (w : Posture)

/-- H, A and the trip latch (R65, R66, R73). -/
def numbers : Nat × Nat × Bool := (w.estimate, w.ambient, w.latch)

/-- What SLEEP asks of lamp, Transport and Changer (R81). -/
def Resting : Prop :=
  w.cooling = false ∧ w.drive = 0 ∧ (w.lamp = .off ∨ w.lamp = .failed) ∧ (w.tape = .stopped ∨ w.tape = .noTape)
    ∧ w.stage = .idle

/-- `sleepLaw`, of a posture. -/
def Law : Prop := (w.power = .sleep → w.Resting) ∧ (w.power ≠ .standby → w.pending = .clear)

/-- No pending sleep can be entered: there is none, or a fault of heat stands (R81, R83). -/
def Wakeful : Prop := w.pending = .clear ∨ w.hot = true

/-- Reached from a lawful posture, this one is not in SLEEP. -/
def Awake (v : Posture) : Prop := v.Law → w.power ≠ .sleep

/-- The Heat Monitor's side of a posture: what lamp, Transport and Changer do not move. -/
def mains : Nat × Nat × Bool × PowerState × SleepPending × Bool :=
  (w.estimate, w.ambient, w.latch, w.power, w.pending, w.hot)

end Posture

theorem sleepLaw_iff (s : State) : sleepLaw s ↔ (postureOf s).Law := Iff.rfl

/-- Whether an operation is steady, or may itself change the power state. -/
inductive Pace where
  | steady | loose

/-- From `v` to `w` the numbers stand and the law of SLEEP is kept; a steady operation leaves the power state, a pending sleep and
the faults of heat where no sleep can be entered. -/
structure Calm (m : Pace) (v w : Posture) : Prop where
  numbers : w.numbers = v.numbers
  law : v.Law → w.Law
  steady : m = .steady → v.Wakeful → w.pending = v.pending ∧ w.hot = v.hot ∧ w.power = v.power

variable {m : Pace} {v w : Posture} {s t : State}

namespace Calm

theorem refl (v : Posture) : Calm m v v := ⟨rfl, id, fun _ _ => ⟨rfl, rfl, rfl⟩⟩

theorem trans {u : Posture} (h : Calm m v w) (g : Calm m w u) : Calm m v u where
  numbers := g.numbers.trans h.numbers
  law := g.law ∘ h.law
  steady hm hv := by
    obtain ⟨pending, hot, power⟩ := h.steady hm hv
    obtain ⟨pending', hot', power'⟩ := g.steady hm (by rwa [Posture.Wakeful, pending, hot])
    exact ⟨pending'.trans pending, hot'.trans hot, power'.trans power⟩

/-- With the Heat Monitor's side still, the law asks only that rest stays rest in SLEEP. -/
theorem step (h : Calm m v w) {u : Posture} (hm : u.mains = w.mains) (hr : v.Law → w.power = .sleep → u.Resting) :
    Calm m v u := by
  obtain ⟨estimate, ambient, latch, power, pending, hot⟩ : u.estimate = w.estimate ∧ u.ambient = w.ambient
      ∧ u.latch = w.latch ∧ u.power = w.power ∧ u.pending = w.pending ∧ u.hot = w.hot := by
    simpa [Posture.mains] using hm
  refine ⟨Eq.trans (by simp [Posture.numbers, estimate, ambient, latch]) h.numbers, fun l => ?_, ?_⟩
  · exact ⟨fun hp => hr l (power ▸ hp), fun hp => pending.trans ((h.law l).2 (power ▸ hp))⟩
  · rw [pending, hot, power]
    exact h.steady

/-- Whatever an awake part sets in motion. -/
theorem stir (h : Calm m v w) {u : Posture} (hw : w.Awake v) (hm : u.mains = w.mains) : Calm m v u :=
  h.step hm fun l hp => absurd hp (hw l)

end Calm

/-! ### A part that is awake -/

theorem awake_of_power (h : s.heat.power ≠ .sleep) : (postureOf s).Awake v := fun _ => h

theorem awake_of_active (h : s.heat.power = .active) : (postureOf s).Awake v := awake_of_power (by simp [h])

section Rest

variable (h : Calm m v (postureOf s))
include h

/-- SLEEP is entered at rest only. -/
theorem Calm.resting (l : v.Law) (hp : (postureOf s).power = .sleep) : (postureOf s).Resting := (h.law l).1 hp

theorem awake_of_stage (hs : s.changer.stage ≠ .idle) : (postureOf s).Awake v :=
  fun l hp => have ⟨_, _, _, _, stage⟩ := h.resting l hp; hs stage

theorem awake_of_tape (hs : s.transport.state ≠ .stopped ∧ s.transport.state ≠ .noTape) : (postureOf s).Awake v :=
  fun l hp => have ⟨_, _, _, tape, _⟩ := h.resting l hp; tape.elim hs.1 hs.2

theorem awake_of_lamp (hs : s.lamp.state ≠ .off ∧ s.lamp.state ≠ .failed) : (postureOf s).Awake v :=
  fun l hp => have ⟨_, _, lamp, _⟩ := h.resting l hp; lamp.elim hs.1 hs.2

end Rest

/-! ### Fan, D, cooldown -/

@[simp] theorem postureOf_evalFan (s : State) : postureOf (evalFan s) = postureOf s := (rfl)

@[simp] theorem startCooldown_calm (h : Calm m v (postureOf s)) (hw : (postureOf s).Awake v) :
    Calm m v (postureOf (startCooldown s)) := h.stir hw rfl

@[simp] theorem endCooldown_calm (h : Calm m v (postureOf s)) : Calm m v (postureOf (endCooldown s)) :=
  h.step rfl fun l hp => ⟨rfl, (h.resting l hp).2⟩

/-- D recomputed: in SLEEP it stays 0 (R46). -/
theorem recomputeD_calm (h : Calm m v (postureOf s)) : Calm m v (postureOf (recomputeD s)) := by
  refine h.step ?_ fun l hp => ?_
  · obtain ⟨f, t, e⟩ := recomputeD_eq s
    rw [e]
    rfl
  · have rest := h.resting l hp
    have ⟨_, drive, lamp, _⟩ := rest
    have level : driveOf s.lamp s.heat.ceiling = 0 := by rcases lamp with g | g <;> simp only [postureOf] at g <;> simp [driveOf, g]
    rw [recomputeD_stays drive level]
    exact rest

@[simp] theorem evalCeiling_calm (h : Calm m v (postureOf s)) : Calm m v (postureOf (evalCeiling s)) := recomputeD_calm h

/-! ### Power -/

theorem posture_of_sleepConditions (hc : sleepConditions s = true) :
    (postureOf s).Resting ∧ (postureOf s).hot = false := by
  simp only [sleepConditions, Bool.and_eq_true, decide_eq_true_eq, Bool.not_eq_true'] at hc
  obtain ⟨⟨⟨⟨⟨⟨⟨-, cooling⟩, drive⟩, lamp⟩, tape⟩, stage⟩, overtemp⟩, tco⟩ := hc
  exact ⟨⟨cooling, drive, lamp, tape, stage⟩, Bool.or_eq_false_iff.mpr ⟨overtemp, tco⟩⟩

/-- SLEEP is entered at rest (R81, R84); a steady operation enters it for a pending sleep only, with no fault of heat. -/
theorem enterSleep_calm (tag : Option Byte) (h : Calm m v (postureOf s)) (hr : (postureOf s).Resting)
    (hp : m = .steady → s.heat.sleepPending ≠ .clear ∧ (postureOf s).hot = false) :
    Calm m v (postureOf (enterSleep tag s)) := by
  have entered : postureOf (enterSleep tag s) = { postureOf s with power := .sleep, pending := .clear } := by
    rw [enterSleep, postureOf_powerNotice, postureOf_sleepRemote, postureOf_loseRelayQueue]
    rfl
  rw [entered]
  refine h.trans ⟨rfl, fun _ => ⟨fun _ => hr, fun _ => rfl⟩, fun hm hv => ?_⟩
  obtain ⟨pending, cold⟩ := hp hm
  rcases hv with clear | hot
  · exact absurd clear pending
  · exact absurd (cold.symm.trans hot) (by simp)

@[simp] theorem sleepTest_calm (h : Calm m v (postureOf s)) : Calm m v (postureOf (sleepTest s)) := by
  unfold sleepTest
  split
  · exact h
  · next hp =>
    split
    · next hc =>
      obtain ⟨rest, cold⟩ := posture_of_sleepConditions hc
      exact enterSleep_calm _ h rest fun _ => ⟨by simp [hp], cold⟩
    · exact h

/-- A wake makes SLEEP STANDBY (R85). -/
@[simp] theorem wake_calm (src : WakeSource) (h : Calm .loose v (postureOf s)) : Calm .loose v (postureOf (wake src s)) := by
  unfold wake
  split
  · rw [postureOf_powerNotice]
    exact h.trans ⟨rfl, fun _ => ⟨nofun, fun hp => absurd rfl hp⟩, nofun⟩
  · exact h

theorem wake_power (src : WakeSource) (s : State) : (wake src s).heat.power ≠ .sleep := by
  unfold wake
  split
  · simp [powerNotice, give]
  · assumption

/-! ### The fade engine -/

@[simp] theorem startFade_calm (k : FadeKind) (b n : Nat) (h : Calm m v (postureOf s)) :
    Calm m v (postureOf (startFade k b n s)) := by
  unfold startFade
  split
  · exact recomputeD_calm h
  · exact h

@[simp] theorem takeFade_calm (level n : Nat) (h : Calm m v (postureOf s)) : Calm m v (postureOf (takeFade level n s)) := by
  unfold takeFade setResume
  split
  · split
    · exact h
    · split
      · exact h
      · exact startFade_calm _ _ _ h
  · split <;> exact h
  all_goals exact h

@[simp] theorem darkRequest_calm (h : Calm m v (postureOf s)) : Calm m v (postureOf (darkRequest s).2) := by
  unfold darkRequest
  split
  · exact h
  · exact h
  · exact h
  · exact recomputeD_calm h
  · dsimp only
    split
    · exact h
    · exact startFade_calm _ _ _ h

@[simp] theorem lightRequest_calm (h : Calm m v (postureOf s)) : Calm m v (postureOf (lightRequest s)) := by
  unfold lightRequest setResume
  dsimp only
  split
  · exact h
  · exact h
  · exact recomputeD_calm h
  · split
    · exact h
    · exact startFade_calm _ _ _ h
  · exact h

@[simp] theorem programLight_calm (h : Calm m v (postureOf s)) : Calm m v (postureOf (programLight s)) := by
  unfold programLight
  split <;> simp [h]

@[simp] theorem lampEndFade_calm (h : Calm m v (postureOf s)) : Calm m v (postureOf (lampEndFade s)) := by
  unfold lampEndFade setResume
  split
  · split
    · exact h
    · exact startFade_calm _ _ _ h
  all_goals exact h

/-! ### The end and the stages of a cycle -/

@[simp] theorem toIdle_calm (h : Calm m v (postureOf s)) : Calm m v (postureOf (toIdle s)) :=
  h.step rfl fun l hp => have ⟨cooling, drive, lamp, tape, _⟩ := h.resting l hp; ⟨cooling, drive, lamp, tape, rfl⟩

@[simp] theorem failMove_calm (r : Reason) (h : Calm m v (postureOf s)) : Calm m v (postureOf (failMove r s)) :=
  sleepTest_calm (toIdle_calm (by simpa using h))

theorem changerFails_calm {f : FaultKind} (r : Reason) (hf : isChangerFault f = true) (h : Calm m v (postureOf s)) :
    Calm m v (postureOf (changerFails f r s)) := by
  unfold changerFails
  refine sleepTest_calm (toIdle_calm ?_)
  cases f <;> simp [isChangerFault] at hf <;> simpa using h

theorem lightStage_calm (h : Calm m v (postureOf s)) (hs : s.changer.stage ≠ .idle) :
    Calm m v (postureOf (lightStage s)) := by
  have lit (o : Bool) (c : Claim) :
      Calm m v (postureOf { s with changer.stage := .light, changer.shutterOpen := o, changer.claim := c }) :=
    h.stir (awake_of_stage h hs) rfl
  unfold lightStage
  dsimp only
  split
  · split
    · exact lit _ _
    · exact lightRequest_calm (lit _ _)
  · exact lit s.changer.shutterOpen s.changer.claim

theorem finishAborted_calm (h : Calm m v (postureOf s)) (hs : s.changer.stage ≠ .idle) :
    Calm m v (postureOf (finishAborted s)) := by
  unfold finishAborted
  exact sleepTest_calm (toIdle_calm (by simpa using lightStage_calm h hs))

section Stages

variable (h : Calm m v (postureOf s)) (hw : (postureOf s).Awake v)
include h hw

theorem toSettle_calm : Calm m v (postureOf (toSettle s)) := h.stir hw rfl

theorem toDrop_calm : Calm m v (postureOf (toDrop s)) := by
  unfold toDrop
  dsimp only
  split <;> exact h.stir hw rfl

theorem toPaused_calm : Calm m v (postureOf (toPaused s)) := h.stir hw rfl

theorem rotateTo_calm (p t : Nat) : Calm m v (postureOf (rotateTo p t s)) := by
  unfold rotateTo
  split
  · exact toDrop_calm h hw
  · split <;> exact h.stir hw rfl

theorem searchFound_calm : Calm m v (postureOf (searchFound s)) := by
  unfold searchFound
  dsimp only
  split
  · exact h
  · split
    · exact rotateTo_calm (s := { s with tray.position := some 0, tray.search := none }) h hw _ _
    · exact rotateTo_calm (by simpa using h) (by simpa using hw) _ _
    · split
      · exact failMove_calm _ h
      · exact rotateTo_calm (by simpa using h) (by simpa using hw) _ _

theorem toRotate_calm : Calm m v (postureOf (toRotate s)) := by
  unfold toRotate
  split
  · exact h
  · split
    · exact toDrop_calm h hw
    · split
      · exact rotateTo_calm h hw _ _
      · exact rotateTo_calm h hw _ _
      · split
        · exact toPaused_calm h hw
        · split
          · exact searchFound_calm h hw
          · exact h.stir hw rfl

theorem toLift_calm : Calm m v (postureOf (toLift s)) := by
  unfold toLift
  split
  · exact toRotate_calm h hw
  · exact h.stir hw rfl

theorem toDark_calm (mode : ChangeMode) : Calm m v (postureOf (toDark mode s)) := by
  unfold toDark
  split
  · split
    · exact h.stir hw rfl
    · exact toLift_calm h hw
  · split
    · exact toLift_calm h hw
    · exact h.stir hw rfl
    · have asked : Calm m v (postureOf (darkRequest
          { s with changer.stage := .dark, changer.claim := .requested, changer.window := none }).2) :=
        darkRequest_calm (h.stir hw rfl)
      dsimp only
      split
      · exact toLift_calm asked (awake_of_stage asked (by simp))
      · exact asked

end Stages

/-! ### The start of cycles, dark reached -/

theorem postureOf_targetOf {mv : Move} {t : Option Nat} {u : State} (h : targetOf mv s = .inr (t, u)) :
    postureOf u = postureOf s := by
  unfold targetOf at h
  split at h
  · split at h <;> cases h
    rfl
  · split at h
    · cases h
    · split at h <;> cases h <;> simp

theorem runEntry_calm (e : MoveEntry) (h : Calm m v (postureOf s)) (hw : (postureOf s).Awake v) :
    Calm m v (postureOf (runEntry e s)) := by
  unfold runEntry
  dsimp only
  split
  · exact failMove_calm _ (h.stir hw rfl)
  · next ht =>
    refine toDark_calm ?_ ?_ _
    · rw [postureOf_setTarget, postureOf_targetOf ht]
      exact h.stir hw rfl
    · rw [postureOf_setTarget, postureOf_targetOf ht]
      exact hw

/-- Cycles started one after another in ACTIVE, which no failing cycle ends. -/
theorem startCycles_calm (es : List MoveEntry) (h : Calm m v (postureOf s)) (ha : v.Law → s.heat.power = .active) :
    Calm m v (postureOf (startCycles es s)) := by
  induction es generalizing s with
  | nil => exact h
  | cons e rest ih =>
    have run : Calm m v (postureOf (runEntry e { s with changer.queue := rest })) :=
      runEntry_calm e h fun l => by simp [postureOf, ha l]
    have active (l : v.Law) : (runEntry e { s with changer.queue := rest }).heat.power = .active := by
      have own : Calm .steady (postureOf s) (postureOf (runEntry e { s with changer.queue := rest })) :=
        runEntry_calm e (.refl _) fun _ => by simp [postureOf, ha l]
      exact (own.steady rfl (.inl ((h.law l).2 (by simp [postureOf, ha l])))).2.2.trans (ha l)
    unfold startCycles
    dsimp only
    split
    · exact ih run active
    · exact run

end Sys2Proof.Machine
end

section
/-! ## Dark reached, strikes, swaps and the lamp's end stay calm -/

namespace Sys2Proof.Machine

variable {m : Pace} {v : Posture} {s t : State}

/-- What was ACTIVE stays so through a steady operation (no sleep is pending there). -/
theorem Calm.stays_active (h : Calm m v (postureOf s)) (own : Calm .steady (postureOf s) (postureOf t))
    (ha : s.heat.power = .active) : (postureOf t).Awake v := fun l => by
  have clear : (postureOf s).Wakeful := .inl ((h.law l).2 (by simp [postureOf, ha]))
  obtain ⟨-, -, power⟩ := own.steady rfl clear
  rw [power]
  simp [postureOf, ha]

/-! ### Dark reached -/

@[simp] theorem startReady_calm (h : Calm m v (postureOf s)) : Calm m v (postureOf (startReady s)) := by
  unfold startReady
  split
  · next hm =>
    simp only [mayStart, Bool.and_eq_true, decide_eq_true_eq] at hm
    exact startCycles_calm _ h fun _ => hm.1.2
  · exact h

@[simp] theorem darkReached_calm (h : Calm m v (postureOf s)) : Calm m v (postureOf (darkReached s)) := by
  unfold darkReached
  dsimp only
  split
  · next hs _ =>
    split
    · exact startReady_calm (toLift_calm h (awake_of_stage h (by simp [hs])))
    · exact h
  · exact h

@[simp] theorem darkTest_calm (h : Calm m v (postureOf s)) : Calm m v (postureOf (darkTest s)) := by
  unfold darkTest
  split <;> simp [h]

theorem withDarkTest_calm {f : State → State} (h : Calm m v (postureOf (f s))) :
    Calm m v (postureOf (withDarkTest f s)) := by
  unfold withDarkTest
  split <;> simp [h]

/-! ### Lamp off -/

theorem lampDark_calm {st : LampState} (hst : st = .off ∨ st = .failed) (h : Calm m v (postureOf s)) :
    Calm m v (postureOf (lampDark st s)) :=
  recomputeD_calm (h.step rfl fun l hp =>
    have ⟨cooling, drive, _, tape, stage⟩ := h.resting l hp
    ⟨cooling, drive, hst, tape, stage⟩)

@[simp] theorem lampGoesOff_calm (c : Reason) (h : Calm m v (postureOf s)) : Calm m v (postureOf (lampGoesOff c s)) :=
  sleepTest_calm (by simpa using lampDark_calm (.inl rfl) h)

@[simp] theorem lampOffNow_calm (c : Reason) (h : Calm m v (postureOf s)) : Calm m v (postureOf (lampOffNow c s)) := by
  unfold lampOffNow cancelRestrike
  split
  case h_3 => exact h
  all_goals simp [h]

@[simp] theorem powerDownLamp_calm (h : Calm m v (postureOf s)) : Calm m v (postureOf (powerDownLamp s)) := by
  unfold powerDownLamp cancelRestrike
  split
  case h_3 => exact h
  all_goals repeat' split
  all_goals simp [h]

@[simp] theorem leaveFailed_calm (h : Calm m v (postureOf s)) : Calm m v (postureOf (leaveFailed s)) := by
  unfold leaveFailed
  split
  · exact sleepTest_calm (by simpa using lampDark_calm (.inl rfl) h)
  · exact h

/-! ### Strikes and swaps -/

theorem enterPreheat_calm (c : Reason) (dest : Level) (b : Bool) (h : Calm m v (postureOf s))
    (hw : (postureOf s).Awake v) : Calm m v (postureOf (enterPreheat c dest b s)) := by
  have heated : Calm m v (postureOf (preheated dest b s)) := recomputeD_calm (h.stir hw rfl)
  rw [enterPreheat_eq, postureOf_reportLamp]
  split
  · exact endCooldown_calm heated
  · exact heated

theorem startSwap_calm (c : Reason) (w : Swap) (h : Calm m v (postureOf s)) (hw : (postureOf s).Awake v) :
    Calm m v (postureOf (startSwap c w s)) := by
  unfold startSwap
  rw [postureOf_reportLamp]
  exact recomputeD_calm (h.stir hw rfl)

theorem active_of_strikeRefusal (h : strikeRefusal s = none) : s.heat.power = .active := by
  by_contra hp
  simp [strikeRefusal, hp] at h

@[simp] theorem strike_calm (c : Reason) (h : Calm m v (postureOf s)) : Calm m v (postureOf (strike c s).2) := by
  unfold strike
  split
  · exact h
  · next hr =>
    have awake : (postureOf s).Awake v := awake_of_active (active_of_strikeRefusal hr)
    unfold makeStrike
    split
    · exact h
    · dsimp only
      split
      · exact startSwap_calm _ _ h awake
      · exact enterPreheat_calm _ _ _ h awake

@[simp] theorem strikeUnanswered_calm (c : Reason) (h : Calm m v (postureOf s)) :
    Calm m v (postureOf (strikeUnanswered c s)) := by
  have hs := strike_calm c h
  unfold strikeUnanswered
  split <;> simp_all

@[simp] theorem takeCueFade_calm (level n : Nat) (h : Calm m v (postureOf s)) :
    Calm m v (postureOf (takeCueFade level n s)) := by
  unfold takeCueFade
  dsimp only
  repeat' split
  all_goals simp [h]

theorem restrikeLamp_calm (lv : Level) (h : Calm m v (postureOf s)) : Calm m v (postureOf (restrikeLamp lv s)) := by
  unfold restrikeLamp
  split
  · simp [h]
  · next hp =>
    split
    · simp [h]
    · exact enterPreheat_calm _ _ _ h (awake_of_active (by simpa using hp))

@[simp] theorem swapEnds_calm (h : Calm m v (postureOf s)) : Calm m v (postureOf (swapEnds s)) := by
  unfold swapEnds
  split
  · dsimp only
    split
    · exact restrikeLamp_calm _ (by simpa using h)
    · split
      · exact sleepTest_calm (by simpa using lampDark_calm (.inr rfl) (by simpa using h))
      · exact lampGoesOff_calm _ (by simpa using h)
  · exact h

/-! ### The burning lamp -/

@[simp] theorem fadeAdvance_calm (h : Calm m v (postureOf s)) : Calm m v (postureOf (fadeAdvance s)) := by
  unfold fadeAdvance
  split
  · split
    · exact recomputeD_calm h
    · split
      · exact lampGoesOff_calm _ h
      · exact recomputeD_calm h
  · exact h

@[simp] theorem lampLights_calm (h : Calm m v (postureOf s)) : Calm m v (postureOf (lampLights s)) := by
  unfold lampLights
  split
  · next hp =>
    rw [postureOf_reportLamp]
    exact startFade_calm _ _ _ (h.stir (awake_of_lamp h (by simp [hp])) rfl)
  · exact h

theorem openFilament_calm (h : Calm m v (postureOf s)) : Calm m v (postureOf (openFilament s)) := by
  have failed {m v} (g : Calm m v (postureOf s)) : Calm m v (postureOf (darkTest (filamentFailed s))) := by
    refine darkTest_calm (recomputeD_calm ?_)
    cases hp : s.lamp.active <;> exact g
  rw [openFilament_eq]
  split
  · next hs => exact startSwap_calm _ _ (failed h) (h.stays_active (failed (.refl _)) hs.2.2.1)
  · exact sleepTest_calm (by simpa using lampDark_calm (.inr rfl) (failed h))

@[simp] theorem filamentSample_calm (b : Bool) (h : Calm m v (postureOf s)) :
    Calm m v (postureOf (filamentSample b s)) := by
  unfold filamentSample
  split
  · split
    · dsimp only
      split
      · cases hp : s.lamp.active <;> exact h
      · exact h
    · split
      · exact h
      · exact openFilament_calm h
  · exact h

@[simp] theorem fadeStepEvent_calm (b : Bool) (h : Calm m v (postureOf s)) :
    Calm m v (postureOf (fadeStepEvent b s)) :=
  filamentSample_calm b (darkTest_calm (fadeAdvance_calm h))

end Sys2Proof.Machine
end

section
/-! ## Tape, moves and cues stay calm -/

namespace Sys2Proof.Machine

variable {m : Pace} {v : Posture} {s t : State}

/-! ### Moves -/

@[simp] theorem offerMove_calm (e : MoveEntry) (h : Calm m v (postureOf s)) :
    Calm m v (postureOf (offerMove e s).2) := by
  unfold offerMove
  repeat' split
  all_goals simp [h]

@[simp] theorem offerKeyMove_calm (k : Key) (r : Remote) (mv : Move) (h : Calm m v (postureOf s)) :
    Calm m v (postureOf (offerKeyMove k r mv s)) := by
  have ho := offerMove_calm (plainMove .remote mv) h
  unfold offerKeyMove
  split <;> simp_all

@[simp] theorem offerCueMove_calm (i : Nat) (mv : Move) (h : Calm m v (postureOf s)) :
    Calm m v (postureOf (offerCueMove i mv s)) := by
  have ho := offerMove_calm (plainMove .cue mv) h
  unfold offerCueMove
  split <;> simp_all

@[simp] theorem offerTimerMove_calm (h : Calm m v (postureOf s)) : Calm m v (postureOf (offerTimerMove s)) := by
  have ho := offerMove_calm (plainMove .timer (.step 1)) h
  unfold offerTimerMove
  split <;> simp_all

@[simp] theorem offerChaseMove_calm (o : Option ChaseOwner) (t : Nat) (h : Calm m v (postureOf s)) :
    Calm m v (postureOf (offerChaseMove o t s)) := by
  have ho := offerMove_calm { source := .chase, move := .goto t, tags := [], owner := o } h
  unfold offerChaseMove
  dsimp only
  split <;> simp_all

@[simp] theorem hostMove_calm (mv : Move) (tag : Byte) (h : Calm m v (postureOf s)) :
    Calm m v (postureOf (hostMove mv tag s).2) := by
  have ho := offerMove_calm { source := .host, move := mv, tags := [tag], owner := none } h
  unfold hostMove
  split <;> simp_all

@[simp] theorem runChase_calm (o : Option ChaseOwner) (i : Nat) (h : Calm m v (postureOf s)) :
    Calm m v (postureOf (runChase o i s)) := by
  simp [runChase, applyChase, h]

@[simp] theorem logChase_calm (o : ChaseOwner) (i : Nat) (h : Calm m v (postureOf s)) :
    Calm m v (postureOf (logChase o i s)) := by
  unfold logChase
  split <;> simp [h]

/-! ### Rest and the entries of the Transport -/

@[simp] theorem restEvent_calm (h : Calm m v (postureOf s)) : Calm m v (postureOf (restEvent s)) := by
  unfold restEvent loopRest
  repeat' split
  all_goals simp [h]

@[simp] theorem seekEndHanded_calm (k : Seek) (h : Calm m v (postureOf s)) :
    Calm m v (postureOf (seekEndHanded k s)) := by
  unfold seekEndHanded
  dsimp only
  split
  · split <;> split <;> simp [h]
  · split <;> simp [h]

/-- A tape that comes to rest disturbs no SLEEP. -/
theorem stillIn_calm {st : TapeState} (hst : st = .stopped ∨ st = .noTape) (h : Calm m v (postureOf s)) :
    Calm m v (postureOf (stillIn st s)) :=
  h.step rfl fun l hp =>
    have ⟨cooling, drive, lamp, _, stage⟩ := h.resting l hp
    ⟨cooling, drive, lamp, hst, stage⟩

@[simp] theorem enterStopped_calm (c : Reason) (e : TapeEnds) (h : Calm m v (postureOf s)) :
    Calm m v (postureOf (enterStopped c e s)) := by
  have stopped : Calm m v (postureOf (stillIn .stopped (leaveTape s))) := stillIn_calm (.inl rfl) (by simpa using h)
  unfold enterStopped seekReached
  dsimp only
  split
  · exact sleepTest_calm (by simpa using seekEndHanded_calm _ (s := { stillIn .stopped (leaveTape s) with
      transport.seek := none }) stopped)
  · exact sleepTest_calm (by simpa using restEvent_calm stopped)

/-- From a tape left behind in a part that is awake, the tape goes to any state. -/
theorem Calm.stir_tape (h : Calm m v (postureOf s)) (hw : (postureOf s).Awake v)
    (ht : (postureOf t).mains = (postureOf (leaveTape s)).mains) : Calm m v (postureOf t) :=
  h.stir hw (ht.trans (by rw [postureOf_leaveTape]))

section Motion

variable (h : Calm m v (postureOf s)) (hw : (postureOf s).Awake v)
include h hw

theorem enterPaused_calm (c : Reason) (e : TapeEnds) : Calm m v (postureOf (enterPaused c e s)) := by
  have paused : Calm m v (postureOf (stillIn .paused (leaveTape s))) := h.stir_tape hw rfl
  simp [enterPaused, paused]

theorem brakeTo_calm (d : PendingDest) : Calm m v (postureOf (brakeTo d s)) := h.stir_tape hw rfl

theorem driveTape_calm (st : TapeState) (d : CountDir) : Calm m v (postureOf (driveTape st d (leaveTape s))) :=
  h.stir_tape hw rfl

end Motion

@[simp] theorem leaderInRewind_calm (h : Calm m v (postureOf s)) : Calm m v (postureOf (leaderInRewind s)) := by
  unfold leaderInRewind
  split
  · next hs =>
    rw [postureOf_reportTape]
    exact brakeTo_calm (s := { s with transport.reel := 0, transport.zeroKnown := true }) h
      (awake_of_tape h (by simp [hs.2])) _
  · exact h

theorem enterRewinding_calm (c : Reason) (e : TapeEnds) (h : Calm m v (postureOf s)) (hw : (postureOf s).Awake v) :
    Calm m v (postureOf (enterRewinding c e s)) := by
  have driven := driveTape_calm h hw .rewinding .backward
  exact leaderInRewind_calm (by rw [postureOf_reportTape]; exact driven)

/-! ### Motion requests and the end of the audio fade -/

/-- A taken motion request is calm when the entry it may make is. All but STOP need a part that is awake. -/
theorem moveTape_calm {enter : MotionReq → MotionSource → TapeEnds → State → State} {req : MotionReq}
    (he : ∀ src e (u : State), Calm m v (postureOf u) → (req ≠ .stop → (postureOf u).Awake v) →
      Calm m v (postureOf (enter req src e u)))
    (source : MotionSource) (tag : Option Byte) (h : Calm m v (postureOf s)) (hq : req ≠ .stop → (postureOf s).Awake v) :
    Calm m v (postureOf (moveTape enter req source tag s).2) := by
  let s1 : State := { s with transport.seek := if source = .seek then s.transport.seek else none }
  have h1 : Calm m v (postureOf s1) := h
  have entered (e : TapeEnds) : Calm m v (postureOf (enter req source e s1)) := he _ _ _ h1 hq
  have braked (d : PendingDest) (hs : s.transport.state ≠ .stopped ∧ s.transport.state ≠ .noTape) :
      Calm m v (postureOf (brakeTo d s1)) := brakeTo_calm h1 (awake_of_tape h hs) _
  unfold moveTape
  dsimp only
  split
  · simpa using h
  · split
    · simpa using h
    · exact entered _
    · exact entered _
    · next hs =>
      split
      · exact enterPaused_calm h1 (awake_of_tape (s := s) h (by simp [hs])) _ _
      · simpa using braked _ (by simp [hs])
    · next hs =>
      split
      · exact entered _
      · simpa using braked _ (by simp [hs])
    · next hs => simpa using braked _ (by simp [hs])
    · next hs => simpa using braked _ (by simp [hs])

theorem takeMotion_calm {enter : MotionReq → MotionSource → TapeEnds → State → State} {hand cut : State → State}
    {req : MotionReq}
    (he : ∀ src e (u : State), Calm m v (postureOf u) → (req ≠ .stop → (postureOf u).Awake v) →
      Calm m v (postureOf (enter req src e u)))
    (hh : ∀ u : State, Calm m v (postureOf u) → Calm m v (postureOf (hand u)))
    (hc : ∀ u : State, Calm m v (postureOf u) → Calm m v (postureOf (cut u)))
    (source : MotionSource) (tag : Option Byte) (h : Calm m v (postureOf s)) (hq : req ≠ .stop → (postureOf s).Awake v) :
    Calm m v (postureOf (takeMotion enter hand cut req source tag s).2) := by
  have handed := hh _ (moveTape_calm he source tag h hq)
  unfold takeMotion
  dsimp only
  split
  · exact hc _ handed
  · exact handed

/-- A motion request that is not refused is STOP or comes in ACTIVE (R91). -/
theorem awake_of_motionRefusal {req : MotionReq} (hr : motionRefusal req s = none) (hs : req ≠ .stop) :
    (postureOf s).Awake v := by
  refine awake_of_active ?_
  by_contra hp
  simp [motionRefusal, hp, hs] at hr

theorem enterShow_calm {req : MotionReq} (src : MotionSource) (e : TapeEnds) (u : State) (h : Calm m v (postureOf u))
    (hq : req ≠ .stop → (postureOf u).Awake v) : Calm m v (postureOf (enterShow req src e u)) := by
  unfold enterShow
  split
  · next hr => exact enterRewinding_calm _ _ h (hq (by simp [hr]))
  · exact h

theorem showMotion_calm {cut : State → State}
    (hc : ∀ u : State, Calm m v (postureOf u) → Calm m v (postureOf (cut u))) (req : MotionReq)
    (h : Calm m v (postureOf s)) : Calm m v (postureOf (showMotion cut req s).2) := by
  unfold showMotion
  split
  · split <;> simp [h, recordTapeRefusal]
  · next hr =>
    exact takeMotion_calm enterShow_calm (fun _ g => by simpa using g) hc _ _ h (awake_of_motionRefusal hr)

theorem fadeEndsWith_calm {stop : State → State} {rewind : State → Option Reason × State}
    (hs : ∀ u : State, Calm m v (postureOf u) → Calm m v (postureOf (stop u)))
    (hr : ∀ u : State, Calm m v (postureOf u) → Calm m v (postureOf (rewind u).2)) (h : Calm m v (postureOf s)) :
    Calm m v (postureOf (fadeEndsWith stop rewind s)) := by
  have stopped := hs s h
  unfold fadeEndsWith
  dsimp only
  split
  · split
    · have rewound := hr { stop s with cueLog.phase := .rewinding } stopped
      split
      · next hq => simpa [hq] using rewound
      · next hq => simpa [hq] using rewound
    · exact stopped
  · exact h

@[simp] theorem audioFadeEnd_calm (h : Calm m v (postureOf s)) : Calm m v (postureOf (audioFadeEnd s)) := by
  refine fadeEndsWith_calm (fun u g => ?_) (fun _ => showMotion_calm (fun _ g => g) _) h
  unfold fadeEndStop
  split
  · exact showMotion_calm (fun _ g => g) _ g
  · exact g

@[simp] theorem fadeEndsAtRemoval_calm (h : Calm m v (postureOf s)) : Calm m v (postureOf (fadeEndsAtRemoval s)) :=
  fadeEndsWith_calm (fun _ g => g) (fun _ g => by simpa using g) h

@[simp] theorem cutIf_calm (b : Bool) (h : Calm m v (postureOf s)) : Calm m v (postureOf (cutIf b s)) := by
  unfold cutIf
  split <;> simp [h]

@[simp] theorem requestEndFade_calm (h : Calm m v (postureOf s)) : Calm m v (postureOf (requestEndFade s)) := by
  unfold requestEndFade
  repeat' split
  all_goals simp [h]

@[simp] theorem endSequence_calm (h : Calm m v (postureOf s)) : Calm m v (postureOf (endSequence s)) := by
  unfold endSequence
  split
  · have decided : Calm m v (postureOf (decideRestart s)) := by simpa using h
    exact requestEndFade_calm (withDarkTest_calm (lampEndFade_calm (by rw [postureOf_stopTimer]; exact decided)))
  · exact h

@[simp] theorem endFadeAdvance_calm (h : Calm m v (postureOf s)) : Calm m v (postureOf (endFadeAdvance s)) := by
  unfold endFadeAdvance
  repeat' split
  all_goals simp [h]

@[simp] theorem showPause_calm (h : Calm m v (postureOf s)) : Calm m v (postureOf (showPause s)) :=
  showMotion_calm (fun _ => audioFadeEnd_calm) _ h

/-! ### Removal, insertion, stall, STANDBY -/

@[simp] theorem insertCassette_calm (h : Calm m v (postureOf s)) : Calm m v (postureOf (insertCassette s)) := by
  have stopped : Calm m v (postureOf (stillIn .stopped s)) := stillIn_calm (.inl rfl) h
  unfold insertCassette
  split
  · exact sleepTest_calm (by rw [postureOf_reportTape]; exact stopped)
  · exact h

@[simp] theorem removeCassette_calm (h : Calm m v (postureOf s)) : Calm m v (postureOf (removeCassette s)) := by
  have left : Calm m v (postureOf (leaveTape (endSeek .cancelled .noTape s))) := by simpa using h
  unfold removeCassette
  dsimp only
  split
  · exact h
  · refine sleepTest_calm ?_
    rw [postureOf_reportTape, postureOf_clearSeekCue, postureOf_endLoop]
    refine stillIn_calm (s := if fadeRuns s then _ else _) (.inr rfl) ?_
    split
    · exact fadeEndsAtRemoval_calm left
    · exact left

@[simp] theorem tapeStalls_calm (h : Calm m v (postureOf s)) : Calm m v (postureOf (tapeStalls s)) := by
  have stopped : Calm m v (postureOf (stillIn .stopped (leaveTape s))) := stillIn_calm (.inl rfl) (by simpa using h)
  have rested := restEvent_calm stopped
  unfold tapeStalls
  split
  case h_4 => exact h
  all_goals exact sleepTest_calm (by simpa using cutIf_calm _ (by simpa using rested))

@[simp] theorem tapeStandby_calm (h : Calm m v (postureOf s)) : Calm m v (postureOf (tapeStandby s)) := by
  have braked (d : PendingDest) (hs : s.transport.state ≠ .stopped ∧ s.transport.state ≠ .noTape) :
      Calm m v (postureOf (brakeTo d { s with transport.seek := none })) :=
    brakeTo_calm (s := { s with transport.seek := none }) h (awake_of_tape h hs) _
  unfold tapeStandby
  dsimp only
  split
  · next hs => exact cutIf_calm _ (by simpa using braked _ (by simp [hs]))
  · next hs => exact cutIf_calm _ (by simpa using braked _ (by simp [hs]))
  · next hs => exact cutIf_calm _ (by simpa using braked _ (by simp [hs]))
  · next hs => exact cutIf_calm _ (by simpa using braked _ (by simp [hs]))
  · simpa using h
  · exact h
  · exact h

/-! ### Forward motion and seeks -/

@[simp] theorem leaderAhead_calm (h : Calm m v (postureOf s)) : Calm m v (postureOf (leaderAhead s)) := by
  unfold leaderAhead tapeEnds
  split
  · next hs =>
    have moving : s.transport.state ≠ .stopped ∧ s.transport.state ≠ .noTape := by rcases hs.2.1 with g | g <;> simp [g]
    exact cutIf_calm _ (endSequence_calm (by
      simpa using brakeTo_calm (s := { s with transport.seek := none }) h (awake_of_tape h moving) _))
  · exact h

section Starts

variable (h : Calm m v (postureOf s)) (hw : (postureOf s).Awake v)
include h hw

theorem enterPlaying_calm (src : MotionSource) (c : Reason) (e : TapeEnds) :
    Calm m v (postureOf (enterPlaying src c e s)) := by
  have driven := driveTape_calm h hw .playing .forward
  exact leaderAhead_calm (by simpa using restEvent_calm (s := { driveTape .playing .forward (leaveTape s) with
    transport.gain := s.items.volume, transport.endFade := .idle }) driven)

theorem enterWinding_calm (c : Reason) (e : TapeEnds) : Calm m v (postureOf (enterWinding c e s)) :=
  leaderAhead_calm (by simpa using driveTape_calm h hw .winding .forward)

end Starts

theorem enterNow_calm {req : MotionReq} (src : MotionSource) (e : TapeEnds) (u : State) (h : Calm m v (postureOf u))
    (hq : req ≠ .stop → (postureOf u).Awake v) : Calm m v (postureOf (enterNow req src e u)) := by
  cases req
  case play => exact enterPlaying_calm h (hq (by simp)) _ _ _
  case wind => exact enterWinding_calm h (hq (by simp)) _ _
  case rewind => exact enterRewinding_calm _ _ h (hq (by simp))
  all_goals exact h

theorem takeRequest_calm {q : MotionReq} (src : MotionSource) (t : Option Byte) (h : Calm m v (postureOf s))
    (hq : motionRefusal q s = none) : Calm m v (postureOf (takeRequest q src t s).2) :=
  takeMotion_calm enterNow_calm (fun _ g => by simpa using g) (fun _ => audioFadeEnd_calm) _ _ h
    (awake_of_motionRefusal hq)

@[simp] theorem hostMotion_calm (q : MotionReq) (t : Byte) (h : Calm m v (postureOf s)) :
    Calm m v (postureOf (hostMotion q t s).2) := by
  unfold hostMotion
  split
  · simpa using h
  · next hr => exact takeRequest_calm _ _ h hr

@[simp] theorem keyMotion_calm (k : Key) (r : Remote) (q : MotionReq) (h : Calm m v (postureOf s)) :
    Calm m v (postureOf (keyMotion k r q s)) := by
  unfold keyMotion
  split
  · split <;> simp [h]
  · next hr => exact takeRequest_calm _ _ h hr

@[simp] theorem ownPlay_calm (src : MotionSource) (h : Calm m v (postureOf s)) :
    Calm m v (postureOf (ownPlay src s).2) := by
  unfold ownPlay
  split
  · simpa [recordTapeRefusal] using h
  · next hr =>
    refine takeMotion_calm enterNow_calm (fun u g => ?_) (fun _ => audioFadeEnd_calm) _ _ h (awake_of_motionRefusal hr)
    split <;> simpa using g

@[simp] theorem continueHold_calm (h : Calm m v (postureOf s)) : Calm m v (postureOf (continueHold s)) := by
  unfold continueHold
  dsimp only
  repeat' split
  all_goals simp [h]

@[simp] theorem playAfter_calm (k : Seek) (h : Calm m v (postureOf s)) : Calm m v (postureOf (playAfter k s)) := by
  unfold playAfter
  split <;> simp [h]

theorem seekDue_calm (k : Seek) (h : Calm m v (postureOf s)) (hw : (postureOf s).Awake v) :
    Calm m v (postureOf (seekDue k s)) := by
  unfold seekDue
  split
  · exact enterWinding_calm (s := { s with transport.seek := some { k with moved := .forward } }) h hw _ _
  · split
    · exact enterRewinding_calm (s := { s with transport.seek := some { k with moved := .backward } }) _ _ h hw
    · exact playAfter_calm _ (enterStopped_calm _ _ h)

theorem beginSeek_calm {hand : State → State}
    (hh : ∀ u : State, Calm m v (postureOf u) → Calm m v (postureOf (hand u))) (k : Seek) (h : Calm m v (postureOf s))
    (hw : (postureOf s).Awake v) : Calm m v (postureOf (beginSeek hand k s).2) := by
  have braked (d : PendingDest) : Calm m v (postureOf (brakeTo d { s with transport.seek := some k })) :=
    brakeTo_calm (s := { s with transport.seek := some k }) h hw _
  unfold beginSeek
  dsimp only
  split
  · exact hh _ (seekDue_calm _ (by simpa using h) (by simpa using hw))
  · exact hh _ (seekDue_calm _ (by simpa using h) (by simpa using hw))
  · exact hh _ (by simpa using h)
  all_goals exact cutIf_calm _ (hh _ (by simpa using braked _))

@[simp] theorem hostSeek_calm (n : Nat) (t : Byte) (h : Calm m v (postureOf s)) :
    Calm m v (postureOf (hostSeek n t s).2) := by
  unfold hostSeek
  split
  · simpa using h
  · next hr => exact beginSeek_calm (fun _ g => by simpa using g) _ h (awake_of_motionRefusal hr (by simp))

theorem takeSeekCue_calm (k : Nat) (e : LogEntry) (h : Calm m v (postureOf s)) (hw : (postureOf s).Awake v) :
    Calm m v (postureOf (takeSeekCue k e s)) := by
  have ended := postureOf_endLoop s .host none
  rw [← ended] at h hw
  exact beginSeek_calm (fun _ g => g) _ h hw

@[simp] theorem brakeEnds_calm (h : Calm m v (postureOf s)) : Calm m v (postureOf (brakeEnds s)) := by
  unfold brakeEnds
  split
  · next hs _ =>
    have awake : (postureOf s).Awake v := awake_of_tape h (by simp [hs])
    unfold enterPending
    dsimp only
    split
    · split <;> simp [h]
    · exact enterPlaying_calm h awake _ _ _
    · exact enterRewinding_calm _ _ h awake
    · exact enterWinding_calm h awake _ _
    · split
      · exact seekDue_calm _ h awake
      · simp [h]
  · exact h

@[simp] theorem leaderChanges_calm (b : Bool) (h : Calm m v (postureOf s)) :
    Calm m v (postureOf (leaderChanges b s)) := leaderAhead_calm (leaderInRewind_calm h)

@[simp] theorem chaseComplete_calm (o : Option ChaseOwner) (h : Calm m v (postureOf s)) :
    Calm m v (postureOf (chaseComplete o s)) := by
  unfold chaseComplete
  split
  · dsimp only
    repeat' split
    all_goals simp [h]
  · split
    · have lit : Calm m v (postureOf (withDarkTest programLight { s with cueLog.phase := .idle, cueLog.restart := false })) :=
        withDarkTest_calm (programLight_calm h)
      have played := ownPlay_calm .restart lit
      dsimp only
      split
      · next hq => simpa [hq] using played
      · next hq => simpa [hq] using played
    · exact h
  · exact h

end Sys2Proof.Machine
end

section
/-! ## The events of a cycle, cues and the decoder stay calm -/

namespace Sys2Proof.Machine

variable {m : Pace} {v : Posture} {s t : State}

/-! ### Events of the cycle -/

theorem settleEnds_calm (h : Calm m v (postureOf s)) : Calm m v (postureOf (settleEnds s)) := by
  unfold settleEnds
  split
  · next hs _ =>
    have done : Calm m v (postureOf (doneStage (lightStage s))) := by
      rw [postureOf_doneStage]
      exact lightStage_calm h (by simp [hs])
    dsimp only
    refine startReady_calm (sleepTest_calm (toIdle_calm ?_))
    split
    · simpa using done
    · exact chaseComplete_calm _ done
  · exact h

theorem shutterCloses_calm (h : Calm m v (postureOf s)) : Calm m v (postureOf (shutterCloses s)) := by
  unfold shutterCloses
  split
  · next hs _ =>
    split
    · exact startReady_calm (toLift_calm h (awake_of_stage h (by simp [hs])))
    · exact h
  · exact h

theorem liftReported_calm (h : Calm m v (postureOf s)) : Calm m v (postureOf (liftReported s)) := by
  unfold liftReported
  split
  · next hs =>
    exact startReady_calm (toRotate_calm
      (s := { s with changer.gate := .empty, changer.liftArm := false, changer.window := none })
      h (awake_of_stage h (by simp [hs])))
  · exact h

theorem liftExpires_calm (h : Calm m v (postureOf s)) : Calm m v (postureOf (liftExpires s)) := by
  unfold liftExpires
  split
  · exact changerFails_calm _ rfl h
  · exact h

theorem stallExpires_calm (h : Calm m v (postureOf s)) : Calm m v (postureOf (stallExpires s)) := by
  unfold stallExpires
  split
  · exact changerFails_calm _ rfl h
  · exact h

section Turning

variable (h : Calm m v (postureOf s)) (hw : (postureOf s).Awake v)
include h hw

theorem rotationPulse_calm : Calm m v (postureOf (rotationPulse s)) := by
  unfold rotationPulse
  split
  · split
    · exact toDrop_calm (by simpa using h) (by simpa using hw)
    · split
      · exact toDrop_calm h hw
      · split
        · exact toPaused_calm h hw
        · exact h
  · exact h

theorem searchPulse_calm (b : Bool) : Calm m v (postureOf (searchPulse b s)) := by
  unfold searchPulse
  dsimp only
  split
  · exact searchFound_calm h hw
  · split
    · exact changerFails_calm _ rfl h
    · split
      · exact toPaused_calm (s := { s with tray.search := some _ }) h hw
      · exact h

end Turning

/-- A pulse of the home mark moves a cycle only while the motor turns. -/
theorem indexPulseEvent_calm (b : Bool) (h : Calm m v (postureOf s)) (hw : s.changer.motor ≠ none → (postureOf s).Awake v) :
    Calm m v (postureOf (indexPulseEvent b s)) := by
  unfold indexPulseEvent
  dsimp only
  split
  · exact h
  · next hm _ =>
    have awake := hw (by simp [hm])
    exact startReady_calm (rotationPulse_calm (by simpa using h) (by simpa using awake))
  · next hm _ =>
    exact startReady_calm (searchPulse_calm (s := { s with lines.homeMark := b }) h (hw (by simp [hm])) _)

theorem dropReported_calm (h : Calm m v (postureOf s)) : Calm m v (postureOf (dropReported s)) := by
  unfold dropReported
  repeat' split
  all_goals exact h

theorem seatReported_calm (h : Calm m v (postureOf s)) : Calm m v (postureOf (seatReported s)) := by
  unfold seatReported
  split
  · next hs =>
    have awake : (postureOf s).Awake v := awake_of_stage h (by simp [hs.1])
    exact toSettle_calm (by simpa using h) (by simpa using awake)
  · exact h

section Dropped

variable (h : Calm m v (postureOf s)) (hw : (postureOf s).Awake v)
include h hw

theorem extend_calm (n : Int) (p : Nat) : Calm m v (postureOf (extend n p s)) := by
  unfold extend
  dsimp only
  split
  · exact failMove_calm _ h
  · split
    · exact failMove_calm _ h
    · split
      · exact toSettle_calm (by simpa using h) (by simpa using hw)
      · exact toLift_calm (by simpa using h) (by simpa using hw)

theorem afterEmptyDrop_calm : Calm m v (postureOf (afterEmptyDrop s)) := by
  unfold afterEmptyDrop
  split
  · split
    · split
      · exact extend_calm h hw _ _
      · exact toSettle_calm h hw
    · exact toSettle_calm h hw
  · exact toSettle_calm h hw

theorem abortPaused_calm : Calm m v (postureOf (abortPaused s)) := by
  unfold abortPaused
  split
  · exact toDrop_calm (by simpa using h) (by simpa using hw)
  · exact toRotate_calm (by simpa using h) (by simpa using hw)

theorem continueCycle_calm : Calm m v (postureOf (continueCycle s)) := by
  unfold continueCycle
  split
  · exact h
  · exact h
  · exact startReady_calm (toRotate_calm (s := { s with changer.pause := .clear }) h hw)

end Dropped

theorem dropExpires_calm (h : Calm m v (postureOf s)) : Calm m v (postureOf (dropExpires s)) := by
  unfold dropExpires
  split
  · next hs =>
    have awake : (postureOf s).Awake v := awake_of_stage h (by simp [hs.1])
    exact startReady_calm (afterEmptyDrop_calm (by simpa using h) (by simpa using awake))
  · exact h

theorem seatExpires_calm (h : Calm m v (postureOf s)) : Calm m v (postureOf (seatExpires s)) := by
  unfold seatExpires
  split
  · exact changerFails_calm _ rfl (by simpa using h)
  · exact h

theorem abortCycle_calm (h : Calm m v (postureOf s)) : Calm m v (postureOf (abortCycle s)) := by
  unfold abortCycle
  split
  · exact h
  · split
    · exact h
    · split
      · exact h
      · next hs => exact startReady_calm (finishAborted_calm (by simpa using h) (by simp [redirect, hs]))
      · next hs => exact startReady_calm (finishAborted_calm (by simpa using h) (by simp [redirect, hs]))
      · simpa using h
      · split <;> simpa using h
      · next hs => exact startReady_calm (abortPaused_calm h (awake_of_stage h (by simp [hs])))
      all_goals simpa using h

@[simp] theorem abortAll_calm (h : Calm m v (postureOf s)) : Calm m v (postureOf (abortAll s)) :=
  abortCycle_calm (by
    have cleared := postureOf_clearQueue s .aborted
    exact cleared.symm ▸ h)

@[simp] theorem changerStandby_calm (h : Calm m v (postureOf s)) : Calm m v (postureOf (changerStandby s)) := by
  have cleared : Calm m v (postureOf (clearQueue .notActive s)) := by simpa using h
  unfold changerStandby
  dsimp only
  split
  · next hs => exact abortPaused_calm cleared (awake_of_stage cleared (by simp [hs]))
  · exact cleared

@[simp] theorem removeFromChanger_calm (h : Calm m v (postureOf s)) : Calm m v (postureOf (removeFromChanger s)) := by
  unfold removeFromChanger
  dsimp only
  split
  · simpa using h
  · exact sleepTest_calm (toIdle_calm (by simpa using h))

@[simp] theorem trayCodeChanges_calm (code : Fin 4) (h : Calm m v (postureOf s)) :
    Calm m v (postureOf (trayCodeChanges code s)) := by
  have out : Calm m v (postureOf (removeTray code s)) := by
    rw [removeTray, postureOf_give]
    exact removeFromChanger_calm h
  have settled {u : State} (g : Calm m v (postureOf u)) : Calm m v (postureOf
      (if 0 < capacity code then seatTray code (settleTrayCode code u) else settleTrayCode code u)) := by
    rw [← postureOf_settleTrayCode u code] at g
    split
    · rw [seatTray, postureOf_give]
      exact g
    · exact g
  unfold trayCodeChanges
  dsimp only
  split
  · exact h
  · refine startReady_calm (settled ?_)
    split
    · exact out
    · exact h

/-! ### Timer, hold and cues -/

@[simp] theorem timerExpires_calm (h : Calm m v (postureOf s)) : Calm m v (postureOf (timerExpires s)) := by
  unfold timerExpires
  split
  · exact offerTimerMove_calm h
  · exact h

@[simp] theorem takeHold_calm (h : Calm m v (postureOf s)) : Calm m v (postureOf (takeHold s)) := by
  unfold takeHold
  dsimp only
  repeat' split
  all_goals simp [h]

@[simp] theorem takeAction_calm (k : CueKind) (i : Nat) (a : Action) (h : Calm m v (postureOf s)) :
    Calm m v (postureOf (takeAction k i a s)) := by
  cases a with
  | fade level duration => exact withDarkTest_calm (takeCueFade_calm _ _ h)
  | _ => simp [takeAction, h]

@[simp] theorem takeActions_calm (k : CueKind) (i : Nat) (as : List Action) (h : Calm m v (postureOf s)) :
    Calm m v (postureOf (takeActions k i as s)) := by
  induction as generalizing s with
  | nil => exact h
  | cons a as ih => exact ih (takeAction_calm k i a h)

@[simp] theorem actOnCue_calm (k : CueKind) (i : Nat) (h : Calm m v (postureOf s)) :
    Calm m v (postureOf (actOnCue k i s)) := by
  unfold actOnCue
  repeat' split
  all_goals simp [h]

@[simp] theorem takeCue_calm (k : CueKind) (o : Origin) (i r : Option Nat) (h : Calm m v (postureOf s)) :
    Calm m v (postureOf (takeCue k o i r s)) := by
  unfold takeCue
  dsimp only
  split <;> simp [h]

@[simp] theorem handCue_calm (k : CueKind) (o : Origin) (i : Option Nat) (r : Nat) (h : Calm m v (postureOf s)) :
    Calm m v (postureOf (handCue k o i r s)) := by
  unfold handCue
  split <;> simp [h]

@[simp] theorem logCue_calm (k : CueKind) (h : Calm m v (postureOf s)) : Calm m v (postureOf (logCue k s)) := by
  unfold logCue
  dsimp only
  repeat' split
  all_goals simp [h]

@[simp] theorem takeAllMissed_calm (n : Nat) (b : Bool) (es : List LogEntry) (h : Calm m v (postureOf s)) :
    Calm m v (postureOf (takeAllMissed n b es s)) := by
  induction es generalizing s with
  | nil => exact h
  | cons e es ih =>
    refine ih ?_
    unfold takeMissed
    split <;> simp [h]

theorem stopSeek_calm (h : Calm m v (postureOf s)) (hw : (postureOf s).Awake v) : Calm m v (postureOf (stopSeek s)) := by
  unfold stopSeek
  rw [postureOf_reportTape]
  exact brakeTo_calm h hw _

@[simp] theorem reelPulse_calm (h : Calm m v (postureOf s)) : Calm m v (postureOf (reelPulse s)) := by
  have stops {u : State} (g : Calm m v (postureOf u)) : Calm m v (postureOf (seekStops u)) := by
    unfold seekStops
    split
    · next hs =>
      split
      · exact stopSeek_calm g (awake_of_tape g (by simp [hs]))
      · exact g
    · next hs =>
      split
      · exact stopSeek_calm g (awake_of_tape g (by simp [hs]))
      · exact g
    · exact g
  unfold reelPulse missedTest
  dsimp only
  refine stops ?_
  repeat' split
  all_goals simp [h]

@[simp] theorem recogniserStep_calm (b : BitVec 3) (h : Calm m v (postureOf s)) :
    Calm m v (postureOf (recogniserStep b s)) := by
  unfold recogniserStep candidateAt recognised
  dsimp only
  repeat' split
  all_goals simp [h]

@[simp] theorem analyse_calm (l1 l2 l3 : Byte) (h : Calm m v (postureOf s)) :
    Calm m v (postureOf (analyse l1 l2 l3 s)) := by
  unfold analyse
  dsimp only
  split
  · exact recogniserStep_calm _ h
  · exact h

@[simp] theorem relayFrameTaken_calm (w : BitVec 14) (h : Calm m v (postureOf s)) :
    Calm m v (postureOf (relayFrameTaken w s)) := by
  unfold relayFrameTaken lineCue
  dsimp only
  repeat' split
  all_goals simp [h]

end Sys2Proof.Machine
end

section
/-! ## Power states, remotes and requests keep the law of SLEEP -/

namespace Sys2Proof.Machine

variable {m : Pace} {v : Posture} {s t : State}

/-! ### Power states -/

/-- STANDBY is entered lawfully from every state, for no sleep is pending elsewhere. -/
theorem standby_calm (h : Calm .loose v (postureOf s)) :
    Calm .loose v (postureOf (evalFan { s with heat.power := .standby })) :=
  h.trans ⟨rfl, fun _ => ⟨nofun, fun hp => absurd rfl hp⟩, nofun⟩

/-- What STANDBY stops, it stops without leaving it (R44, R57, R103, R153). -/
theorem stopShow_calm (h : Calm m v (postureOf s)) :
    Calm m v (postureOf (tapeStandby (programStandby (changerStandby (lampStandby s))))) :=
  tapeStandby_calm (by
    rw [postureOf_programStandby]
    exact changerStandby_calm (withDarkTest_calm (powerDownLamp_calm h)))

@[simp] theorem enterStandby_calm (h : Calm .loose v (postureOf s)) : Calm .loose v (postureOf (enterStandby s)) :=
  stopShow_calm (standby_calm h)

/-- No sleep is pending in ACTIVE, so that STANDBY entered there stands. -/
theorem enterStandby_power (h : Calm m v (postureOf s)) (ha : s.heat.power = .active) (l : v.Law) :
    (enterStandby s).heat.power = .standby := by
  have clear : s.heat.sleepPending = .clear := (h.law l).2 (by simp [postureOf, ha])
  have stood : Calm .steady (postureOf (evalFan { s with heat.power := .standby })) (postureOf (enterStandby s)) :=
    stopShow_calm (.refl _)
  exact (stood.steady rfl (.inl clear)).2.2

/-- A pending sleep cancelled. -/
theorem clearPending_calm (h : Calm .loose v (postureOf s)) :
    Calm .loose v (postureOf { s with heat.sleepPending := .clear }) :=
  h.trans ⟨rfl, fun l => ⟨l.1, fun _ => rfl⟩, nofun⟩

/-- A sleep is asked for in STANDBY (R82). -/
theorem setPending_calm (p : SleepPending) (h : Calm .loose v (postureOf s)) (hs : v.Law → s.heat.power = .standby) :
    Calm .loose v (postureOf { s with heat.sleepPending := p }) :=
  ⟨h.numbers, fun l => ⟨fun hp => absurd ((hs l).symm.trans hp) (by simp), fun hp => absurd (hs l) hp⟩, nofun⟩

@[simp] theorem activate_calm (c : Reason) (h : Calm .loose v (postureOf s)) :
    Calm .loose v (postureOf (activate c s)) := by
  have woken : Calm .loose v (postureOf (evalFan { s with heat.power := .active, heat.sleepPending := .clear })) :=
    h.trans ⟨rfl, fun _ => ⟨nofun, fun _ => rfl⟩, nofun⟩
  exact startReady_calm (by rw [powerNoticeEnding, postureOf_powerNotice]; exact woken)

/-- SLEEP entered by a request or a key, with its conditions met. -/
theorem sleepNow_calm (tag : Option Byte) (h : Calm .loose v (postureOf s)) (hc : (postureOf s).Resting) :
    Calm .loose v (postureOf (enterSleep tag s)) := enterSleep_calm tag h hc nofun

theorem askSleep_calm (t : Byte) (h : Calm .loose v (postureOf s)) (hs : s.heat.power = .standby) :
    Calm .loose v (postureOf (askSleep t s).2) := by
  have pending := setPending_calm (.set (some t)) h fun _ => hs
  unfold askSleep
  split
  · next hc => exact sleepNow_calm _ (by simpa using h) (by simpa using (posture_of_sleepConditions hc).1)
  · dsimp only
    split
    · rw [postureOf_powerNotice]
      exact pending
    · exact pending

theorem sleepFromActive_calm (t : Byte) (h : Calm .loose v (postureOf s)) (ha : s.heat.power = .active) :
    Calm .loose v (postureOf (sleepFromActive t s).2) := by
  unfold sleepFromActive
  dsimp only
  split
  · next hc => exact sleepNow_calm _ (by simpa using enterStandby_calm h) (by simpa using (posture_of_sleepConditions hc).1)
  · rw [postureOf_powerNotice]
    exact setPending_calm _ (enterStandby_calm h) (enterStandby_power h ha)

theorem powerModeTo_calm (md : PowerState) (t : Byte) (h : Calm .loose v (postureOf s)) (hp : s.heat.power ≠ .sleep) :
    Calm .loose v (postureOf (powerModeTo md t s).2) := by
  have cancelled := clearPending_calm h
  unfold powerModeTo
  split
  · exact h
  · exact activate_calm _ h
  · simpa using enterStandby_calm h
  · split
    · rw [postureOf_powerNotice]
      exact cancelled
    · exact cancelled
  · next ha => exact sleepFromActive_calm _ h ha
  · next ha =>
    refine askSleep_calm _ h ?_
    cases hs : s.heat.power with
    | active => exact absurd hs ha
    | standby => rfl
    | sleep => exact absurd hs hp

theorem keyPending_calm (h : Calm .loose v (postureOf s)) (hs : v.Law → s.heat.power = .standby) :
    Calm .loose v (postureOf (keyPending s)) := by
  unfold keyPending
  split
  · exact setPending_calm _ h hs
  · exact h

@[simp] theorem powerKeyToggles_calm (h : Calm .loose v (postureOf s)) :
    Calm .loose v (postureOf (powerKeyToggles s)) := by
  unfold powerKeyToggles
  split
  · simpa using enterStandby_calm h
  · exact activate_calm _ h
  · exact h

@[simp] theorem powerKeyHeld_calm (h : Calm .loose v (postureOf s)) : Calm .loose v (postureOf (powerKeyHeld s)) := by
  unfold powerKeyHeld
  dsimp only
  split
  · next ha =>
    split
    · next hc => exact sleepNow_calm _ (by simpa using enterStandby_calm h) (by simpa using (posture_of_sleepConditions hc).1)
    · rw [postureOf_powerNotice]
      exact keyPending_calm (enterStandby_calm h) (enterStandby_power h ha)
  · next hs =>
    split
    · next hc => exact sleepNow_calm _ h (posture_of_sleepConditions hc).1
    · exact keyPending_calm h fun _ => hs
  · exact h

/-! ### Remotes -/

@[simp] theorem commitEntry_calm (n : Nat) (h : Calm m v (postureOf s)) : Calm m v (postureOf (commitEntry n s)) := by
  unfold commitEntry
  dsimp only
  repeat' split
  all_goals simp [h]

@[simp] theorem gotoPress_calm (r : Remote) (h : Calm m v (postureOf s)) : Calm m v (postureOf (gotoPress r s)) := by
  unfold gotoPress
  split <;> simp [h]

@[simp] theorem entryExpires_calm (h : Calm m v (postureOf s)) : Calm m v (postureOf (entryExpires s)) := by
  unfold entryExpires
  repeat' split
  all_goals simp [h]

@[simp] theorem lampKey_calm (h : Calm m v (postureOf s)) : Calm m v (postureOf (lampKey s)) := by
  unfold lampKey
  split
  · exact withDarkTest_calm (lampOffNow_calm _ h)
  · exact strikeUnanswered_calm _ h

@[simp] theorem holdKey_calm (h : Calm m v (postureOf s)) : Calm m v (postureOf (holdKey s)) := by
  unfold holdKey
  split <;> simp [h]

@[simp] theorem playKey_calm (r : Remote) (h : Calm m v (postureOf s)) : Calm m v (postureOf (playKey r s)) := by
  unfold playKey
  split <;> simp [h]

@[simp] theorem keyAction_calm (r : Remote) (n : Nat) (k : Key) (h : Calm m v (postureOf s)) :
    Calm m v (postureOf (keyAction r n k s)) := by
  cases k <;> simp [keyAction, h]

@[simp] theorem pressActs_calm (r : Remote) (n : Nat) (k : Key) (h : Calm .loose v (postureOf s)) :
    Calm .loose v (postureOf (pressActs r n k s)) := by
  have discarded : Calm .loose v (postureOf (if keepsEntry k then s else discardEntry s)) := by split <;> exact h
  refine keyAction_calm _ _ _ ?_
  split
  · exact activate_calm _ discarded
  · exact discarded

@[simp] theorem press_calm (r : Remote) (n : Nat) (k : Key) (b : Bool) (h : Calm .loose v (postureOf s)) :
    Calm .loose v (postureOf (press r n k b s)) := by
  unfold press
  dsimp only
  repeat' split
  all_goals simp [h]

@[simp] theorem release_calm (r : Remote) (h : Calm .loose v (postureOf s)) :
    Calm .loose v (postureOf (release r s)) := by
  unfold release releaseActs
  repeat' split
  all_goals simp [h]

@[simp] theorem repeatKey_calm (r : Remote) (h : Calm m v (postureOf s)) : Calm m v (postureOf (repeatKey r s)) := by
  unfold repeatKey
  repeat' split
  all_goals simp [h]

@[simp] theorem powerHeldOn_calm (h : Calm .loose v (postureOf s)) : Calm .loose v (postureOf (powerHeldOn s)) := by
  unfold powerHeldOn
  repeat' split
  all_goals simp [h]

@[simp] theorem irKeyFrame_calm (n : Nat) (k : Key) (b : Bool) (h : Calm .loose v (postureOf s)) :
    Calm .loose v (postureOf (irKeyFrame n k b s)) := by
  unfold irKeyFrame
  repeat' split
  all_goals simp [h]

@[simp] theorem irFrameTaken_calm (w : BitVec 16) (h : Calm .loose v (postureOf s)) :
    Calm .loose v (postureOf (irFrameTaken w s)) := by
  unfold irFrameTaken wakeIfAsleep
  dsimp only
  repeat' split
  all_goals simp [h]

@[simp] theorem bandChanges_calm (b : Band) (h : Calm .loose v (postureOf s)) :
    Calm .loose v (postureOf (bandChanges b s)) := by
  unfold bandChanges
  dsimp only
  split <;> simp [h]

@[simp] theorem ladderSampled_calm (n : Nat) (h : Calm .loose v (postureOf s)) :
    Calm .loose v (postureOf (ladderSampled n s)) := by
  unfold ladderSampled bandSample
  repeat' split
  all_goals simp [h]

/-! ### Requests -/

theorem withThermal_calm {f : State → State} (h : Calm m v (postureOf (f s))) :
    Calm m v (postureOf (withThermal f s)) := by simpa [withThermal] using h

/-- A served request keeps the law when its body does, which runs on a part that is awake (R85). -/
theorem request_calm {k : Byte} {n : Nat} {hd : Hdr} {body : State → Answer × State}
    (hb : ∀ u : State, Calm .loose v (postureOf u) → u.heat.power ≠ .sleep → Calm .loose v (postureOf (body u).2))
    (h : Calm .loose v (postureOf s)) : Calm .loose v (postureOf (request k n hd body s)) := by
  have woken : Calm .loose v (postureOf (wake .frame (takePlace (k + 0x80) hd.tag s))) := wake_calm _ (by simpa using h)
  unfold request
  split
  · exact h
  · refine withThermal_calm ?_
    unfold serve served
    dsimp only
    rw [postureOf_fillReply]
    split
    · exact hb _ woken (wake_power _ _)
    · exact woken

theorem unlessRefused_calm {r : State → Option Reason} {f : State → State} (hf : Calm m v (postureOf (f s)))
    (h : Calm m v (postureOf s)) : Calm m v (postureOf (unlessRefused r f s).2) := by
  unfold unlessRefused
  split
  · exact h
  · exact hf

@[simp] theorem writeThreshold_calm (n : Nat) (h : Calm m v (postureOf s)) :
    Calm m v (postureOf (writeThreshold n s)) := by
  unfold writeThreshold thresholdLamp
  dsimp only
  split
  · split
    · exact recomputeD_calm h
    · exact h
  · split
    · exact withDarkTest_calm (startFade_calm _ _ _ h)
    · exact h
  · exact recomputeD_calm h
  · exact h

/-- An item written keeps the law: only DARK_THRESHOLD reaches the lamp (R189, R53). -/
theorem writeItem_calm {n k : Nat} {u : State} (hw : writeItem n k s = some u) (h : Calm m v (postureOf s)) :
    Calm m v (postureOf u) := by
  unfold writeItem writeEnum at hw
  split at hw
  all_goals first
    | (obtain ⟨b, -, rfl⟩ := Option.map_eq_some_iff.mp hw)
    | (cases hw)
  all_goals first
    | exact h
    | exact writeThreshold_calm k h
    | simpa using h

@[simp] theorem setItemBody_calm (n k : Nat) (h : Calm m v (postureOf s)) :
    Calm m v (postureOf (setItemBody n k s).2) := by
  unfold setItemBody
  split
  · next hw => exact writeItem_calm hw h
  · exact h

/-- No sticky fault is one of heat (R191). -/
theorem postureOf_clearFault_sticky {f : FaultKind} (hf : isSticky f = true) (s : State) :
    postureOf (clearFault f s) = postureOf s := by
  cases f <;> simp [isSticky] at hf <;> simp

theorem clearSticky_calm {f : FaultKind} (hf : isSticky f = true) (h : Calm m v (postureOf s)) :
    Calm m v (postureOf (clearSticky f s)) := by
  have cleared : Calm m v (postureOf (clearFault f s)) := by rwa [postureOf_clearFault_sticky hf]
  unfold clearSticky
  dsimp only
  split
  · exact startReady_calm cleared
  · exact startReady_calm cleared
  · exact startReady_calm cleared
  · exact leaveFailed_calm cleared
  · exact cleared

theorem clearEach_calm (fs : List FaultKind) (h : Calm m v (postureOf s)) :
    Calm m v (postureOf (clearEach fs s)) := by
  induction fs generalizing s with
  | nil => exact h
  | cons f fs ih =>
    unfold clearEach
    split
    · next hc =>
      simp only [Bool.and_eq_true] at hc
      exact ih (clearSticky_calm hc.1.1 h)
    · exact ih h

@[simp] theorem faultClearBody_calm (c : Nat) (h : Calm m v (postureOf s)) :
    Calm m v (postureOf (faultClearBody c s).2) := by
  unfold faultClearBody
  split
  · split
    · exact h
    · exact clearEach_calm _ h
  · split
    · next f _ =>
      unfold clearNamed
      split
      · exact h
      · next hf =>
        repeat' split
        · exact h
        · exact h
        · exact h
        · exact clearSticky_calm (by simpa using hf) h
    · exact h

theorem selectLampBody_calm (p t : Byte) (h : Calm m v (postureOf s)) (hw : (postureOf s).Awake v) :
    Calm m v (postureOf (selectLampBody p t s).2) := by
  unfold selectLampBody
  split
  · exact h
  · split
    · exact h
    · split
      · exact h
      · split
        · exact h
        · exact startSwap_calm _ _ h hw

theorem postureOf_markLampBody (p c : Byte) (s : State) : postureOf (markLampBody p c s).2 = postureOf s := by
  unfold markLampBody
  split
  · next p _ _ =>
    split
    · cases p <;> rfl
    · rfl
  · rfl

@[simp] theorem postureOf_getItemBody (n : Nat) (s : State) : postureOf (getItemBody n s).2 = postureOf s := by
  unfold getItemBody
  split <;> rfl

@[simp] theorem postureOf_getMapBody (n : Nat) (s : State) : postureOf (getMapBody n s).2 = postureOf s := by
  unfold getMapBody
  split <;> rfl

@[simp] theorem postureOf_markSlotBody (slot pres hold value : Nat) (s : State) :
    postureOf (markSlotBody slot pres hold value s).2 = postureOf s := by
  unfold markSlotBody
  repeat' split
  all_goals rfl

@[simp] theorem postureOf_setCueSourceBody (c : Byte) (s : State) : postureOf (setCueSourceBody c s).2 = postureOf s := by
  unfold setCueSourceBody
  split <;> rfl

@[simp] theorem postureOf_writeEntryBody (i : Nat) (raw : List RawAction) (s : State) :
    postureOf (writeEntryBody i raw s).2 = postureOf s := by
  unfold writeEntryBody
  repeat' split
  all_goals rfl

@[simp] theorem postureOf_readEntryBody (i n : Nat) (s : State) : postureOf (readEntryBody i n s).2 = postureOf s := by
  unfold readEntryBody
  repeat' split
  all_goals rfl

@[simp] theorem postureOf_readCueLogBody (i : Nat) (s : State) : postureOf (readCueLogBody i s).2 = postureOf s := by
  unfold readCueLogBody
  split <;> rfl

@[simp] theorem postureOf_setTraceModeBody (n : Nat) (t : BitVec 16) (p : Nat) (s : State) :
    postureOf (setTraceModeBody n t p s).2 = postureOf s := by
  unfold setTraceModeBody
  repeat' split
  all_goals simp

@[simp] theorem postureOf_readTraceBody (k : Nat) (s : State) : postureOf (readTraceBody k s).2 = postureOf s := by
  unfold readTraceBody
  split <;> rfl

@[simp] theorem postureOf_protectBody (i : Byte) (s : State) : postureOf (protectBody i s).2 = postureOf s := by
  unfold protectBody
  split <;> rfl

@[simp] theorem postureOf_lockBody (c : Byte) (s : State) : postureOf (lockBody c s).2 = postureOf s := by
  unfold lockBody
  repeat' split
  all_goals rfl

theorem powerModeBody_calm (md t : Byte) (h : Calm .loose v (postureOf s)) (hp : s.heat.power ≠ .sleep) :
    Calm .loose v (postureOf (powerModeBody md t s).2) := by
  unfold powerModeBody
  split
  · exact powerModeTo_calm _ _ h hp
  · exact h

theorem stepBody_calm (n : Int) (t : Byte) (h : Calm m v (postureOf s)) :
    Calm m v (postureOf (stepBody n t s).2) := by
  unfold stepBody
  split <;> simp [h]

theorem gotoBody_calm (n : Nat) (t : Byte) (h : Calm m v (postureOf s)) : Calm m v (postureOf (gotoBody n t s).2) := by
  unfold gotoBody
  split <;> simp [h]

theorem seekCueBody_calm (k : Nat) (h : Calm m v (postureOf s)) (hw : (postureOf s).Awake v) :
    Calm m v (postureOf (seekCueBody k s).2) := by
  unfold seekCueBody
  split
  · exact h
  · exact takeSeekCue_calm _ _ h hw

theorem injectCueBody_calm (c : Byte) (h : Calm m v (postureOf s)) :
    Calm m v (postureOf (injectCueBody c s).2) := by
  unfold injectCueBody
  repeat' split
  all_goals simp [h]

end Sys2Proof.Machine
end

section
/-! ## Heat, cut-out and resets, and every step -/

namespace Sys2Proof.Machine

variable {m : Pace} {v : Posture} {s t : State}

/-! ### Heat faults -/

/-- Neither the numbers nor the law of SLEEP read the faults of heat. -/
theorem calm_hot (v : Posture) (b : Bool) : Calm .loose v { v with hot := b } := ⟨rfl, id, nofun⟩

theorem postureOf_raiseFault_any (f : FaultKind) (pos : Option LampPos) (s : State) :
    postureOf (raiseFault f pos s) = { postureOf s with hot := hotIn (raiseFault f pos s).link.faults } := by
  obtain ⟨l, t, h, -⟩ := raiseFault_spec f pos s
  rw [h]
  rfl

theorem postureOf_clearFault_any (f : FaultKind) (s : State) :
    postureOf (clearFault f s) = { postureOf s with hot := hotIn (clearFault f s).link.faults } := by
  obtain ⟨l, t, h, -⟩ := clearFault_spec f s
  rw [h]
  rfl

theorem raiseFault_calm (f : FaultKind) (pos : Option LampPos) (h : Calm .loose v (postureOf s)) :
    Calm .loose v (postureOf (raiseFault f pos s)) := by
  rw [postureOf_raiseFault_any]
  exact h.trans (calm_hot _ _)

theorem clearFault_calm (f : FaultKind) (h : Calm .loose v (postureOf s)) :
    Calm .loose v (postureOf (clearFault f s)) := by
  rw [postureOf_clearFault_any]
  exact h.trans (calm_hot _ _)

/-- A fault of heat stands once raised. -/
theorem hot_raiseFault {f : FaultKind} (hf : f = .overtemp ∨ f = .tcoOpen) (pos : Option LampPos) (s : State) :
    hotIn (raiseFault f pos s).link.faults = true := by
  rcases hf with rfl | rfl <;> simp [hotIn, faultIn_raiseFault]

@[simp] theorem raiseFault_power (f : FaultKind) (pos : Option LampPos) (s : State) :
    (raiseFault f pos s).heat.power = s.heat.power := by
  obtain ⟨l, t, h, -⟩ := raiseFault_spec f pos s
  rw [h]

theorem postureOf_evalPermission (s : State) : postureOf (evalPermission s) = postureOf s := rfl

theorem handCeiling_calm (h : Calm m v (postureOf s)) : Calm m v (postureOf (handCeiling s)) :=
  withDarkTest_calm (evalCeiling_calm h)

/-- Under a fault of heat no sleep is entered while the lamp is forced off, so that the cooldown starts on a part that is
awake. -/
theorem heatFaultRaised_calm (c : Reason) (hot : hotIn s.link.faults = true) (hp : s.heat.power ≠ .sleep)
    (h : Calm m v (postureOf s)) : Calm m v (postureOf (heatFaultRaised c s)) := by
  have forced {m v} (g : Calm m v (postureOf s)) : Calm m v (postureOf (forceLampOff c s)) :=
    withDarkTest_calm (lampOffNow_calm c g)
  have power : (forceLampOff c s).heat.power = s.heat.power := ((forced (m := .steady) (.refl _)).steady rfl (.inr hot)).2.2
  have cooled : Calm m v (postureOf (ensureCooldown (forceLampOff c s))) := by
    unfold ensureCooldown
    split
    · exact forced h
    · exact startCooldown_calm (forced h) (awake_of_power (power ▸ hp))
  exact handCeiling_calm cooled

@[simp] theorem fanStalls_calm (h : Calm m v (postureOf s)) : Calm m v (postureOf (fanStalls s)) := by
  unfold fanStalls
  split
  · exact handCeiling_calm (by simpa using h)
  · exact h

@[simp] theorem fanTach_calm (h : Calm m v (postureOf s)) : Calm m v (postureOf (fanTach s)) := by
  unfold fanTach
  dsimp only
  split
  · exact handCeiling_calm (by simpa using h)
  · exact h

/-- The cut-out's opening wakes the part first (R74, R85). -/
theorem tcoOpens_calm (h : Calm .loose v (postureOf s)) : Calm .loose v (postureOf (tcoOpens s)) := by
  have woken : Calm .loose v (postureOf (wake .cutOut { s with lines.tcoOpen := true })) := wake_calm _ h
  rw [tcoOpens, postureOf_evalPermission]
  exact heatFaultRaised_calm _ (hot_raiseFault (.inr rfl) _ _) (by simpa using wake_power _ _) (raiseFault_calm _ _ woken)

theorem tcoCloses_calm (h : Calm .loose v (postureOf s)) : Calm .loose v (postureOf (tcoCloses s)) := by
  rw [tcoCloses, postureOf_evalPermission, postureOf_evalFan]
  exact handCeiling_calm (clearFault_calm _ h)

theorem tcoChanges_calm (b : Bool) (h : Calm .loose v (postureOf s)) : Calm .loose v (postureOf (tcoChanges b s)) := by
  unfold tcoChanges
  split
  · exact h
  · split
    · exact withThermal_calm (tcoOpens_calm h)
    · exact sleepTest_calm (withThermal_calm (tcoCloses_calm h))

/-! ### The heat-model update -/

/-- The trip latch after an update's new H (R73). -/
def nextLatch (s : State) : Bool := tripsNow s || (s.heat.latch && !untripsNow s)

theorem evalLatch_calm (hp : s.heat.power ≠ .sleep) :
    Calm .loose { postureOf s with latch := nextLatch s } (postureOf (evalLatch s)) := by
  unfold evalLatch
  split
  · next ht =>
    have latch : nextLatch s = true := by simp [nextLatch, ht]
    refine heatFaultRaised_calm _ (hot_raiseFault (.inl rfl) _ _) (by simpa using hp) (raiseFault_calm _ _ ?_)
    rw [latch]
    exact .refl _
  · next ht =>
    split
    · next hu =>
      have latch : nextLatch s = false := by simp [nextLatch, ht, hu]
      refine handCeiling_calm (clearFault_calm _ ?_)
      rw [latch]
      exact .refl _
    · next hu =>
      have latch : nextLatch s = s.heat.latch := by simp [nextLatch, ht, hu]
      rw [latch]
      exact .refl _

theorem advanceCooldown_calm (h : Calm m v (postureOf s)) : Calm m v (postureOf (advanceCooldown s)) := by
  unfold advanceCooldown
  dsimp only
  split
  · split
    · rw [postureOf_evalFan, postureOf_give]
      exact endCooldown_calm h
    · exact h
  · exact h

theorem updateDecisions_calm (b : Bool) (h : Calm m v (postureOf s)) : Calm m v (postureOf (updateDecisions b s)) := by
  have decided : Calm m v (postureOf (evalPermission (handCeiling (evalFloor s)))) :=
    handCeiling_calm (s := evalFloor s) h
  unfold updateDecisions
  dsimp only
  split
  · exact advanceCooldown_calm decided
  · exact decided

theorem postureOf_readAmbient (r : Option Int) (s : State) :
    postureOf (readAmbient r s) = { postureOf s with ambient := (goodReading r).getD s.heat.ambient } := by
  unfold readAmbient
  split
  · next hr =>
    rw [hr, postureOf_clearFault _ (by decide) (by decide)]
    rfl
  · next hr =>
    rw [hr, postureOf_raiseFault _ _ (by decide) (by decide)]
    rfl

theorem goodReading_le {r : Option Int} {a : Nat} (h : goodReading r = some a) : a ≤ 20480 := by
  unfold goodReading at h
  split at h
  · split at h <;> cases h
    omega
  · cases h

theorem newEstimate_le (h : s.heat.estimate ≤ 65535) (ha : s.heat.ambient ≤ 20480) : newEstimate s ≤ 65535 := by
  unfold newEstimate
  split
  · omega
  · unfold heatFormula clampTo
    dsimp only
    repeat' split
    all_goals omega

theorem nextLatch_hot (h : 21760 ≤ s.heat.estimate) : nextLatch s = true := by
  have warm : ¬ s.heat.estimate ≤ 17920 := by omega
  simp [nextLatch, tripsNow, untripsNow, h, warm]

namespace Posture

/-- H and A in their ranges, and the latch with H: `heatLaw`, of a posture. -/
def InRange (w : Posture) : Prop := w.estimate ≤ 65535 ∧ w.ambient ≤ 20480 ∧ (21760 ≤ w.estimate → w.latch = true)

theorem InRange.of_numbers {v w : Posture} (h : v.InRange) (hn : w.numbers = v.numbers) : w.InRange := by
  obtain ⟨estimate, ambient, latch⟩ : w.estimate = v.estimate ∧ w.ambient = v.ambient ∧ w.latch = v.latch := by
    simpa [numbers] using hn
  rwa [InRange, estimate, ambient, latch]

end Posture

theorem heatLaw_iff (s : State) : heatLaw s ↔ (postureOf s).InRange := Iff.rfl

/-- An update takes the law of SLEEP and the ranges of the heat model along with new numbers (R65, R66, R73). -/
theorem heatUpdated_calm (r : Option Int) (s : State) : ∃ v : Posture,
    (v.Law ↔ (postureOf s).Law) ∧ ((postureOf s).InRange → v.InRange) ∧ Calm .loose v (postureOf (heatUpdated r s)) := by
  unfold heatUpdated
  split
  · exact ⟨_, Iff.rfl, id, .refl _⟩
  · next hp =>
    have read := postureOf_readAmbient r { s with heat.updateTimer := some 0 }
    dsimp only
    generalize readAmbient r { s with heat.updateTimer := some 0 } = u at read ⊢
    have awake : (updateEstimate u).heat.power ≠ .sleep := (congrArg Posture.power read).trans_ne hp
    refine ⟨{ postureOf (updateEstimate u) with latch := nextLatch (updateEstimate u) }, ?_, fun g => ?_, ?_⟩
    · change Posture.Law { postureOf u with estimate := _, latch := _ } ↔ _
      rw [read]
      exact Iff.rfl
    · obtain ⟨estimate, ambient, -⟩ := g
      have old : u.heat.estimate = s.heat.estimate := congrArg Posture.estimate read
      have taken : u.heat.ambient ≤ 20480 := by
        have h : u.heat.ambient = (goodReading r).getD s.heat.ambient := congrArg Posture.ambient read
        rw [h]
        cases hr : goodReading r with
        | none => exact ambient
        | some a => exact goodReading_le hr
      exact ⟨newEstimate_le (old ▸ estimate) taken, taken, nextLatch_hot⟩
    · have updated := fun b => updateDecisions_calm b (evalLatch_calm awake)
      split
      · exact sleepTest_calm (by simpa using updated _)
      · simpa using updated _

/-! ### Resets -/

theorem raiseIf_calm (b : Bool) (f : FaultKind) (h : Calm .loose v (postureOf s)) :
    Calm .loose v (postureOf (raiseIf b f s)) := by
  unfold raiseIf
  split
  · exact raiseFault_calm _ _ h
  · exact h

/-- A hardware reset starts in STANDBY, with the numbers it is given (R193, R88). -/
theorem hardReset_calm (pins : Pins) (h : Nat) (s : State) :
    Calm .loose (postureOf (hardState pins h s)) (postureOf (hardReset pins h s)) :=
  evalCeiling_calm (raiseIf_calm _ _ (raiseIf_calm _ _ (raiseIf_calm _ _ (.refl _))))

theorem hardState_law (pins : Pins) (h : Nat) (s : State) : (postureOf (hardState pins h s)).Law :=
  ⟨nofun, fun hp => absurd rfl hp⟩

theorem hardState_inRange (pins : Pins) {h : Nat} (hh : h ≤ 65535) (s : State) :
    (postureOf (hardState pins h s)).InRange :=
  ⟨hh, by simp [postureOf, hardState, Heat.reset], fun hot => decide_eq_true hot⟩

/-- The numbers of a lamp that a soft reset darkens or leaves in its swap. -/
theorem softLamp_numbers (s : State) : (postureOf (softLamp s)).numbers = (postureOf s).numbers := by
  unfold softLamp
  dsimp only
  split
  · rfl
  · obtain ⟨f, t, e⟩ := recomputeD_eq { s with lamp := { s.lamp with
      state := .off, swap := none, window := none, ramp := 0, fade := none, dest := .keepWarm, destRamp := .strikeRamp,
      restriking := false, darkWaiting := false, openCount := 0 } }
    rw [e]
    rfl

/-- The soft reset ends in STANDBY with no sleep pending, and leaves the heat model (R193). -/
theorem softResetAll_calm (service : Bool) (h : Calm .loose v (postureOf s)) :
    Calm .loose v (postureOf (softResetAll service s)) := by
  change Calm _ _ (postureOf (softTrace (softLink (softHeat (softLamp _)))))
  rw [softTrace, postureOf_writeTraceMode]
  exact h.trans ⟨by
      refine (softLamp_numbers _).trans ?_
      unfold softTransport
      dsimp only
      repeat' split
      all_goals rfl,
    fun _ => ⟨nofun, fun hp => absurd rfl hp⟩, nofun⟩

/-! ### Every command -/

theorem next_calm {u : State} (h : (.next u : Result) = .next t) (k : Calm m v (postureOf u)) :
    Calm m v (postureOf t) := by
  cases h
  exact k

section Commands

variable (h : Calm .loose v (postureOf s))
include h

/-- A command that moves nothing the laws read. -/
theorem next_still {u : State} (hn : (.next u : Result) = .next t) (k : postureOf u = postureOf s) :
    Calm .loose v (postureOf t) := next_calm hn (k ▸ h)

/-- A request whose body keeps the law. -/
theorem request_next_calm {k : Byte} {n : Nat} {hd : Hdr} {body : State → Answer × State}
    (hn : (.next (request k n hd body s) : Result) = .next t)
    (hb : ∀ u : State, Calm .loose v (postureOf u) → u.heat.power ≠ .sleep → Calm .loose v (postureOf (body u).2)) :
    Calm .loose v (postureOf t) := next_calm hn (request_calm hb h)

/-- A request whose body moves nothing the laws read. -/
theorem request_next_still {k : Byte} {n : Nat} {hd : Hdr} {body : State → Answer × State}
    (hn : (.next (request k n hd body s) : Result) = .next t) (hb : ∀ u : State, postureOf (body u).2 = postureOf u) :
    Calm .loose v (postureOf t) := request_next_calm h hn fun u hu _ => hb u ▸ hu

/-- An event with its THERMAL report. -/
theorem thermal_next_calm {f : State → State} (hn : (.next (withThermal f s) : Result) = .next t)
    (hf : Calm .loose v (postureOf s) → Calm .loose v (postureOf (f s))) : Calm .loose v (postureOf t) :=
  next_calm hn (withThermal_calm (hf h))

theorem execFrameSent_calm (hn : execFrameSent s = .next t) : Calm .loose v (postureOf t) := by
  refine next_calm hn ?_
  split
  · split
    · exact softResetAll_calm _ (s := { s with link.sending := none, lineReads := s.lineReads + 1 }) h
    · rw [postureOf_pump { s with link.sending := none } { s.link with sending := none } rfl]
      exact h
  · exact h

end Commands

theorem unlessRefused_still {r : State → Option Reason} {f : State → State} (hf : ∀ u, postureOf (f u) = postureOf u)
    (u : State) : postureOf (unlessRefused r f u).2 = postureOf u := by
  unfold unlessRefused
  split
  · rfl
  · exact hf u

/-- Every command but a heat-model update and a hardware reset leaves the numbers of the heat model and keeps the law of
SLEEP. A pulse of the home mark needs the motor to turn in a part that is awake only. -/
theorem exec_calm (i : Instr) (hu : isHeatUpdate i = false) (hr : isHardReset i = false) (h : exec i s = .next t)
    (g : Calm .loose v (postureOf s)) (hm : s.changer.motor ≠ none → (postureOf s).Awake v) :
    Calm .loose v (postureOf t) := by
  cases i with
  | powerOn pins => cases hr
  | resetLine pins => cases hr
  | heatUpdate reading => cases hu
  | softReset service => exact next_calm h (softResetAll_calm _ g)
  | linkByteTimeout => exact next_still g h (by split <;> simp)
  | frameReject kind tag checkOk =>
    exact next_still g h (by repeat' split
                             all_goals simp)
  | frameOverrun => exact next_still g h (by split <;> simp)
  | frameSent => exact execFrameSent_calm g h
  | identify hd => exact request_next_still g h fun u => rfl
  | readStatus hd => exact request_next_still g h fun u => rfl
  | getItem hd item => exact request_next_still g h (postureOf_getItemBody _)
  | setItem hd item value => exact request_next_calm g h fun u hu _ => setItemBody_calm _ _ hu
  | reset hd => exact request_next_still g h fun u => rfl
  | faultClear hd code => exact request_next_calm g h fun u hu _ => faultClearBody_calm _ hu
  | setNoticeMask hd mask => exact request_next_still g h fun u => rfl
  | powerMode hd mode => exact request_next_calm g h fun u => powerModeBody_calm _ _
  | step hd n => exact request_next_calm g h fun u hu _ => stepBody_calm _ _ hu
  | goto hd slot => exact request_next_calm g h fun u hu _ => gotoBody_calm _ _ hu
  | pauseMove hd => exact request_next_still g h postureOf_pauseCycle
  | continueMove hd => exact request_next_calm g h fun u hu hp => continueCycle_calm hu (awake_of_power hp)
  | abortMoves hd => exact request_next_calm g h fun u hu _ => abortAll_calm hu
  | markSlot hd slot presence hold value => exact request_next_still g h (postureOf_markSlotBody _ _ _ _)
  | setMap hd num slots => exact request_next_still g h (unlessRefused_still fun u => rfl)
  | getMap hd num => exact request_next_still g h (postureOf_getMapBody _)
  | selectMap hd num => exact request_next_still g h (unlessRefused_still fun u => rfl)
  | lampOn hd => exact request_next_calm g h fun u hu _ => strike_calm _ hu
  | lampOff hd => exact request_next_calm g h fun u hu _ => withDarkTest_calm (lampOffNow_calm _ hu)
  | fade hd level duration =>
    exact request_next_calm g h fun u hu _ => unlessRefused_calm (withDarkTest_calm (takeFade_calm _ _ hu)) hu
  | selectLamp hd pos => exact request_next_calm g h fun u hu hp => selectLampBody_calm _ _ hu (awake_of_power hp)
  | markLamp hd pos cond => exact request_next_still g h (postureOf_markLampBody _ _)
  | focusNudge hd dir duration => exact request_next_still g h fun u => postureOf_startNudge u _ _ _
  | play hd => exact request_next_calm g h fun u hu _ => hostMotion_calm _ _ hu
  | stop hd => exact request_next_calm g h fun u hu _ => hostMotion_calm _ _ hu
  | pause hd => exact request_next_calm g h fun u hu _ => hostMotion_calm _ _ hu
  | rewind hd => exact request_next_calm g h fun u hu _ => hostMotion_calm _ _ hu
  | wind hd => exact request_next_calm g h fun u hu _ => hostMotion_calm _ _ hu
  | seekCount hd count => exact request_next_calm g h fun u hu _ => hostSeek_calm _ _ hu
  | seekCue hd index => exact request_next_calm g h fun u hu hp => seekCueBody_calm _ hu (awake_of_power hp)
  | setVolume hd volume => exact request_next_still g h fun u => rfl
  | setCueSource hd source => exact request_next_still g h (postureOf_setCueSourceBody _)
  | injectCue hd kind => exact request_next_calm g h fun u hu _ => injectCueBody_calm _ hu
  | reference hd => exact request_next_still g h (unlessRefused_still fun u => rfl)
  | writeEntry hd index actions => exact request_next_still g h (postureOf_writeEntryBody _ _)
  | deleteEntry hd index => exact request_next_still g h (unlessRefused_still fun u => rfl)
  | readEntry hd index mode => exact request_next_still g h (postureOf_readEntryBody _ _)
  | clearTable hd => exact request_next_still g h (unlessRefused_still fun u => rfl)
  | readCueLog hd start => exact request_next_still g h (postureOf_readCueLogBody _)
  | clearCueLog hd => exact request_next_still g h fun u => rfl
  | chase hd index => exact request_next_calm g h fun u hu _ => unlessRefused_calm (runChase_calm _ _ hu) hu
  | timerStart hd period => exact request_next_still g h (unlessRefused_still fun u => postureOf_startTimer u _)
  | timerStop hd => exact request_next_still g h postureOf_stopTimer
  | hold hd => exact request_next_calm g h fun u hu _ => takeHold_calm hu
  | continueShow hd => exact request_next_calm g h fun u hu _ => continueHold_calm hu
  | setTraceMode hd mode trigger post => exact request_next_still g h (postureOf_setTraceModeBody _ _ _)
  | readTrace hd k => exact request_next_still g h (postureOf_readTraceBody _)
  | protect hd item => exact request_next_still g h (postureOf_protectBody _)
  | unprotect hd => exact request_next_still g h (unlessRefused_still fun u => rfl)
  | lock hd state => exact request_next_still g h (postureOf_lockBody _)
  | trayCodeChange code => exact thermal_next_calm g h (trayCodeChanges_calm _)
  | indexPulse mark => exact thermal_next_calm g h fun g => indexPulseEvent_calm _ g hm
  | cycleStart => exact thermal_next_calm g h startReady_calm
  | shutterCloseDone => exact thermal_next_calm g h shutterCloses_calm
  | liftDone => exact thermal_next_calm g h liftReported_calm
  | liftTimeout => exact next_calm h (liftExpires_calm g)
  | rotateStallTimeout => exact next_calm h (stallExpires_calm g)
  | dropPathReport => exact next_calm h (dropReported_calm g)
  | dropTimeout => exact thermal_next_calm g h dropExpires_calm
  | seatReport => exact next_calm h (seatReported_calm g)
  | seatTimeout => exact next_calm h (seatExpires_calm g)
  | settleDone => exact thermal_next_calm g h settleEnds_calm
  | preheatEnd => exact thermal_next_calm g h lampLights_calm
  | fadeStep current => exact thermal_next_calm g h (fadeStepEvent_calm _)
  | swapTravelEnd => exact thermal_next_calm g h swapEnds_calm
  | fanStallTimeout => exact thermal_next_calm g h fanStalls_calm
  | fanTachPulse => exact thermal_next_calm g h fanTach_calm
  | tcoLineChange opened => exact next_calm h (tcoChanges_calm _ g)
  | cassetteChange present =>
    exact thermal_next_calm g h fun g => by
      split
      · exact insertCassette_calm g
      · exact removeCassette_calm g
  | brakeEnd => exact thermal_next_calm g h brakeEnds_calm
  | reelTachPulse => exact thermal_next_calm g h reelPulse_calm
  | leaderChange present => exact thermal_next_calm g h (leaderChanges_calm _)
  | tapeStallTimeout => exact thermal_next_calm g h tapeStalls_calm
  | endFadeStep => exact thermal_next_calm g h endFadeAdvance_calm
  | analysisFrame l1 l2 l3 => exact thermal_next_calm g h (analyse_calm _ _ _)
  | relayOutFrameSent => exact next_still g h (by simp)
  | relayOutGapEnd => exact next_still g h (by simp)
  | relayInFrame bits => exact thermal_next_calm g h (relayFrameTaken_calm _)
  | relayInTimingError => exact next_still g h (by simp)
  | relayConflictTimeout => exact next_still g h (by simp)
  | autoAdvanceExpiry => exact thermal_next_calm g h timerExpires_calm
  | serviceLineChange asserted => exact next_still g h rfl
  | irFrame bits => exact thermal_next_calm g h (irFrameTaken_calm _)
  | irReleaseTimeout => exact thermal_next_calm g h (release_calm _)
  | ladderBandChange band =>
    exact thermal_next_calm g h fun g => by
      split
      · exact g
      · exact bandChanges_calm _ g
  | keyRepeat remote => exact thermal_next_calm g h (repeatKey_calm _)
  | entryWindowExpiry => exact thermal_next_calm g h entryExpires_calm
  | powerHoldTimeout => exact thermal_next_calm g h powerHeldOn_calm
  | focusFast => exact next_still g h (by simp)
  | focusLimit dir asserted => exact next_still g h (by simp)
  | nudgeEnd => exact next_still g h (by simp)
  | syncByte => exact next_still g h (by split <;> simp)
  | lengthByteAbove60 => exact next_still g h (by split <;> simp)
  | replyReady place =>
    exact next_still g h (postureOf_pump s { s.link with replies := s.link.replies.modify place markReady } rfl)
  | irLeader => exact next_still g h (by simp)
  | irTimingError leaderMark => exact next_still g h (by simp)
  | relayInStartPulse => exact next_still g h (by simp)
  | ladderSample sample => exact thermal_next_calm g h (ladderSampled_calm _)

/-- A command is a heat-model update, a hardware reset or neither. -/
theorem instr_kind (i : Instr) : (∃ r, i = .heatUpdate r) ∨ (∃ pins, i = .powerOn pins ∨ i = .resetLine pins)
    ∨ (isHeatUpdate i = false ∧ isHardReset i = false) := by
  cases i
  case heatUpdate r => exact .inl ⟨r, rfl⟩
  case powerOn pins => exact .inr (.inl ⟨pins, .inl rfl⟩)
  case resetLine pins => exact .inr (.inl ⟨pins, .inr rfl⟩)
  all_goals exact .inr (.inr ⟨rfl, rfl⟩)

/-- The motor turns in ROTATE only. -/
theorem awake_of_changerLaw (hl : changerLaw s) (hm : s.changer.motor ≠ none) : (postureOf s).Awake (postureOf s) := by
  obtain ⟨-, -, -, turns, -⟩ := hl
  exact awake_of_stage (m := .loose) (.refl _) (by simp [turns.mp (Option.isSome_iff_ne_none.mpr hm)])

theorem exec_sleepLaw (i : Instr) (h : exec i s = .next t) (hc : changerLaw s) (hs : (postureOf s).Law) :
    (postureOf t).Law := by
  have reset (pins : Pins) (n : Nat) : (postureOf (hardReset pins n s)).Law :=
    (hardReset_calm pins n s).law (hardState_law pins n s)
  rcases instr_kind i with ⟨r, rfl⟩ | ⟨pins, rfl | rfl⟩ | ⟨hu, hr⟩
  · obtain ⟨v, law, -, calm⟩ := heatUpdated_calm r s
    cases h
    exact calm.law (law.mpr hs)
  · cases h
    exact reset _ _
  · cases h
    exact reset _ _
  · exact (exec_calm i hu hr h (.refl _) (awake_of_changerLaw hc)).law hs

/-- A posture with given numbers from which the law of SLEEP asks nothing. -/
def unlawful (w : Posture) : Posture := { w with power := .sleep, cooling := true }

theorem unlawful_calm (w : Posture) : Calm .loose (unlawful w) w :=
  ⟨rfl, fun l => by simpa [unlawful] using (l.1 rfl).1, nofun⟩

/-- Whatever the power state, only an update and a hardware reset move the numbers. -/
theorem exec_numbers (i : Instr) (hu : isHeatUpdate i = false) (hr : isHardReset i = false) (h : exec i s = .next t) :
    (postureOf t).numbers = (postureOf s).numbers :=
  (exec_calm i hu hr h (unlawful_calm _) fun _ l => absurd (l.1 rfl).1 (by simp [unlawful])).numbers

theorem exec_heatLaw (i : Instr) (h : exec i s = .next t) (hs : (postureOf s).InRange) : (postureOf t).InRange := by
  have reset (pins : Pins) {n : Nat} (hn : n ≤ 65535) : (postureOf (hardReset pins n s)).InRange :=
    (hardState_inRange pins hn s).of_numbers (hardReset_calm pins n s).numbers
  rcases instr_kind i with ⟨r, rfl⟩ | ⟨pins, rfl | rfl⟩ | ⟨hu, hr⟩
  · obtain ⟨v, -, ranges, calm⟩ := heatUpdated_calm r s
    cases h
    exact (ranges hs).of_numbers calm.numbers
  · cases h
    exact reset _ (by decide)
  · cases h
    exact reset _ (max_le hs.1 (by decide))
  · exact hs.of_numbers (exec_numbers i hu hr h)

end Sys2Proof.Machine

namespace Sys2Proof.Proofs

open Sys2Proof.Machine

/-- Settles O53: what an awake part sets in motion needs no rest, an operation of a part in SLEEP disturbs none, and every
entry to SLEEP comes at rest (`exec_calm`); the heat-model update and the resets keep the law too (`exec_sleepLaw`). -/
theorem sleepOnlyWhenAllIsAtRest : Obligations.SleepOnlyWhenAllIsAtRest := by
  intro s t hs hc hstep
  rw [sleepLaw_iff] at hs ⊢
  unfold step at hstep
  split at hstep
  · next c rest _ => exact exec_sleepLaw (s := { s with pending := rest }) c hstep hc hs
  · cases hstep
    rwa [postureOf_tick]

/-- Settles O58: every other command leaves H, A and the latch (`exec_numbers`), an update computes them in their ranges
(`heatUpdated_calm`), and so do the hardware resets. -/
theorem heatEstimateChangesOnlyAtUpdates : Obligations.HeatEstimateChangesOnlyAtUpdates := by
  intro s t hs hstep
  rw [heatLaw_iff] at hs ⊢
  unfold step at hstep
  split at hstep
  · next c rest hp =>
    refine ⟨exec_heatLaw (s := { s with pending := rest }) c hstep hs, fun c' rest' hp' hu hr => ?_, fun hp' => ?_⟩
    · obtain ⟨rfl, rfl⟩ : c = c' ∧ rest = rest' := by simpa [hp] using hp'
      exact congrArg Prod.fst (exec_numbers (s := { s with pending := rest }) c hu hr hstep)
    · simp [hp] at hp'
  · next hp =>
    cases hstep
    exact ⟨by rwa [postureOf_tick], fun c rest hp' => by simp [hp] at hp', fun _ => rfl⟩

end Sys2Proof.Proofs
end

section
/-! ## The Heat Monitor's decisions reach lamp, heat and reports alone

With no dark request waiting and no sleep to enter, fan, ceiling, D, cooldown and a forced lamp off move the lamp, the Heat
Monitor, the link and the trace; `ThermalOnly` collects what stands through them. -/

namespace Sys2Proof.Machine

variable {r s t u : State}

/-- What the decisions about fan, ceiling and cooldown leave of the Heat Monitor. -/
def heatModel (h : Heat) : Nat × Nat × Bool × Bool × Option Nat × PowerState × SleepPending :=
  (h.estimate, h.ambient, h.latch, h.wakeDue, h.updateTimer, h.power, h.sleepPending)

/-- `u` is `s` but for link, trace, lamp and heat, and of those the faults, a waiting dark request and the heat model stand. -/
structure ThermalOnly (s u : State) : Prop where
  frame : ∃ l c p h, u = { s with link := l, trace := c, lamp := p, heat := h }
  faults : u.link.faults = s.link.faults
  dark : u.lamp.darkWaiting = s.lamp.darkWaiting
  model : heatModel u.heat = heatModel s.heat

namespace ThermalOnly

theorem refl (s : State) : ThermalOnly s s := ⟨⟨_, _, _, _, rfl⟩, rfl, rfl, rfl⟩

theorem trans (h : ThermalOnly s t) (g : ThermalOnly t u) : ThermalOnly s u := by
  obtain ⟨⟨_, _, _, _, e⟩, faults, dark, model⟩ := h
  obtain ⟨⟨_, _, _, _, e'⟩, faults', dark', model'⟩ := g
  exact ⟨⟨_, _, _, _, by rw [e', e]⟩, faults'.trans faults, dark'.trans dark, model'.trans model⟩

variable (h : ThermalOnly s u)
include h

theorem heat_eq : u.heat.estimate = s.heat.estimate ∧ u.heat.ambient = s.heat.ambient ∧ u.heat.latch = s.heat.latch
    ∧ u.heat.wakeDue = s.heat.wakeDue ∧ u.heat.updateTimer = s.heat.updateTimer ∧ u.heat.power = s.heat.power
    ∧ u.heat.sleepPending = s.heat.sleepPending := by
  simpa [heatModel] using h.model

theorem hasFault_eq (f : FaultKind) : hasFault f u = hasFault f s := by rw [hasFault, hasFault, h.faults]

theorem ceiling_eq : ceilingOf u = ceilingOf s := by simp only [ceilingOf, h.hasFault_eq, h.heat_eq.1]

theorem allowed_eq : strikeAllowed u = strikeAllowed s := by simp only [strikeAllowed, h.hasFault_eq, h.heat_eq.1]

/-- The blocks that stand, in the words of the statements. -/
theorem blocks : u.tray = s.tray ∧ u.changer = s.changer ∧ sameShow s u ∧ sameRest s u := by
  obtain ⟨_, _, _, _, rfl⟩ := h.frame
  exact ⟨rfl, rfl, ⟨rfl, rfl, rfl, rfl⟩, rfl, rfl, rfl, rfl, rfl⟩

end ThermalOnly

/-! ### Fan, D and ceiling -/

theorem evalFan_thermal (s : State) : ThermalOnly s (evalFan s) := ⟨⟨_, _, _, _, rfl⟩, rfl, rfl, rfl⟩

theorem evalPermission_thermal (s : State) : ThermalOnly s (evalPermission s) := ⟨⟨_, _, _, _, rfl⟩, rfl, rfl, rfl⟩

theorem evalFloor_thermal (s : State) : ThermalOnly s (evalFloor s) := ⟨⟨_, _, _, _, rfl⟩, rfl, rfl, rfl⟩

/-- The ceiling and the zone decided, before D follows them (R72, R46). -/
def ceiled (s : State) : State := { s with heat.ceiling := ceilingOf s, heat.zone := zoneOf s.heat.estimate }

theorem evalCeiling_eq (s : State) : evalCeiling s = recomputeD (ceiled s) := rfl

theorem evalCeiling_thermal (s : State) : ThermalOnly s (evalCeiling s) := by
  obtain ⟨f, t, e⟩ := recomputeD_eq (ceiled s)
  rw [evalCeiling_eq, e]
  exact ⟨⟨_, _, _, _, rfl⟩, rfl, rfl, rfl⟩

/-- What the ceiling's decision decides: ceiling, zone and D; R and the lamp's state stand, and a cooldown is not ended. -/
structure Ceiled (s u : State) : Prop where
  ceiling : u.heat.ceiling = ceilingOf s
  zone : u.heat.zone = zoneOf s.heat.estimate
  drive : u.lamp.drive = driveOf u.lamp (ceilingOf s)
  state : u.lamp.state = s.lamp.state
  cooling : s.heat.cooling = true → u.heat.cooling = true

theorem evalCeiling_ceiled (s : State) : Ceiled s (evalCeiling s) := by
  obtain ⟨f, t, e⟩ := recomputeD_eq (ceiled s)
  rw [evalCeiling_eq, e]
  exact ⟨rfl, rfl, rfl, rfl, fun hc => by simp [ceiled, hc]⟩

/-- With no dark request waiting, the ceiling's decision ends with D. -/
theorem handCeiling_eq (hd : s.lamp.darkWaiting = false) : handCeiling s = evalCeiling s :=
  withDarkTest_eq rfl ((evalCeiling_thermal s).dark.trans hd)

theorem handCeiling_thermal (hd : s.lamp.darkWaiting = false) : ThermalOnly s (handCeiling s) :=
  handCeiling_eq hd ▸ evalCeiling_thermal s

theorem handCeiling_ceiled (hd : s.lamp.darkWaiting = false) : Ceiled s (handCeiling s) :=
  handCeiling_eq hd ▸ evalCeiling_ceiled s

theorem driveOf_le (l : Lamp) (c : Nat) : driveOf l c ≤ c := by
  unfold driveOf
  split <;> omega

theorem driveOf_eq (l : Lamp) (c : Nat) :
    driveOf l c = if l.state = .lit ∨ l.state = .preheat then min l.ramp c else 0 := by
  unfold driveOf
  cases l.state <;> rfl

/-- Under OVERTEMP, TCO_OPEN or H at the trip the ceiling is 0 (R72). -/
theorem ceilingOf_blocked (h : hasFault .overtemp s = true ∨ hasFault .tcoOpen s = true ∨ 21760 ≤ s.heat.estimate) :
    ceilingOf s = 0 := by
  have none : heatCeiling s.heat.estimate (hasFault .overtemp s || hasFault .tcoOpen s) = 0 := by
    unfold heatCeiling
    rcases h with h | h | h <;> simp [h]
  simp [ceilingOf, none]

theorem heatCeiling_ge (h : Nat) (hh : h < 21760) : 400 ≤ heatCeiling h false := by
  unfold heatCeiling
  have trip : ¬ 21760 ≤ h := by omega
  simp only [trip, decide_false, Bool.or_self, Bool.false_eq_true, if_false]
  split
  · have fall : (h - 19200) * 600 / 2560 ≤ 600 := by omega
    omega
  · decide

/-! ### Reports and the entry to SLEEP -/

/-- Reports move link and trace alone. -/
theorem thermal_of_reports (h : Reports s.link s u) : ThermalOnly s u := by
  obtain ⟨m, t, rfl, hm⟩ := h
  exact ⟨⟨_, _, _, _, rfl⟩, hm.faults, rfl, rfl⟩

theorem settleThermal_thermal (key : FanLevel × Zone × Bool) (s : State) : ThermalOnly s (settleThermal key s) :=
  thermal_of_reports ((Reports.refl s).settleThermal key)

/-- No sleep is pending, or a fault of heat holds it off (R81, R83). -/
def sleepHeld (s : State) : Prop := s.heat.sleepPending = .clear ∨ hotIn s.link.faults = true

theorem sleepTest_held (h : sleepHeld s) : sleepTest s = s := by
  rcases h with clear | hot
  · exact sleepTest_clear clear
  · unfold sleepTest
    split
    · rfl
    · split
      · next hc => exact absurd ((posture_of_sleepConditions hc).2.symm.trans hot) (by simp)
      · rfl

theorem ThermalOnly.sleepHeld (h : ThermalOnly s u) (hs : sleepHeld s) : sleepHeld u := by
  obtain ⟨-, -, -, -, -, -, pending⟩ := h.heat_eq
  rw [Machine.sleepHeld, pending, h.faults]
  exact hs

/-! ### The lamp forced off and the cooldown begun -/

theorem lampDark_thermal {st : LampState} (hst : st = .off ∨ st = .failed) (s : State) : ThermalOnly s (lampDark st s) := by
  obtain ⟨f, t, e⟩ := lampDark_eq hst s
  rw [e]
  exact ⟨⟨_, _, _, _, rfl⟩, rfl, rfl, rfl⟩

theorem lampGoesOff_reported (c : Reason) (hs : sleepHeld s) : lampGoesOff c s = reportLamp c (lampDark .off s) :=
  sleepTest_held (((lampDark_thermal (.inl rfl) s).trans
    (thermal_of_reports ((Reports.refl _).reportLamp c))).sleepHeld hs)

theorem lampGoesOff_thermal (c : Reason) (hs : sleepHeld s) : ThermalOnly s (lampGoesOff c s) := by
  rw [lampGoesOff_reported c hs]
  exact (lampDark_thermal (.inl rfl) s).trans (thermal_of_reports ((Reports.refl _).reportLamp c))

theorem lampGoesOff_state (c : Reason) (hs : sleepHeld s) : (lampGoesOff c s).lamp.state = .off := by
  rw [lampGoesOff_reported c hs]
  obtain ⟨m, t, e, -⟩ := (Reports.refl (lampDark .off s)).reportLamp c
  obtain ⟨f, t', e'⟩ := lampDark_eq (.inl rfl) s
  rw [e, e']

/-- A lamp that does not burn is not turned off. -/
theorem lampOffNow_thermal (c : Reason) (hs : sleepHeld s) : ThermalOnly s (lampOffNow c s)
    ∧ (lampOffNow c s).lamp.state ≠ .preheat ∧ (lampOffNow c s).lamp.state ≠ .lit := by
  have off := lampGoesOff_state c hs
  unfold lampOffNow cancelRestrike
  split
  · exact ⟨lampGoesOff_thermal c hs, by simp [off], by simp [off]⟩
  · exact ⟨lampGoesOff_thermal c hs, by simp [off], by simp [off]⟩
  · next h => exact ⟨⟨⟨_, _, _, _, rfl⟩, rfl, rfl, rfl⟩, by simp [h], by simp [h]⟩
  · next h => exact ⟨.refl s, by simp [h], by simp [h]⟩
  · next h => exact ⟨.refl s, by simp [h], by simp [h]⟩

theorem ensureCooldown_thermal (s : State) : ThermalOnly s (ensureCooldown s) := by
  unfold ensureCooldown
  split
  · exact .refl s
  · exact ⟨⟨_, _, _, _, rfl⟩, rfl, rfl, rfl⟩

theorem ensureCooldown_cooling (s : State) :
    (ensureCooldown s).heat.cooling = true ∧ (ensureCooldown s).lamp.state = s.lamp.state := by
  unfold ensureCooldown
  split
  · next h => exact ⟨h, rfl⟩
  · exact ⟨rfl, rfl⟩

/-- A raised fault of heat turns the lamp off and starts the cooldown, the ceiling at 0 and the fan at HIGH (R70, R72 to R74). -/
structure HeatFaulted (s u : State) : Prop where
  thermal : ThermalOnly s u
  cooling : u.heat.cooling = true
  dark : u.lamp.state ≠ .preheat ∧ u.lamp.state ≠ .lit
  ceiled : u.heat.ceiling = 0 ∧ u.lamp.drive = 0
  fan : u.heat.fan = fanLevelOf u

theorem heatFaultRaised_spec (c : Reason) (hd : s.lamp.darkWaiting = false) (hot : hotIn s.link.faults = true) :
    HeatFaulted s (heatFaultRaised c s) := by
  obtain ⟨off, preheat, lit⟩ := lampOffNow_thermal c (s := s) (.inr hot)
  have forced : forceLampOff c s = lampOffNow c s := withDarkTest_eq rfl (off.dark.trans hd)
  obtain ⟨cooling, state⟩ := ensureCooldown_cooling (lampOffNow c s)
  have cooled := off.trans (ensureCooldown_thermal (lampOffNow c s))
  unfold heatFaultRaised
  rw [forced]
  generalize ensureCooldown (lampOffNow c s) = u at cooling state cooled ⊢
  have dark := cooled.dark.trans hd
  have ceiled := handCeiling_ceiled dark
  have blocked : ceilingOf u = 0 := by
    rw [cooled.ceiling_eq]
    refine ceilingOf_blocked ?_
    rcases Bool.or_eq_true_iff.mp hot with h | h
    · exact .inl h
    · exact .inr (.inl h)
  refine ⟨(cooled.trans (handCeiling_thermal dark)).trans (evalFan_thermal _), ceiled.cooling cooling, ?_, ?_, rfl⟩
  · change (handCeiling u).lamp.state ≠ _ ∧ (handCeiling u).lamp.state ≠ _
    rw [ceiled.state, state]
    exact ⟨preheat, lit⟩
  · have drive := ceiled.drive
    rw [blocked] at drive
    exact ⟨ceiled.ceiling.trans blocked, Nat.le_zero.mp (drive ▸ driveOf_le _ _)⟩

/-! ### Faults raised and cleared -/

/-- A raised fault moves link and trace alone, and of the faults its own. -/
theorem raiseFault_frame (f : FaultKind) (pos : Option LampPos) (s : State) :
    ∃ l c, raiseFault f pos s = { s with link := l, trace := c } := by
  obtain ⟨l, c, e, -⟩ := raiseFault_spec f pos s
  exact ⟨l, c, e⟩

theorem clearFault_frame (f : FaultKind) (s : State) : ∃ l c, clearFault f s = { s with link := l, trace := c } := by
  obtain ⟨l, c, e, -⟩ := clearFault_spec f s
  exact ⟨l, c, e⟩

theorem hasFault_raise (f g : FaultKind) (pos : Option LampPos) (s : State) :
    hasFault f (raiseFault g pos s) = (hasFault f s || decide (f = g)) := faultIn_raiseFault s f g pos

theorem hasFault_clear (f g : FaultKind) (s : State) :
    hasFault f (clearFault g s) = (hasFault f s && !decide (f = g)) := faultIn_clearFault s f g

end Sys2Proof.Machine
end

section
/-! ## Fan and cut-out report (R71, R72, R74) -/

namespace Sys2Proof.Machine

variable {s t u : State}

/-- A THERMAL report ends an event of fan or cut-out, and leaves what stood. -/
theorem ThermalOnly.settled (h : ThermalOnly u t) (key : FanLevel × Zone × Bool) : ThermalOnly u (settleThermal key t) :=
  h.trans (settleThermal_thermal key t)

/-- A THERMAL report leaves lamp and heat. -/
theorem settleThermal_lampHeat (key : FanLevel × Zone × Bool) (s : State) :
    (settleThermal key s).lamp = s.lamp ∧ (settleThermal key s).heat = s.heat := by
  obtain ⟨l, c, e, -⟩ := settleThermal_spec key s
  rw [e]
  exact ⟨rfl, rfl⟩

/-! ### Fan -/

theorem fanStalls_idle (h : s.heat.stallTimer = none) : fanStalls s = s := by simp [fanStalls, h]

/-- FAN_STALL stands, and the ceiling is at most 400 (R71, R72). -/
theorem ceilingOf_stalled (h : hasFault .fanStall s = true) : ceilingOf s ≤ 400 := by simp [ceilingOf, h]

theorem ceilingOf_running (h : hasFault .fanStall s = false) :
    ceilingOf s = heatCeiling s.heat.estimate (hasFault .overtemp s || hasFault .tcoOpen s) := by simp [ceilingOf, h]

/-- The fan stall timer's end (R71). -/
theorem fanStallTimeout_effect (hd : s.lamp.darkWaiting = false) {n : Nat} (h : s.heat.stallTimer = some n) :
    ∃ t, exec .fanStallTimeout s = .next t ∧ hasFault .fanStall t = true ∧ t.heat.ceiling ≤ 400 ∧ t.lamp.drive ≤ 400
      ∧ t.heat.estimate = s.heat.estimate ∧ t.tray.slots = s.tray.slots ∧ sameShow s t ∧ sameRest s t := by
  obtain ⟨l, c, e⟩ := raiseFault_frame .fanStall none { s with heat.stallTimer := none }
  have stalls : fanStalls s = handCeiling (raiseFault .fanStall none { s with heat.stallTimer := none }) := by
    simp [fanStalls, h]
  have stands := hasFault_raiseFault { s with heat.stallTimer := none } .fanStall none
  refine ⟨_, next_congr (congrArg (settleThermal (thermalKey s)) stalls), ?_⟩
  rw [e] at stands ⊢
  have settled := (handCeiling_thermal (s := { s with heat.stallTimer := none, link := l, trace := c }) hd).settled
    (thermalKey s)
  obtain ⟨lamp, heat⟩ := settleThermal_lampHeat (thermalKey s)
    (handCeiling { s with heat.stallTimer := none, link := l, trace := c })
  have ceiled := handCeiling_ceiled (s := { s with heat.stallTimer := none, link := l, trace := c }) hd
  have limit := ceilingOf_stalled stands
  obtain ⟨tray, -, show_, rest⟩ := settled.blocks
  refine ⟨(settled.hasFault_eq _).trans stands, ?_, ?_, settled.heat_eq.1, congrArg Tray.slots tray, show_, rest⟩
  · rw [heat, ceiled.ceiling]
    exact limit
  · rw [lamp, ceiled.drive]
    exact (driveOf_le _ _).trans limit

/-- A tach pulse without FAN_STALL restarts the stall timer (R71). -/
theorem fanTachPulse_running (h : hasFault .fanStall s = false) : exec .fanTachPulse s =
    .next { s with heat.stallTimer := if s.heat.fan = .off then none else some 0 } := by
  have tach : fanTach s = { s with heat.stallTimer := if s.heat.fan = .off then none else some 0 } := by simp [fanTach, h]
  exact next_congr ((settleThermal_same _ _ (by rw [tach]; rfl)).trans tach)

/-- A tach pulse clears FAN_STALL, and the ceiling is computed anew (R71, R72). -/
theorem fanTachPulse_clears (hd : s.lamp.darkWaiting = false) (h : hasFault .fanStall s = true) :
    ∃ t, exec .fanTachPulse s = .next t ∧ hasFault .fanStall t = false
      ∧ t.heat.ceiling = heatCeiling s.heat.estimate (hasFault .overtemp s || hasFault .tcoOpen s)
      ∧ t.heat.estimate = s.heat.estimate ∧ sameShow s t ∧ sameRest s t := by
  let pulsed : State := { s with heat.stallTimer := if s.heat.fan = .off then none else some 0 }
  obtain ⟨l, c, e⟩ := clearFault_frame .fanStall pulsed
  have tach : fanTach s = handCeiling (clearFault .fanStall pulsed) := by simp [fanTach, h, pulsed]
  have faults (f : FaultKind) : hasFault f (clearFault .fanStall pulsed) = (hasFault f s && !decide (f = .fanStall)) :=
    hasFault_clear f .fanStall pulsed
  refine ⟨_, next_congr (congrArg (settleThermal (thermalKey s)) tach), ?_⟩
  rw [e] at faults ⊢
  have settled := (handCeiling_thermal (s := { pulsed with link := l, trace := c }) hd).settled (thermalKey s)
  obtain ⟨-, heat⟩ := settleThermal_lampHeat (thermalKey s) (handCeiling { pulsed with link := l, trace := c })
  have cleared : hasFault .fanStall { pulsed with link := l, trace := c } = false := by simp [faults]
  obtain ⟨-, -, show_, rest⟩ := settled.blocks
  refine ⟨(settled.hasFault_eq _).trans cleared, ?_, settled.heat_eq.1, show_, rest⟩
  rw [heat, (handCeiling_ceiled (s := { pulsed with link := l, trace := c }) hd).ceiling, ceilingOf_running cleared,
    faults, faults]
  simp [pulsed]

/-! ### Cut-out -/

/-- What a wake makes of a part (R85). -/
theorem wake_eq (src : WakeSource) (s : State) : ∃ l h, wake src s = { s with link := l, heat := h }
    ∧ h.estimate = s.heat.estimate ∧ h.power = (if s.heat.power = .sleep then .standby else s.heat.power) := by
  unfold wake
  split
  · exact ⟨_, _, rfl, rfl, rfl⟩
  · exact ⟨_, _, rfl, rfl, rfl⟩

/-- The cut-out opens (R74). -/
theorem tcoOpens_effect (hd : s.lamp.darkWaiting = false) (hl : s.lines.tcoOpen = false) :
    ∃ t, exec (.tcoLineChange true) s = .next t ∧ hasFault .tcoOpen t = true ∧ t.lines = { s.lines with tcoOpen := true }
      ∧ t.lamp.drive = 0 ∧ t.lamp.state ≠ .preheat ∧ t.lamp.state ≠ .lit ∧ t.heat.ceiling = 0 ∧ t.heat.cooling = true
      ∧ t.heat.fan = .high ∧ t.heat.allowed = false
      ∧ t.heat.power = (if s.heat.power = .sleep then .standby else s.heat.power) ∧ t.heat.estimate = s.heat.estimate
      ∧ sameShow s t ∧ t.items = s.items ∧ t.remote = s.remote := by
  let opened : State := { s with lines.tcoOpen := true }
  obtain ⟨lw, h, woken, estimate, power⟩ := wake_eq .cutOut opened
  obtain ⟨l, c, e⟩ := raiseFault_frame .tcoOpen none (wake .cutOut opened)
  have stands := hasFault_raiseFault (wake .cutOut opened) .tcoOpen none
  have opens : tcoChanges true s
      = settleThermal (thermalKey s) (evalPermission (heatFaultRaised .tco (raiseFault .tcoOpen none (wake .cutOut opened)))) := by
    simp [tcoChanges, hl, withThermal, tcoOpens, opened]
  refine ⟨_, next_congr opens, ?_⟩
  rw [e, woken] at stands ⊢
  let raised : State := { opened with link := l, heat := h, trace := c }
  have hot : hotIn raised.link.faults = true := Bool.or_eq_true_iff.mpr (.inr stands)
  obtain ⟨thermal, cooling, dark, ceiled, fan⟩ := heatFaultRaised_spec (s := raised) .tco hd hot
  have settled := (thermal.trans (evalPermission_thermal _)).settled (thermalKey s)
  obtain ⟨lamp, heat⟩ := settleThermal_lampHeat (thermalKey s) (evalPermission (heatFaultRaised .tco raised))
  obtain ⟨estimate', -, -, -, -, power', -⟩ := settled.heat_eq
  obtain ⟨-, -, show_, items, remote, lines, -⟩ := settled.blocks
  have awake : (heatFaultRaised .tco raised).heat.power ≠ .sleep := by
    obtain ⟨-, -, -, -, -, power'', -⟩ := thermal.heat_eq
    rw [power'', power]
    split <;> simp_all
  refine ⟨(settled.hasFault_eq _).trans stands, lines, ?_, ?_, ?_, ?_, ?_, ?_, ?_, power'.trans power, estimate'.trans estimate,
    show_, items, remote⟩
  · rw [lamp]; exact ceiled.2
  · rw [lamp]; exact dark.1
  · rw [lamp]; exact dark.2
  · rw [heat]; exact ceiled.1
  · rw [heat]; exact cooling
  · rw [heat]
    change (heatFaultRaised .tco raised).heat.fan = .high
    rw [fan, fanLevelOf, if_neg awake, cooling]
    rfl
  · rw [heat]
    change strikeAllowed (heatFaultRaised .tco raised) = false
    simp [strikeAllowed, thermal.hasFault_eq, stands, raised, opened]

/-- The cut-out closes (R74). -/
theorem tcoCloses_effect (hd : s.lamp.darkWaiting = false) (hl : s.lines.tcoOpen = true) (hp : s.heat.sleepPending = .clear) :
    ∃ t, exec (.tcoLineChange false) s = .next t ∧ hasFault .tcoOpen t = false
      ∧ t.lines = { s.lines with tcoOpen := false } ∧ t.heat.allowed = decide (s.heat.estimate ≤ 17920)
      ∧ (s.heat.cooling = true → t.heat.cooling = true) ∧ t.heat.estimate = s.heat.estimate ∧ t.heat.power = s.heat.power
      ∧ sameShow s t ∧ t.items = s.items ∧ t.remote = s.remote := by
  let closed : State := { s with lines.tcoOpen := false }
  obtain ⟨l, c, e⟩ := clearFault_frame .tcoOpen closed
  have cleared : hasFault .tcoOpen (clearFault .tcoOpen closed) = false := hasFault_clearFault ..
  have closes : tcoChanges false s = sleepTest (settleThermal (thermalKey s)
      (evalPermission (evalFan (handCeiling (clearFault .tcoOpen closed))))) := by
    simp [tcoChanges, hl, withThermal, tcoCloses, closed]
  rw [e] at cleared closes
  let quiet : State := { closed with link := l, trace := c }
  have thermal : ThermalOnly quiet (evalFan (handCeiling quiet)) :=
    (handCeiling_thermal (s := quiet) hd).trans (evalFan_thermal _)
  have settled := (thermal.trans (evalPermission_thermal _)).settled (thermalKey s)
  obtain ⟨-, heat⟩ := settleThermal_lampHeat (thermalKey s) (evalPermission (evalFan (handCeiling quiet)))
  obtain ⟨estimate, -, -, -, -, power, pending⟩ := settled.heat_eq
  obtain ⟨-, -, show_, items, remote, lines, -⟩ := settled.blocks
  refine ⟨_, next_congr (closes.trans (sleepTest_clear (pending.trans hp))), (settled.hasFault_eq _).trans cleared, lines, ?_, ?_,
    estimate, power, show_, items, remote⟩
  · rw [heat]
    change strikeAllowed (evalFan (handCeiling quiet)) = _
    rw [thermal.allowed_eq, strikeAllowed, cleared]
    simp [quiet, closed]
  · intro hc
    rw [heat]
    exact (handCeiling_ceiled (s := quiet) hd).cooling hc

end Sys2Proof.Machine

namespace Sys2Proof.Proofs

open Sys2Proof.Machine

/-- Settles O31: the ceiling's decision answers a changed fault with ceiling and D (`handCeiling_ceiled`), a raised
TCO_OPEN forces the lamp off and the cooldown on (`heatFaultRaised_spec`), and the rest stands (`ThermalOnly`). -/
theorem fanAndCutOutReport : Obligations.FanAndCutOutReport := by
  intro s hd
  refine ⟨fun h => withThermal_next (fanStalls_idle h) rfl, fun n => fanStallTimeout_effect hd, fanTachPulse_running,
    fanTachPulse_clears hd, next_congr (by simp [tcoChanges]), tcoOpens_effect hd, tcoCloses_effect hd⟩

end Sys2Proof.Proofs
end

section
/-! ## The heat-model update (R65 to R68, R72, R73, R75, R78) -/

namespace Sys2Proof.Machine

variable {r : Option Int} {s t u : State}

/-! ### The reading and H (R65 to R68) -/

/-- The reading is taken when it is a good one, and AMBIENT_SENSOR follows it (R66). -/
theorem readAmbient_frame (r : Option Int) (s : State) : ∃ l c, readAmbient r s = { s with
      link := l, trace := c, heat.ambient := (goodReading r).getD s.heat.ambient }
    ∧ faultIn .ambientSensor l.faults = (goodReading r).isNone
    ∧ ∀ f, f ≠ .ambientSensor → faultIn f l.faults = hasFault f s := by
  unfold readAmbient
  split
  · next a hr =>
    have faults (f : FaultKind) : hasFault f (clearFault .ambientSensor { s with heat.ambient := a })
        = (hasFault f s && !decide (f = .ambientSensor)) := hasFault_clear ..
    obtain ⟨l, c, e⟩ := clearFault_frame .ambientSensor { s with heat.ambient := a }
    rw [e] at faults
    rw [e, hr]
    exact ⟨l, c, rfl, (faults _).trans (by simp), fun f hf => (faults f).trans (by simp [hf])⟩
  · next hr =>
    have faults (f : FaultKind) := hasFault_raise f .ambientSensor none s
    obtain ⟨l, c, e⟩ := raiseFault_frame .ambientSensor none s
    rw [e] at faults
    rw [e, hr]
    exact ⟨l, c, rfl, (faults _).trans (by simp), fun f hf => (faults f).trans (by simp [hf])⟩

theorem goodReading_getD (r : Option Int) (a : Nat) : (goodReading r).getD a
    = match r with
      | some v => if 0 ≤ v ∧ v ≤ 20480 then v.toNat else a
      | none => a := by
  unfold goodReading
  cases r with
  | none => rfl
  | some v => dsimp only; split <;> rfl

theorem goodReading_isNone (r : Option Int) : (goodReading r).isNone
    = match r with
      | some v => !decide (0 ≤ v ∧ v ≤ 20480)
      | none => true := by
  unfold goodReading
  cases r with
  | none => rfl
  | some v =>
    dsimp only
    by_cases h : 0 ≤ v ∧ v ≤ 20480
    · rw [if_pos h, decide_eq_true h]
      rfl
    · rw [if_neg h, decide_eq_false h]
      rfl

theorem clampTo_zero (hi n : Nat) : clampTo 0 hi n = min hi n := by
  unfold clampTo
  repeat' split
  all_goals omega

/-- With D = 0 nothing warms a gate below 85 °C up to it, for A stays below (R73). -/
theorem newEstimate_cold (hd : s.lamp.drive = 0) (ha : s.heat.ambient ≤ 20480) (he : s.heat.estimate < 21760)
    (hk : kout s ≤ 40) : newEstimate s < 21760 := by
  unfold newEstimate
  split
  · omega
  · have loss : (s.heat.estimate : Int) - s.heat.ambient ≤ 0 →
        (s.heat.estimate : Int) - s.heat.ambient ≤ Int.tdiv (((s.heat.estimate : Int) - s.heat.ambient) * kout s) 16384 := by
      intro cold
      have fall : 0 ≤ ((s.heat.ambient : Int) - s.heat.estimate) * (16384 - kout s) :=
        mul_nonneg (by omega) (by omega)
      have way : (((s.heat.estimate : Int) - s.heat.ambient) * kout s) = -(((s.heat.ambient : Int) - s.heat.estimate) * kout s) := by
        ring
      have whole : ((s.heat.ambient : Int) - s.heat.estimate) * kout s / 16384 ≤ (s.heat.ambient : Int) - s.heat.estimate :=
        Int.ediv_le_of_le_mul (by decide) (by linarith)
      rw [way, Int.neg_tdiv, Int.tdiv_eq_ediv_of_nonneg (mul_nonneg (by omega) (by omega))]
      omega
    have gain : 0 ≤ (s.heat.estimate : Int) - s.heat.ambient →
        0 ≤ Int.tdiv (((s.heat.estimate : Int) - s.heat.ambient) * kout s) 16384 := fun warm =>
      Int.tdiv_nonneg (mul_nonneg warm (by omega)) (by decide)
    simp only [heatFormula, hd, Nat.zero_mul, Nat.zero_div, clampTo_zero]
    omega

theorem kout_le (s : State) : kout s ≤ 40 := by
  unfold kout fanCoefficient
  repeat' split
  all_goals omega

/-! ### The trip latch (R73) -/

/-- The latch moves with OVERTEMP, and lamp and heat follow it. -/
theorem evalLatch_thermal (hd : s.lamp.darkWaiting = false) : ∃ l c,
    ThermalOnly { s with link := l, trace := c, heat.latch := nextLatch s } (evalLatch s)
      ∧ ∀ f, f ≠ .overtemp → faultIn f l.faults = hasFault f s := by
  unfold evalLatch
  split
  · next ht =>
    have latch : nextLatch s = true := by simp [nextLatch, ht]
    have faults (f : FaultKind) : hasFault f (raiseFault .overtemp none { s with heat.latch := true })
        = (hasFault f s || decide (f = .overtemp)) := hasFault_raise ..
    have hot := hot_raiseFault (.inl rfl) none { s with heat.latch := true }
    obtain ⟨l, c, e⟩ := raiseFault_frame .overtemp none { s with heat.latch := true }
    rw [e] at faults hot ⊢
    rw [latch]
    exact ⟨l, c, (heatFaultRaised_spec .overtemp (by exact hd) hot).thermal,
      fun f hf => (faults f).trans (by simp [hf])⟩
  · next ht =>
    split
    · next hu =>
      have latch : nextLatch s = false := by simp [nextLatch, ht, hu]
      have faults (f : FaultKind) : hasFault f (clearFault .overtemp { s with heat.latch := false })
          = (hasFault f s && !decide (f = .overtemp)) := hasFault_clear ..
      obtain ⟨l, c, e⟩ := clearFault_frame .overtemp { s with heat.latch := false }
      rw [e] at faults ⊢
      rw [latch]
      exact ⟨l, c, (handCeiling_thermal (by exact hd)).trans (evalFan_thermal _),
        fun f hf => (faults f).trans (by simp [hf])⟩
    · next hu =>
      have latch : nextLatch s = s.heat.latch := by simp [nextLatch, ht, hu]
      rw [latch]
      exact ⟨s.link, s.trace, .refl s, fun f _ => rfl⟩

/-- A trip raises OVERTEMP, turns the lamp off and starts the cooldown. -/
theorem evalLatch_trips (hd : s.lamp.darkWaiting = false) (ht : tripsNow s = true) :
    hasFault .overtemp (evalLatch s) = true ∧ (evalLatch s).heat.cooling = true
      ∧ (evalLatch s).lamp.state ≠ .preheat ∧ (evalLatch s).lamp.state ≠ .lit := by
  have stands := hasFault_raiseFault { s with heat.latch := true } .overtemp none
  have hot := hot_raiseFault (.inl rfl) none { s with heat.latch := true }
  have dark : (raiseFault .overtemp none { s with heat.latch := true }).lamp.darkWaiting = false := by
    obtain ⟨l, c, e⟩ := raiseFault_frame .overtemp none { s with heat.latch := true }
    rw [e]
    exact hd
  obtain ⟨thermal, cooling, off, -⟩ := heatFaultRaised_spec .overtemp dark hot
  rw [evalLatch, if_pos ht]
  exact ⟨(thermal.hasFault_eq _).trans stands, cooling, off⟩

/-! ### The decisions (R70, R72, R75, R78) -/

/-- What an update decides by the new H. -/
structure Decided (s u : State) : Prop where
  thermal : ThermalOnly s u
  ceiling : u.heat.ceiling = ceilingOf s
  zone : u.heat.zone = zoneOf s.heat.estimate
  allowed : u.heat.allowed = strikeAllowed s
  drive : u.lamp.drive = driveOf u.lamp (ceilingOf s)
  state : u.lamp.state = s.lamp.state

/-- Fan floor, ceiling and permission, before the cooldown is counted. -/
def decisions (s : State) : State := evalPermission (handCeiling (evalFloor s))

theorem decisions_decided (hd : s.lamp.darkWaiting = false) : Decided s (decisions s)
    ∧ (s.heat.cooling = true → (decisions s).heat.cooling = true) := by
  have ceiled := handCeiling_ceiled (s := evalFloor s) hd
  have thermal := (evalFloor_thermal s).trans (handCeiling_thermal (s := evalFloor s) hd)
  exact ⟨⟨thermal.trans (evalPermission_thermal _), ceiled.ceiling, ceiled.zone, thermal.allowed_eq, ceiled.drive,
    ceiled.state⟩, ceiled.cooling⟩

/-- The count of the cooldown reaches reports, fan and record alone (R78). -/
theorem advanceCooldown_frame (s : State) : ∃ l e b f m, advanceCooldown s = { s with
      link := l, heat := { s.heat with elapsed := e, cooling := b, fan := f, stallTimer := m } }
    ∧ l.faults = s.link.faults := by
  unfold advanceCooldown
  dsimp only
  split
  · split
    · exact ⟨_, _, _, _, _, rfl, (giveLink_reported _ _).faults⟩
    · exact ⟨_, _, _, _, _, rfl, rfl⟩
  · exact ⟨_, _, _, _, _, rfl, rfl⟩

theorem Decided.advance (h : Decided s u) : Decided s (advanceCooldown u) := by
  obtain ⟨l, e, b, f, m, eq, faults⟩ := advanceCooldown_frame u
  rw [eq]
  exact ⟨h.thermal.trans ⟨⟨_, _, _, _, rfl⟩, faults, rfl, rfl⟩, h.ceiling, h.zone, h.allowed, h.drive, h.state⟩

theorem updateDecisions_decided (b : Bool) (hd : s.lamp.darkWaiting = false) : Decided s (updateDecisions b s) := by
  unfold updateDecisions
  dsimp only
  split
  · exact (decisions_decided hd).1.advance
  · exact (decisions_decided hd).1

/-! ### The update -/

/-- The state with the reading taken and H computed. -/
def estimated (r : Option Int) (s : State) : State := updateEstimate (readAmbient r { s with heat.updateTimer := some 0 })

/-- An update's decisions, with its THERMAL report. -/
def updated (r : Option Int) (s : State) : State :=
  settleThermal (thermalKey s)
    (updateDecisions (!tripStartsCooldown (estimated r s)) (evalLatch (estimated r s)))

/-- What the new H is computed from stands as it was, and the faults but AMBIENT_SENSOR do. -/
theorem estimated_frame (r : Option Int) (s : State) : ∃ l c, estimated r s = { s with
      link := l, trace := c
      heat := { s.heat with
        ambient := (goodReading r).getD s.heat.ambient, estimate := (estimated r s).heat.estimate, wakeDue := false
        updateTimer := some 0 } }
    ∧ faultIn .ambientSensor l.faults = (goodReading r).isNone
    ∧ ∀ f, f ≠ .ambientSensor → faultIn f l.faults = hasFault f s := by
  obtain ⟨l, c, e, sensor, faults⟩ := readAmbient_frame r { s with heat.updateTimer := some 0 }
  exact ⟨l, c, by rw [estimated, updateEstimate, e], sensor, faults⟩

/-- H by the wake rule or the formula (R67, R68). -/
theorem estimated_estimate (r : Option Int) (s : State) {a : Nat} (ha : (goodReading r).getD s.heat.ambient = a) :
    (estimated r s).heat.estimate = if s.heat.wakeDue then max s.heat.estimate a
      else heatFormula s.heat.estimate s.lamp.drive s.items.heatKin a (kout s) := by
  obtain ⟨l, c, e, -, faults⟩ := readAmbient_frame r { s with heat.updateTimer := some 0 }
  have stall : faultIn .fanStall l.faults = hasFault .fanStall s := faults .fanStall (by decide)
  rw [ha] at e
  rw [estimated, e]
  change newEstimate _ = _
  unfold newEstimate kout
  change (if s.heat.wakeDue then max s.heat.estimate a
    else heatFormula s.heat.estimate s.lamp.drive s.items.heatKin a (if faultIn .fanStall l.faults then 3 else _)) = _
  rw [stall]

theorem updated_decided (hd : s.lamp.darkWaiting = false) (r : Option Int) : Decided (evalLatch (estimated r s)) (updated r s)
    ∧ ∃ l c, ThermalOnly { estimated r s with link := l, trace := c, heat.latch := nextLatch (estimated r s) } (updated r s)
      ∧ (faultIn .ambientSensor l.faults = (goodReading r).isNone)
      ∧ ∀ f, f ≠ .ambientSensor → f ≠ .overtemp → faultIn f l.faults = hasFault f s := by
  obtain ⟨l0, c0, e, sensor, faults⟩ := estimated_frame r s
  have waiting : (estimated r s).lamp.darkWaiting = false := by rw [e]; exact hd
  have stands (f : FaultKind) : hasFault f (estimated r s) = faultIn f l0.faults := by rw [e]; rfl
  obtain ⟨l, c, latched, others⟩ := evalLatch_thermal waiting
  have decided := updateDecisions_decided (!tripStartsCooldown (estimated r s)) (latched.dark.trans waiting)
  have settled := settleThermal_thermal (thermalKey s)
    (updateDecisions (!tripStartsCooldown (estimated r s)) (evalLatch (estimated r s)))
  obtain ⟨lamp, heat⟩ := settleThermal_lampHeat (thermalKey s)
    (updateDecisions (!tripStartsCooldown (estimated r s)) (evalLatch (estimated r s)))
  change (updated r s).lamp = _ at lamp
  change (updated r s).heat = _ at heat
  refine ⟨⟨decided.thermal.trans settled, ?_, ?_, ?_, ?_, ?_⟩, l, c, (latched.trans decided.thermal).trans settled, ?_,
    fun f hf ho => ?_⟩
  · exact heat ▸ decided.ceiling
  · exact heat ▸ decided.zone
  · exact heat ▸ decided.allowed
  · exact lamp ▸ decided.drive
  · exact lamp ▸ decided.state
  · exact (others _ (by decide)).trans ((stands _).trans sensor)
  · exact (others f ho).trans ((stands f).trans (faults f hf))

/-- With no sleep pending an update outside SLEEP ends with its report. -/
theorem heatUpdated_updated (hp : s.heat.sleepPending = .clear) (hd : s.lamp.darkWaiting = false) (r : Option Int)
    (hs : s.heat.power ≠ .sleep) : heatUpdated r s = updated r s := by
  obtain ⟨-, l, c, thermal, -⟩ := updated_decided hd r
  obtain ⟨-, -, -, -, -, -, pending⟩ := thermal.heat_eq
  have clear : (updated r s).heat.sleepPending = .clear := pending.trans (by
    obtain ⟨l0, c0, e, -⟩ := estimated_frame r s
    rw [e]
    exact hp)
  have tested : sleepTest (updated r s) = updated r s := sleepTest_clear clear
  rw [heatUpdated, if_neg hs]
  change (if _ then sleepTest (updated r s) else updated r s) = _
  rw [tested, ite_self]

end Sys2Proof.Machine
end

section
/-! ## The heat-model update as a command -/

namespace Sys2Proof.Machine

variable {r : Option Int} {s t : State}

theorem kout_eq (s : State) : kout s = if hasFault .fanStall s then 3
    else match s.heat.fan with | .off => 3 | .low => 12 | .medium => 24 | .high => 40 := by
  unfold kout
  cases s.heat.fan <;> rfl

/-- What stands and what is new after an update: the faults, the heat model and the blocks. -/
theorem updated_model (hd : s.lamp.darkWaiting = false) (r : Option Int) :
    (updated r s).heat.estimate = (estimated r s).heat.estimate
      ∧ (updated r s).heat.ambient = (goodReading r).getD s.heat.ambient ∧ (updated r s).heat.wakeDue = false
      ∧ (updated r s).heat.updateTimer = some 0 ∧ (updated r s).heat.latch = nextLatch (estimated r s)
      ∧ (updated r s).heat.power = s.heat.power
      ∧ hasFault .ambientSensor (updated r s) = (goodReading r).isNone
      ∧ (∀ f, f ≠ .ambientSensor → f ≠ .overtemp → hasFault f (updated r s) = hasFault f s)
      ∧ sameShow s (updated r s) ∧ sameRest s (updated r s) ∧ (updated r s).tray.slots = s.tray.slots := by
  obtain ⟨-, l, c, thermal, sensor, faults⟩ := updated_decided hd r
  obtain ⟨l0, c0, e, -⟩ := estimated_frame r s
  obtain ⟨estimate, ambient, latch, wakeDue, timer, power, -⟩ := thermal.heat_eq
  obtain ⟨tray, -, show_, rest⟩ := thermal.blocks
  refine ⟨estimate, ambient.trans ?_, wakeDue.trans ?_, timer.trans ?_, latch, power.trans ?_,
    (thermal.hasFault_eq _).trans sensor, fun f hf ho => (thermal.hasFault_eq f).trans (faults f hf ho), ?_, ?_,
    (congrArg Tray.slots tray).trans ?_⟩
  · change (estimated r s).heat.ambient = _; rw [e]
  · change (estimated r s).heat.wakeDue = _; rw [e]
  · change (estimated r s).heat.updateTimer = _; rw [e]
  · change (estimated r s).heat.power = _; rw [e]
  · rw [e] at show_; exact show_
  · rw [e] at rest; exact rest
  · change (estimated r s).tray.slots = _; rw [e]

/-- What an update decides, of the state it leaves (R72, R73, R75). -/
theorem updated_decisions (hd : s.lamp.darkWaiting = false) (r : Option Int) :
    (updated r s).heat.ceiling = ceilingOf (updated r s) ∧ (updated r s).heat.zone = zoneOf (updated r s).heat.estimate
      ∧ (updated r s).heat.allowed = strikeAllowed (updated r s)
      ∧ (updated r s).lamp.drive = driveOf (updated r s).lamp (updated r s).heat.ceiling := by
  obtain ⟨⟨thermal, ceiling, zone, allowed, drive, -⟩, -⟩ := updated_decided hd r
  exact ⟨ceiling.trans thermal.ceiling_eq.symm, zone.trans (congrArg zoneOf thermal.heat_eq.1.symm),
    allowed.trans thermal.allowed_eq.symm, ceiling ▸ drive⟩

/-- The latch after an update (R73). -/
theorem nextLatch_eq (s : State) : nextLatch s
    = if 21760 ≤ s.heat.estimate then true else s.heat.latch && decide (17920 < s.heat.estimate) := by
  split
  · next hot => exact nextLatch_hot hot
  · next hot =>
    unfold nextLatch tripsNow untripsNow
    by_cases warm : 17920 < s.heat.estimate
    · simp [hot, warm]
    · cases s.heat.latch <;> simp [hot, warm, Nat.le_of_not_lt warm]

section Trip

variable (ha : s.heat.ambient ≤ 20480) (hl : 21760 ≤ s.heat.estimate → s.heat.latch = true)
include ha hl

/-- A trip comes from a burning lamp, or starts the cooldown, so that this update does not count it (R73, R77). -/
theorem trip_startsCooldown (ht : tripsNow (estimated r s) = true) : tripStartsCooldown (estimated r s) = true := by
  obtain ⟨l, c, e, -⟩ := readAmbient_frame r { s with heat.updateTimer := some 0 }
  have taken : (goodReading r).getD s.heat.ambient ≤ 20480 := by
    cases hr : goodReading r with
    | none => exact ha
    | some a => exact goodReading_le hr
  have parts : (estimated r s).heat.latch = s.heat.latch ∧ (estimated r s).lamp.drive = s.lamp.drive
      ∧ (estimated r s).heat.estimate = newEstimate (readAmbient r { s with heat.updateTimer := some 0 }) := by
    rw [estimated, e]
    exact ⟨rfl, rfl, rfl⟩
  obtain ⟨latch, drive, estimate⟩ := parts
  have trips := ht
  simp only [tripsNow, Bool.and_eq_true, Bool.not_eq_true', decide_eq_true_eq, latch, estimate] at trips
  obtain ⟨unlatched, hot⟩ := trips
  have cold : s.heat.estimate < 21760 := by
    by_contra h
    exact absurd (hl (Nat.le_of_not_lt h)) (by simp [unlatched])
  have burns : 0 < s.lamp.drive := by
    refine Nat.pos_of_ne_zero fun dark => absurd hot (Nat.not_le.mpr (newEstimate_cold ?_ ?_ ?_ (kout_le _)))
    all_goals rw [e]
    · exact dark
    · exact taken
    · exact cold
  simp [tripStartsCooldown, ht, drive, burns]

/-- A trip: OVERTEMP, D and the ceiling at 0, the lamp off and the cooldown pending (R73). -/
theorem updated_trips (hd : s.lamp.darkWaiting = false) (ht : tripsNow (estimated r s) = true) : hasFault .overtemp (updated r s) = true
    ∧ (updated r s).heat.cooling = true ∧ (updated r s).lamp.state ≠ .preheat ∧ (updated r s).lamp.state ≠ .lit := by
  obtain ⟨⟨thermal, -, -, -, -, state⟩, -⟩ := updated_decided hd r
  obtain ⟨l0, c0, e, -⟩ := estimated_frame r s
  have waiting : (estimated r s).lamp.darkWaiting = false := by rw [e]; exact hd
  obtain ⟨stands, cooling, preheat, lit⟩ := evalLatch_trips waiting ht
  have latchDark : (evalLatch (estimated r s)).lamp.darkWaiting = false := by
    obtain ⟨l, c, latched, -⟩ := evalLatch_thermal waiting
    exact latched.dark.trans waiting
  have counted : (updated r s).heat = (decisions (evalLatch (estimated r s))).heat := by
    obtain ⟨-, heat⟩ := settleThermal_lampHeat (thermalKey s) (updateDecisions false (evalLatch (estimated r s)))
    rw [updated, trip_startsCooldown ha hl ht]
    exact heat
  refine ⟨(thermal.hasFault_eq _).trans stands, ?_, state ▸ preheat, state ▸ lit⟩
  rw [counted]
  exact (decisions_decided latchDark).2 cooling

end Trip

/-! ### The count of the cooldown (R78) -/

theorem advanceCooldown_counts (hc : s.heat.cooling = true) :
    (advanceCooldown s).heat.elapsed = min 7200 (s.heat.elapsed + 1)
      ∧ (advanceCooldown s).heat.cooling = !(decide (4 * s.items.cooldownMin ≤ min 7200 (s.heat.elapsed + 1))
        && (decide (s.heat.estimate ≤ s.heat.ambient + s.items.coolMargin)
          || decide (4 * s.items.cooldownLimit ≤ min 7200 (s.heat.elapsed + 1)))) := by
  have completes : cooldownCompletes { s with heat.elapsed := min 7200 (s.heat.elapsed + 1) }
      = (decide (4 * s.items.cooldownMin ≤ min 7200 (s.heat.elapsed + 1))
        && (decide (s.heat.estimate ≤ s.heat.ambient + s.items.coolMargin)
          || decide (4 * s.items.cooldownLimit ≤ min 7200 (s.heat.elapsed + 1)))) := by
    simp only [cooldownCompletes, elapsedReaches, withinMargin, hc, Bool.true_and]
  unfold advanceCooldown
  rw [if_pos hc]
  dsimp only
  rw [completes]
  split
  · next h => exact ⟨rfl, by rw [h]; rfl⟩
  · next h => exact ⟨rfl, by rw [Bool.eq_false_iff.mpr h]; exact hc⟩

/-- With the lamp dark and the gate below the trip an update counts the cooldown and moves it by nothing else. -/
theorem updated_counts (hc : s.heat.cooling = true) (hs : s.lamp.state = .off) (hz : s.lamp.drive = 0)
    (hd : s.lamp.darkWaiting = false) (hl : s.heat.latch = false) (ht : (estimated r s).heat.estimate < 21760) :
    (updated r s).heat.elapsed = min 7200 (s.heat.elapsed + 1)
      ∧ (updated r s).heat.cooling = !(decide (4 * s.items.cooldownMin ≤ (updated r s).heat.elapsed)
        && (decide ((updated r s).heat.estimate ≤ (updated r s).heat.ambient + s.items.coolMargin)
          || decide (4 * s.items.cooldownLimit ≤ (updated r s).heat.elapsed))) := by
  obtain ⟨l, c, e, -⟩ := estimated_frame r s
  obtain ⟨estimate, ambient, -⟩ := updated_model hd r
  have untripped : tripsNow (estimated r s) = false := by simp [tripsNow, Nat.not_le.mpr ht]
  have unlatched : untripsNow (estimated r s) = false := by
    rw [untripsNow, e]
    simp [hl]
  have latched : evalLatch (estimated r s) = estimated r s := by simp [evalLatch, untripped, unlatched]
  have waiting : (evalFloor (estimated r s)).lamp.darkWaiting = false := by rw [e]; exact hd
  have decided : decisions (estimated r s) = evalPermission { ceiled (evalFloor (estimated r s)) with lamp.openCount := 0 } := by
    rw [decisions, handCeiling_eq waiting, evalCeiling_eq, recomputeD_stays]
    · rw [e]; exact hz
    · rw [e]; simp [driveOf, evalFloor, evalFan, ceiled, hs]
  have counts := advanceCooldown_counts (s := decisions (estimated r s)) (by rw [decided, e]; exact hc)
  have heat : (updated r s).heat = (advanceCooldown (decisions (estimated r s))).heat := by
    obtain ⟨-, heat⟩ := settleThermal_lampHeat (thermalKey s) (updateDecisions true (estimated r s))
    rw [updated, tripStartsCooldown, untripped, latched]
    exact heat
  have before : (decisions (estimated r s)).heat.elapsed = s.heat.elapsed
      ∧ (decisions (estimated r s)).items = s.items
      ∧ (decisions (estimated r s)).heat.estimate = (estimated r s).heat.estimate
      ∧ (decisions (estimated r s)).heat.ambient = (goodReading r).getD s.heat.ambient := by
    rw [decided, e]
    exact ⟨rfl, rfl, rfl, rfl⟩
  obtain ⟨elapsed, items, estimate', ambient'⟩ := before
  rw [elapsed, items, estimate', ambient', ← heat, ← estimate, ← ambient] at counts
  obtain ⟨count, cooling⟩ := counts
  exact ⟨count, by rw [cooling, count]⟩

end Sys2Proof.Machine

namespace Sys2Proof.Proofs

open Sys2Proof.Machine

/-- Settles O30: an update outside SLEEP takes the reading and H (`estimated_estimate`), moves the latch and decides by the
new H (`updated_model`, `updated_decisions`); a trip is `updated_trips`, the count of the cooldown `updated_counts`. -/
theorem heatUpdateAndCooldown : Obligations.HeatUpdateAndCooldown := by
  refine ⟨fun r s hp hd ha hl => ⟨fun hs => next_congr (if_pos hs), fun hs a k hNew ea ek eh => ?_⟩,
    fun r s hs hp hc ho hz hd hl => ?_⟩
  · have taken : (goodReading r).getD s.heat.ambient = a := (goodReading_getD r _).trans ea.symm
    have loss : kout s = k := (kout_eq s).trans ek.symm
    have new : (estimated r s).heat.estimate = hNew := by
      rw [estimated_estimate r s taken, eh, loss, heatFormula, clampTo_zero]
    obtain ⟨estimate, ambient, wakeDue, timer, latch, power, sensor, faults, show_, rest, slots⟩ := updated_model hd r
    obtain ⟨ceiling, zone, allowed, drive⟩ := updated_decisions hd r
    have tco := faults .tcoOpen (by decide) (by decide)
    have stall := faults .fanStall (by decide) (by decide)
    have unlatched : (estimated r s).heat.latch = s.heat.latch := by
      obtain ⟨l, c, e, -⟩ := estimated_frame r s
      rw [e]
    rw [new] at estimate
    rw [nextLatch_eq, new, unlatched] at latch
    rw [estimate] at zone
    have blocked (hot : hasFault .overtemp (updated r s) = true ∨ hasFault .tcoOpen s = true ∨ 21760 ≤ hNew) :
        (updated r s).heat.ceiling = 0 := ceiling.trans (ceilingOf_blocked (by rwa [tco, estimate]))
    refine ⟨updated r s, next_congr (heatUpdated_updated hp hd r hs), estimate, ambient.trans taken, wakeDue, timer,
      sensor.trans (goodReading_isNone r), latch, fun cold hot => ?_, fun h => ?_, fun h h' => ?_, fun h => ?_, ?_, blocked,
      fun cool closed => ?_, ?_, power, show_, rest, slots⟩
    · have trips : tripsNow (estimated r s) = true := by simp [tripsNow, unlatched, cold, new, hot]
      obtain ⟨overtemp, cooling, preheat, lit⟩ := updated_trips ha hl hd trips
      have none := blocked (.inr (.inr hot))
      exact ⟨overtemp, Nat.le_zero.mp (none ▸ drive ▸ driveOf_le _ _), none, preheat, lit, cooling⟩
    · simp [zone, zoneOf, h]
    · simp [zone, zoneOf, Nat.not_lt.mpr h, h']
    · simp [zone, zoneOf, Nat.not_lt.mpr h, show ¬ hNew < 19200 by omega]
    · rw [allowed, strikeAllowed, estimate, tco]
    · have limit (h : hNew < 21760) := heatCeiling_ge hNew h
      rw [ceiling, ceilingOf, estimate, cool, tco, closed, stall]
      refine ⟨fun h => ?_, fun h h' => ?_⟩
      · have full : heatCeiling hNew false = 1000 := by
          simp [heatCeiling, show ¬ 21760 ≤ hNew by omega, show ¬ 19200 ≤ hNew by omega]
        simp [full]
      · have derate : heatCeiling hNew false = 1000 - (hNew - 19200) * 600 / 2560 := by
          simp [heatCeiling, Nat.not_le.mpr h', h]
        have floor : 400 ≤ 1000 - (hNew - 19200) * 600 / 2560 := derate ▸ limit h'
        simp [derate, floor]
    · rw [drive, driveOf_eq]
  · obtain ⟨estimate, -, -, -, -, -, -, -, show_, -⟩ := updated_model hd r
    exact ⟨updated r s, next_congr (heatUpdated_updated hp hd r hs), show_,
      fun cold => updated_counts hc ho hz hd hl (estimate ▸ cold)⟩

end Sys2Proof.Proofs
end

section
/-! ## POWER MODE from STANDBY, and a request's wake (R82, R85) -/

namespace Sys2Proof.Machine

variable {l : Link} {s u w : State}

/-! ### What ACTIVE and SLEEP are entered with -/

theorem Reports.powerNotice (h : Reports l w u) (c : Reason) (src : Option WakeSource) (t : Option Byte) (o : Option Reason) :
    Reports l w (powerNotice c src t o u) := h.give _

/-- ACTIVE entered with no move waiting (R82). -/
theorem activate_reports (c : Reason) (hq : s.changer.queue = []) :
    Reports s.link (evalFan { s with heat.power := .active, heat.sleepPending := .clear }) (activate c s) := by
  have noticed (t : Option Byte) :
      Reports s.link (evalFan { s with heat.power := .active, heat.sleepPending := .clear })
        (powerNoticeEnding c .cancelled t (evalFan { s with heat.power := .active, heat.sleepPending := .clear })) :=
    (Reports.refl (evalFan { s with heat.power := .active, heat.sleepPending := .clear })).powerNotice _ _ _ _
  have waits : activate c s = powerNoticeEnding c .cancelled (sleepTag s.heat.sleepPending)
      (evalFan { s with heat.power := .active, heat.sleepPending := .clear }) := startReady_empty hq
  rw [waits]
  exact noticed _

theorem loseRelayQueue_reports (r : Reason) (s : State) :
    Reports s.link { s with decoder.relayQueue := [] } (loseRelayQueue r s) := by
  have lost (fs : List RelayFrame) {u : State} (h : Reports s.link { s with decoder.relayQueue := [] } u) :
      Reports s.link { s with decoder.relayQueue := [] } (relayLost r fs u) := by
    induction fs generalizing u with
    | nil => exact h
    | cons f fs ih => exact ih (h.offer _)
  exact lost _ (Reports.refl { s with decoder.relayQueue := [] })

/-- The Remote Receiver at the entry to SLEEP (R84). -/
def asleepRemote (r : RemoteRx) : RemoteRx :=
  { r with entry := none, irKey := useUp r.irKey, wiredKey := useUp r.wiredKey, focus := .idle }

theorem sleepRemote_reports (s : State) : Reports s.link { s with remote := asleepRemote s.remote } (sleepRemote s) := by
  have quiet := Reports.refl { s with remote := asleepRemote s.remote }
  unfold sleepRemote sleepFocus
  dsimp only
  split
  · exact quiet.give _
  · exact quiet

/-- The state in SLEEP, but for reports (R84). -/
def asleep (s : State) : State :=
  { evalFan { s with heat.power := .sleep, heat.sleepPending := .clear, heat.updateTimer := none, decoder.relayIn := .idle } with
    decoder := { s.decoder with relayIn := .idle, relayQueue := [] }
    remote := asleepRemote s.remote }

theorem enterSleep_reports (tag : Option Byte) (s : State) : Reports s.link (asleep s) (enterSleep tag s) := by
  have lost := loseRelayQueue_reports .power (evalFan { s with
    heat.power := .sleep, heat.sleepPending := .clear, heat.updateTimer := none, decoder.relayIn := .idle })
  have remote : Reports s.link (asleep s) (sleepRemote (loseRelayQueue .power (evalFan { s with
      heat.power := .sleep, heat.sleepPending := .clear, heat.updateTimer := none, decoder.relayIn := .idle }))) := by
    obtain ⟨m, t, e, hm⟩ := lost
    rw [e]
    obtain ⟨m', t', e', hm'⟩ := sleepRemote_reports { evalFan { s with
      heat.power := .sleep, heat.sleepPending := .clear, heat.updateTimer := none, decoder.relayIn := .idle } with
        link := m, trace := t, decoder := { s.decoder with relayIn := .idle, relayQueue := [] } }
    exact ⟨m', t', e', hm.trans hm'⟩
  exact remote.powerNotice _ _ _ _

/-! ### POWER MODE as a request -/

theorem powerModeBody_of_arg {mode : Byte} {p : PowerState} (h : powerArg mode.toNat = some p) (t : Byte) (s : State) :
    powerModeBody mode t s = powerModeTo p t s := by
  unfold powerModeBody
  rw [h]

theorem powerModeTo_active (t : Byte) (hp : s.heat.power = .standby) :
    powerModeTo .active t s = (.done [], activate .request s) := by
  unfold powerModeTo
  rw [hp]

section Arms

variable (t : Byte) (hp : s.heat.power = .standby) (hc : s.heat.sleepPending = .clear)
include hp hc

theorem powerModeTo_standby : powerModeTo .standby t s = (.done [], s) := by
  unfold powerModeTo
  rw [hp, hc]
  exact congrArg (Prod.mk _) (by rw [← hc])

theorem powerModeTo_sleep (hr : sleepConditions s = true) : powerModeTo .sleep t s = (.done [], enterSleep none s) := by
  unfold powerModeTo
  rw [hp]
  simp [askSleep, hr, supersedeSleep, hc]

theorem powerModeTo_waits (hr : sleepConditions s = false) :
    powerModeTo .sleep t s = (.accepted [], { s with heat.sleepPending := .set (some t) }) := by
  unfold powerModeTo
  rw [hp]
  simp [askSleep, hr, hc]

end Arms

section PowerMode

variable {h : Hdr} (hs : servable s) (hl : h.len = 1)
include hs hl

theorem powerMode_refused {mode : Byte} (hm : 2 < mode.toNat) :
    exec (.powerMode h mode) s = .next (replied 0x88 h.tag [2, 3] s) := by
  have unknown : powerArg mode.toNat = none := by
    unfold powerArg
    split
    case h_4 => rfl
    all_goals omega
  exact next_congr (request_unchanged 0x08 1 h _ (.refused .badArg) s hs (by simp [hl]) (by simp [powerModeBody, unknown]))

theorem powerMode_active (hp : s.heat.power = .standby) (hq : s.changer.queue = []) :
    ∃ t, exec (.powerMode h 0) s = .next t ∧ t.heat.power = .active ∧ t.heat.sleepPending = .clear
      ∧ lastReply 0x88 h.tag [0] t ∧ sameSlides s t ∧ sameShow s t ∧ sameRest s t ∧ sameFaults s t := by
  have body : powerModeBody 0 h.tag (takePlace 0x88 h.tag s) = (.done [], activate .request (takePlace 0x88 h.tag s)) :=
    (powerModeBody_of_arg rfl _ _).trans (powerModeTo_active _ hp)
  obtain ⟨l, t, e, reply, faults⟩ := request_reports (k := 0x08) (n := 1) hs (by simp [hl]) body (activate_reports .request hq)
  exact ⟨_, next_congr e, rfl, rfl, reply, ⟨rfl, rfl, rfl⟩, ⟨rfl, rfl, rfl, rfl⟩, ⟨rfl, rfl, rfl, rfl, rfl⟩, faults⟩

section Standby

variable (hp : s.heat.power = .standby) (hc : s.heat.sleepPending = .clear)
include hp hc

/-- STANDBY asked for in STANDBY with no sleep pending changes nothing. -/
theorem powerMode_standby : exec (.powerMode h 1) s = .next (replied 0x88 h.tag [0] s) := by
  exact next_congr (request_unchanged 0x08 1 h _ (.done []) s hs (by simp [hl])
    ((powerModeBody_of_arg rfl _ _).trans (powerModeTo_standby _ hp hc)))

theorem powerMode_sleep (hr : sleepConditions s = true) :
    ∃ t, exec (.powerMode h 2) s = .next t ∧ t.heat.power = .sleep ∧ t.heat.fan = .off ∧ t.heat.updateTimer = none
      ∧ t.decoder.relayQueue = [] ∧ t.remote.entry = none ∧ t.remote.focus = .idle ∧ lastReply 0x88 h.tag [0] t
      ∧ sameSlides s t ∧ t.items = s.items := by
  have body : powerModeBody 2 h.tag (takePlace 0x88 h.tag s) = (.done [], enterSleep none (takePlace 0x88 h.tag s)) :=
    (powerModeBody_of_arg rfl _ _).trans (powerModeTo_sleep _ hp hc hr)
  obtain ⟨l, t, e, reply, -⟩ := request_reports (k := 0x08) (n := 1) hs (by simp [hl]) body (enterSleep_reports none _)
  exact ⟨_, next_congr e, rfl, rfl, rfl, rfl, rfl, rfl, reply, ⟨rfl, rfl, rfl⟩, rfl⟩

/-- A sleep whose conditions do not hold waits (R82). -/
theorem powerMode_waits (hr : sleepConditions s = false) : exec (.powerMode h 2) s =
    .next { replied 0x88 h.tag [1] s with heat.sleepPending := .set (some h.tag) } := by
  have body : powerModeBody 2 h.tag (takePlace 0x88 h.tag s)
      = (.accepted [], { takePlace 0x88 h.tag s with heat.sleepPending := .set (some h.tag) }) :=
    (powerModeBody_of_arg rfl _ _).trans (powerModeTo_waits _ hp hc hr)
  exact next_congr (request_writes s 0x08 1 h _ (.accepted []) (fun u => { u with heat.sleepPending := .set (some h.tag) }) hs
    (by simp [hl]) (fun _ _ => rfl) (fun _ => rfl) body)

end Standby

end PowerMode

/-! ### The wake by a request (R85) -/

/-- A part in SLEEP, woken, but for the POWER notice. -/
def awoken (s : State) : State :=
  evalFan { s with heat.power := .standby, heat.wakeDue := true, heat.updateTimer := some 0 }

theorem wake_asleep (src : WakeSource) (h : s.heat.power = .sleep) :
    wake src s = powerNotice .wake (some src) none none (awoken s) := if_pos h

/-- IDENTIFY in SLEEP wakes the part, and is served in STANDBY. -/
theorem identify_wakes {h : Hdr} (hr : awaiting s.link < 4) (hp : s.heat.power = .sleep) (hl : h.len = 0) :
    ∃ t, exec (.identify h) s = .next t
      ∧ lastReply 0x81 h.tag [0, 0x4F, 0x5A, 0x2D, 0x34, 0x31, 0x38, Config.siliconRevision, 1] t
      ∧ t.link.flags.getLsbD 13 = true
      ∧ t.heat = { s.heat with
          power := .standby, wakeDue := true, updateTimer := some 0, fan := t.heat.fan, stallTimer := t.heat.stallTimer }
      ∧ sameSlides s t ∧ sameShow s t ∧ sameRest s t ∧ sameFaults s t := by
  let woken := powerNotice .wake (some .frame) none none (awoken (takePlace 0x81 h.tag s))
  obtain ⟨m, c, e, hm⟩ : Reports (takePlace 0x81 h.tag s).link (awoken (takePlace 0x81 h.tag s)) woken :=
    (Reports.refl (awoken (takePlace 0x81 h.tag s))).powerNotice ..
  have flag : woken.link.flags.getLsbD 13 = true := by
    have flags : woken.link.flags = _ := give_flags (b := 13) rfl (awoken (takePlace 0x81 h.tag s))
    simp [flags]
  have place : m.replies.getLast? = some { kind := 0x81, tag := h.tag, payload := [], ready := false } :=
    hm.newest _ (by simp [takePlace]) rfl
  have filled : fillReply (answerPayload (.done identity)) woken = { awoken (takePlace 0x81 h.tag s) with
      link := { m with replies := m.replies.dropLast ++
        [{ kind := 0x81, tag := h.tag, payload := answerPayload (.done identity), ready := false }] }
      trace := c } := by
    rw [e]
    simp [fillReply, place]
  have served : exec (.identify h) s = .next (settleThermal (thermalKey s) (fillReply (answerPayload (.done identity)) woken)) := by
    have room : ¬ 4 ≤ awaiting s.link := Nat.not_le.mpr hr
    have wakes : wake .frame (takePlace 0x81 h.tag s) = woken := wake_asleep .frame hp
    refine next_congr ?_
    change request 0x01 0 h (fun u => (.done identity, u)) s = _
    simp only [request, room, if_false, withThermal, serve, Machine.served, hl]
    rw [show ((0x01 : Byte) + 0x80) = 0x81 from rfl, wakes]
    rfl
  obtain ⟨m', c', e', hm'⟩ := (Reports.refl (fillReply (answerPayload (.done identity)) woken)).settleThermal (thermalKey s)
  refine ⟨_, served, ?_⟩
  rw [e']
  rw [filled] at hm' ⊢
  refine ⟨hm'.newest _ (by simp [answerPayload, identity]) rfl, hm'.flags 13 (by rw [e] at flag; exact flag), rfl,
    ⟨rfl, rfl, rfl⟩, ⟨rfl, rfl, rfl, rfl⟩, ⟨rfl, rfl, rfl, rfl, rfl⟩, hm'.faults.trans hm.faults, hm'.mask.trans hm.mask,
    hm'.clock.trans hm.clock⟩

end Sys2Proof.Machine

namespace Sys2Proof.Proofs

open Sys2Proof.Machine

/-- Settles O15: with no move waiting and no sleep pending each POWER MODE is its one entry with its reports
(`activate_reports`, `enterSleep_reports`), and a request in SLEEP is served on the woken part (`identify_wakes`). -/
theorem powerModeAndWake : Obligations.PowerModeAndWake :=
  ⟨fun _ _ hs hl hp hc hq => ⟨powerMode_active hs hl hp hq, powerMode_sleep hs hl hp hc, powerMode_waits hs hl hp hc,
    powerMode_standby hs hl hp hc, fun _ => powerMode_refused hs hl⟩, fun _ _ => identify_wakes⟩

end Sys2Proof.Proofs
end

section
/-! ## What a cycle's end and a change of dark leave, in STANDBY -/

namespace Sys2Proof.Machine

variable {l : Link} {s t u w : State}

/-- In STANDBY, with no sleep pending: no move starts, no sleep is entered. -/
def AtStandby (s : State) : Prop := s.heat.power = .standby ∧ s.heat.sleepPending = .clear

/-- `u` is `s` but for link, trace, tray, Changer, Cue Log and a waiting dark request; the newest reply, not yet ready, the log's
entries and an empty queue stand. -/
structure CycleOnly (s u : State) : Prop where
  frame : ∃ l c y g q w, u = { s with link := l, trace := c, tray := y, changer := g, cueLog := q, lamp.darkWaiting := w }
  newest : ∀ r, s.link.replies.getLast? = some r → r.ready = false → u.link.replies.getLast? = some r
  entries : u.cueLog.entries = s.cueLog.entries
  queue : s.changer.queue = [] → u.changer.queue = []

namespace CycleOnly

theorem refl (s : State) : CycleOnly s s := ⟨⟨_, _, _, _, _, _, rfl⟩, fun _ h _ => h, rfl, id⟩

theorem trans (h : CycleOnly s t) (g : CycleOnly t u) : CycleOnly s u := by
  obtain ⟨⟨_, _, _, _, _, _, e⟩, newest, entries, queue⟩ := h
  obtain ⟨⟨_, _, _, _, _, _, e'⟩, newest', entries', queue'⟩ := g
  exact ⟨⟨_, _, _, _, _, _, by rw [e', e]⟩, fun r hr hn => newest' r (newest r hr hn) hn, entries'.trans entries,
    queue' ∘ queue⟩

/-- A step of the Changer that leaves its queue. -/
theorem moves (s : State) (y : Tray) {g : Changer} (h : g.queue = s.changer.queue) :
    CycleOnly s { s with tray := y, changer := g } := ⟨⟨_, _, _, _, _, _, rfl⟩, fun _ h _ => h, rfl, h.trans⟩

theorem heat_eq (h : CycleOnly s u) : u.heat = s.heat := by
  obtain ⟨_, _, _, _, _, _, e⟩ := h.frame
  rw [e]

theorem atStandby (h : CycleOnly s u) (hs : AtStandby s) : AtStandby u := by
  rw [AtStandby, h.heat_eq]
  exact hs

end CycleOnly

theorem cycleOnly_of_reports (h : Reports s.link s u) : CycleOnly s u := by
  obtain ⟨m, c, rfl, hm⟩ := h
  exact ⟨⟨_, _, _, _, _, _, rfl⟩, hm.newest, rfl, id⟩

theorem giveAll_reports (ns : List Notice) (s : State) : Reports s.link s (giveAll ns s) := by
  induction ns generalizing s with
  | nil => exact .refl s
  | cons n ns ih => exact (give_reports n s).trans (ih _)

/-- The end of a loop reaches flags and phase of the Cue Log, with its notice (R142). -/
theorem endLoop_reports (r : Reason) (d : Option Reason) (s : State) : ∃ q, Reports s.link { s with cueLog := q } (endLoop r d s)
    ∧ q.entries = s.cueLog.entries ∧ q.seekCue = s.cueLog.seekCue := by
  unfold endLoop
  split
  · exact ⟨_, .give (.refl { s with cueLog := _ }) _, rfl, rfl⟩
  · exact ⟨s.cueLog, .refl s, rfl, rfl⟩

theorem endLoop_cycleOnly (r : Reason) (d : Option Reason) (s : State) : CycleOnly s (endLoop r d s) := by
  obtain ⟨q, ⟨m, c, e, hm⟩, entries, -⟩ := endLoop_reports r d s
  rw [e]
  exact ⟨⟨_, _, _, _, _, _, rfl⟩, hm.newest, entries, id⟩

theorem chaseFailed_cycleOnly (o : Option ChaseOwner) (d : Reason) (s : State) : CycleOnly s (chaseFailed o d s) := by
  unfold chaseFailed
  split
  · split
    · exact ⟨⟨_, _, _, _, _, _, rfl⟩, fun _ h _ => h, rfl, id⟩
    · exact .refl s
  · split
    · exact endLoop_cycleOnly _ _ s
    · exact .refl s
  · exact .refl s

theorem failEntries_cycleOnly (r : Reason) (es : List MoveEntry) (s : State) : CycleOnly s (failEntries r es s) := by
  induction es generalizing s with
  | nil => exact .refl s
  | cons e es ih =>
    exact ((cycleOnly_of_reports (giveAll_reports _ s)).trans (chaseFailed_cycleOnly _ _ _)).trans (ih _)

/-- A cleared queue answers its entries and is empty (R44). -/
theorem clearQueue_cycleOnly (r : Reason) (s : State) : CycleOnly s (clearQueue r s) ∧ (clearQueue r s).changer.queue = [] := by
  have failed := failEntries_cycleOnly r s.changer.queue { s with changer.queue := [] }
  exact ⟨⟨failed.frame, failed.newest, failed.entries, fun _ => failed.queue rfl⟩, failed.queue rfl⟩

theorem reportFailure_cycleOnly (r : Reason) (k : Nat) (s : State) : CycleOnly s (reportFailure r k s) := by
  unfold reportFailure
  split
  · exact (cycleOnly_of_reports ((giveAll_reports _ s).offer _)).trans (chaseFailed_cycleOnly _ _ _)
  · exact .refl s

theorem toIdle_cycleOnly (s : State) : CycleOnly s (toIdle s) := .moves s _ rfl

theorem failMove_cycleOnly (r : Reason) (hs : AtStandby s) : CycleOnly s (failMove r s) := by
  have ended := (reportFailure_cycleOnly r 0 s).trans (toIdle_cycleOnly _)
  rw [failMove, sleepTest_clear (ended.atStandby hs).2]
  exact ended

/-! ### The stages -/

theorem setTarget_cycleOnly (p : Option Nat) (s : State) : CycleOnly s (setTarget p s) := .moves s s.tray rfl

theorem toDrop_cycleOnly (s : State) : CycleOnly s (toDrop s) := by
  unfold toDrop
  dsimp only
  split
  · exact .moves s _ rfl
  · exact .moves s _ rfl

theorem toPaused_cycleOnly (s : State) : CycleOnly s (toPaused s) := .moves s s.tray rfl

theorem driveMotor_cycleOnly (d : Turn) (s : State) : CycleOnly s (driveMotor d s) := .moves s s.tray rfl

theorem rotateTo_cycleOnly (p g : Nat) (s : State) : CycleOnly s (rotateTo p g s) := by
  unfold rotateTo
  split
  · exact toDrop_cycleOnly s
  · split
    · exact toPaused_cycleOnly s
    · exact driveMotor_cycleOnly _ s

theorem reportShort_cycleOnly (n : Int) (e : WalkEnd) (s : State) : CycleOnly s (reportShort n e s) := by
  unfold reportShort
  split
  · exact cycleOnly_of_reports ((Reports.refl s).report _ _)
  · exact .refl s

theorem searchFound_cycleOnly (hs : AtStandby s) : CycleOnly s (searchFound s) := by
  have found : CycleOnly s { s with tray.position := some 0, tray.search := none } := .moves s _ rfl
  unfold searchFound
  dsimp only
  split
  · exact found
  · split
    · exact found.trans (rotateTo_cycleOnly _ _ _)
    · exact found.trans ((setTarget_cycleOnly _ _).trans (rotateTo_cycleOnly _ _ _))
    · split
      · exact found.trans (failMove_cycleOnly _ (found.atStandby hs))
      · exact found.trans ((reportShort_cycleOnly _ _ _).trans ((setTarget_cycleOnly _ _).trans (rotateTo_cycleOnly _ _ _)))

theorem toRotate_cycleOnly (hs : AtStandby s) : CycleOnly s (toRotate s) := by
  unfold toRotate
  split
  · exact .refl s
  · split
    · exact toDrop_cycleOnly s
    · split
      · exact rotateTo_cycleOnly _ _ s
      · exact rotateTo_cycleOnly _ _ s
      · split
        · exact toPaused_cycleOnly s
        · split
          · exact searchFound_cycleOnly hs
          · exact .moves s _ rfl

theorem toLift_cycleOnly (hs : AtStandby s) : CycleOnly s (toLift s) := by
  unfold toLift
  split
  · exact toRotate_cycleOnly hs
  · exact .moves s s.tray rfl

/-- Outside ACTIVE no waiting move starts (R20). -/
theorem startReady_standby (hs : AtStandby s) : startReady s = s := by simp [startReady, mayStart, hs.1]

theorem darkReached_cycleOnly (hs : AtStandby s) : CycleOnly s (darkReached s) := by
  have held (c : Claim) : CycleOnly s { s with lamp.darkWaiting := false, changer.claim := c } :=
    ⟨⟨_, _, _, _, _, _, rfl⟩, fun _ h _ => h, rfl, id⟩
  unfold darkReached
  dsimp only
  split
  · split
    · have lifted (c : Claim) := (held c).trans (toLift_cycleOnly ((held c).atStandby hs))
      rw [startReady_standby ((lifted _).atStandby hs)]
      exact lifted _
    · exact held _
  · exact held _

theorem withDarkTest_cycleOnly {f : State → State} (hs : AtStandby (f s)) : CycleOnly (f s) (withDarkTest f s) := by
  unfold withDarkTest darkTest
  split
  · exact .refl _
  · split
    · exact darkReached_cycleOnly hs
    · exact .refl _

theorem abortPaused_cycleOnly (hs : AtStandby s) : CycleOnly s (abortPaused s) := by
  have resumed (f : Cycle → Cycle) : CycleOnly s (redirect f { s with changer.pause := .clear }) := .moves s s.tray rfl
  unfold abortPaused
  split
  · exact (resumed _).trans (toDrop_cycleOnly _)
  · exact (resumed _).trans (toRotate_cycleOnly ((resumed _).atStandby hs))

/-- STANDBY empties the move queue and ends a paused cycle (R44, R100). -/
theorem changerStandby_cycleOnly (hs : AtStandby s) :
    CycleOnly s (changerStandby s) ∧ (changerStandby s).changer.queue = [] := by
  obtain ⟨cleared, empty⟩ := clearQueue_cycleOnly .notActive s
  unfold changerStandby
  dsimp only
  split
  · have aborted := abortPaused_cycleOnly (cleared.atStandby hs)
    exact ⟨cleared.trans aborted, aborted.queue empty⟩
  · exact ⟨cleared, empty⟩

end Sys2Proof.Machine
end

section
/-! ## STANDBY stops the show (R44, R57, R100, R103, R151, R153) -/

namespace Sys2Proof.Machine

variable {l : Link} {s t u w : State}

/-! ### Cleared faults and the newest reply -/

theorem actOnTrigger_reports (b : Bool) (s : State) : Reports s.link s (actOnTrigger b s) := by
  unfold actOnTrigger freezeTrace
  split
  · split
    · exact ⟨_, _, rfl, giveLink_reported _ _⟩
    · exact ⟨_, _, rfl, .refl _⟩
  · exact ⟨_, _, rfl, .refl _⟩
  · exact ⟨_, _, rfl, .refl _⟩
  · exact ⟨_, _, rfl, .refl _⟩
  · exact .refl s

theorem recordFault_reports (b : TraceBody) (before : Bool) (s : State) : Reports s.link s (recordFault b before s) := by
  unfold recordFault
  dsimp only
  split
  · exact offer_reports b s
  · split
    · exact (actOnTrigger_reports _ s).offer b
    · exact (offer_reports b s).trans (actOnTrigger_reports _ _)

/-- The newest reply, not yet ready, stays behind a cleared fault. -/
theorem clearFault_newest (f : FaultKind) (s : State) {r : ReplyEntry} (hr : s.link.replies.getLast? = some r)
    (hn : r.ready = false) : (clearFault f s).link.replies.getLast? = some r := by
  unfold clearFault
  split
  · have given := give_reports (.fault f false none) { s with link.faults := s.link.faults &&& ~~~(faultMask f) }
    obtain ⟨m, c, e, hm⟩ := given.trans (recordFault_reports (.faultCleared f none) (triggerHolds s) _)
    rw [e]
    exact hm.newest r hr hn
  · exact hr

/-! ### The tape -/

/-- `u` is `s` but for link, trace, decoder, Transport, the loop's flags and an absent hold; the newest reply, not yet ready,
stands. -/
structure TapeOnly (s u : State) : Prop where
  frame : ∃ l c d k q p,
    u = { s with link := l, trace := c, decoder := d, transport := k, cueLog := q, program.hold := p }
  newest : ∀ r, s.link.replies.getLast? = some r → r.ready = false → u.link.replies.getLast? = some r
  log : u.cueLog.entries = s.cueLog.entries ∧ u.cueLog.seekCue = s.cueLog.seekCue
  hold : s.program.hold = none → u.program.hold = none

namespace TapeOnly

theorem refl (s : State) : TapeOnly s s := ⟨⟨_, _, _, _, _, _, rfl⟩, fun _ h _ => h, ⟨rfl, rfl⟩, id⟩

theorem trans (h : TapeOnly s t) (g : TapeOnly t u) : TapeOnly s u := by
  obtain ⟨⟨_, _, _, _, _, _, e⟩, newest, log, hold⟩ := h
  obtain ⟨⟨_, _, _, _, _, _, e'⟩, newest', log', hold'⟩ := g
  exact ⟨⟨_, _, _, _, _, _, by rw [e', e]⟩, fun r hr hn => newest' r (newest r hr hn) hn,
    ⟨log'.1.trans log.1, log'.2.trans log.2⟩, hold' ∘ hold⟩

/-- A step of the Transport. -/
theorem moves (s : State) (k : Transport) : TapeOnly s { s with transport := k } :=
  ⟨⟨_, _, _, _, _, _, rfl⟩, fun _ h _ => h, ⟨rfl, rfl⟩, id⟩

theorem heat_eq (h : TapeOnly s u) : u.heat = s.heat := by
  obtain ⟨_, _, _, _, _, _, e⟩ := h.frame
  rw [e]

end TapeOnly

/-- Reports are of the tape's side, and leave the Transport. -/
theorem tapeOnly_of_reports (h : Reports s.link s u) : TapeOnly s u ∧ u.transport = s.transport := by
  obtain ⟨m, c, rfl, hm⟩ := h
  exact ⟨⟨⟨_, _, _, _, _, _, rfl⟩, hm.newest, ⟨rfl, rfl⟩, id⟩, rfl⟩

/-- A tape left behind: PLAYING mutes the audio and quiets the decoder (R104, R109). -/
theorem leaveTape_tapeOnly (s : State) : TapeOnly s (leaveTape s) ∧ (leaveTape s).transport = { s.transport with
    gain := if s.transport.state = .playing then 0 else s.transport.gain
    endFade := if s.transport.state = .playing then .idle else s.transport.endFade } := by
  unfold leaveTape
  split
  · next hs =>
    unfold exitPlaying
    obtain ⟨m, c, e⟩ := clearFault_frame .stuckTone { s with
      transport.gain := 0, transport.endFade := .idle, decoder.recogniser := .quiet, decoder.burstLen := 0
      decoder.gapCount := 0, decoder.snap := false }
    have newest : ∀ r, s.link.replies.getLast? = some r → r.ready = false → _ := fun r =>
      clearFault_newest .stuckTone { s with
        transport.gain := 0, transport.endFade := .idle, decoder.recogniser := .quiet, decoder.burstLen := 0
        decoder.gapCount := 0, decoder.snap := false }
    rw [e] at newest ⊢
    exact ⟨⟨⟨_, _, _, _, _, _, rfl⟩, newest, ⟨rfl, rfl⟩, id⟩, by simp [hs]⟩
  · next hs =>
    have still : s.transport.state ≠ .playing := by simp [hs]
    refine ⟨⟨⟨_, _, _, _, _, _, rfl⟩, fun _ h _ => h, ⟨rfl, rfl⟩, fun h => by simp [unmarkTapeHeld, h]⟩, ?_⟩
    rw [if_neg still, if_neg still]
    rfl
  · next still _ =>
    refine ⟨.refl s, ?_⟩
    rw [if_neg still, if_neg still]

theorem brakeTo_tapeOnly (d : PendingDest) (s : State) : TapeOnly s (brakeTo d s) ∧ (brakeTo d s).transport = { s.transport with
    state := .stopping, dest := some d, dir := brakeDir s.transport.state, brakeTimer := some 0, stallTimer := none
    gain := if s.transport.state = .playing then 0 else s.transport.gain
    endFade := if s.transport.state = .playing then .idle else s.transport.endFade } := by
  obtain ⟨left, transport⟩ := leaveTape_tapeOnly s
  refine ⟨left.trans (.moves _ _), ?_⟩
  unfold brakeTo
  dsimp only
  rw [transport]

/-- Behind a brake in STANDBY the end of the audio fade stops nothing and starts nothing (R140, R91). -/
theorem cutIf_braking (b : Bool) (hs : s.transport.state = .stopping) (hp : s.heat.power = .standby) :
    TapeOnly s (cutIf b s) ∧ (cutIf b s).transport = s.transport := by
  have flags (q : CueLog) (hq : q.entries = s.cueLog.entries ∧ q.seekCue = s.cueLog.seekCue) :
      TapeOnly s { s with cueLog := q } := ⟨⟨_, _, _, _, _, _, rfl⟩, fun _ h _ => h, hq, id⟩
  have stays : fadeEndStop s = s := by simp [fadeEndStop, hs]
  unfold cutIf audioFadeEnd fadeEndsWith
  rw [stays]
  dsimp only
  split
  · split
    · split
      · have refused : showMotion id .rewind { s with cueLog.phase := .rewinding }
            = (some .notActive, recordTapeRefusal .rewind .notActive { s with cueLog.phase := .rewinding }) := by
          simp [showMotion, motionRefusal, hp]
        rw [refused]
        dsimp only
        obtain ⟨recorded, transport⟩ := tapeOnly_of_reports
          ((Reports.refl { s with cueLog.phase := .rewinding }).offer (.tapeRefused s.transport.reel .rewind .notActive))
        obtain ⟨q, ⟨m, c, e, hm⟩, entries, seekCue⟩ := endLoop_reports .notActive (some .refused)
          (recordTapeRefusal .rewind .notActive { s with cueLog.phase := .rewinding })
        have refusedThen := (flags { s.cueLog with phase := .rewinding } ⟨rfl, rfl⟩).trans recorded
        rw [e]
        exact ⟨refusedThen.trans ⟨⟨_, _, _, _, _, _, rfl⟩, hm.newest, ⟨entries, seekCue⟩, id⟩, transport⟩
      · exact ⟨flags _ ⟨rfl, rfl⟩, rfl⟩
    · exact ⟨.refl s, rfl⟩
  · exact ⟨.refl s, rfl⟩

/-- STANDBY's destination. -/
def powerDest : PendingDest := { dest := .stopped, source := .power, tag := none }

/-- The Transport after STANDBY: a moving tape brakes, a braking one has STOPPED for its destination, one at rest stays (R103). -/
def standbyTape (k : Transport) : Transport :=
  match k.state with
  | .playing | .paused | .rewinding | .winding => { k with
      state := .stopping, dest := some powerDest, dir := brakeDir k.state, brakeTimer := some 0, stallTimer := none, seek := none
      gain := if k.state = .playing then 0 else k.gain
      endFade := if k.state = .playing then .idle else k.endFade }
  | .stopping => { k with dest := some powerDest, seek := none }
  | .stopped | .noTape => k

theorem reportEnds_reports (c : Reason) (e : TapeEnds) (s : State) : Reports s.link s (reportEnds c e s) := by
  unfold reportEnds reportTape
  split
  · exact .refl s
  · exact (Reports.refl s).report _ _

theorem tapeStandby_tapeOnly (hp : s.heat.power = .standby) :
    TapeOnly s (tapeStandby s) ∧ (tapeStandby s).transport = standbyTape s.transport := by
  have braked (c : Reason) (e : TapeEnds) (hs : s.transport.state ≠ .stopping) (hs' : s.transport.state ≠ .stopped)
      (hs'' : s.transport.state ≠ .noTape) :
      TapeOnly s (cutIf (fadeRuns s) (reportTape c e (brakeTo powerDest { s with transport.seek := none })))
        ∧ (cutIf (fadeRuns s) (reportTape c e (brakeTo powerDest { s with transport.seek := none }))).transport
          = standbyTape s.transport := by
    obtain ⟨brakes, transport⟩ := brakeTo_tapeOnly powerDest { s with transport.seek := none }
    obtain ⟨reports, same⟩ := tapeOnly_of_reports (u := reportTape c e (brakeTo powerDest { s with transport.seek := none }))
      ((Reports.refl _).report _ _)
    have moved := (TapeOnly.moves s { s.transport with seek := none }).trans (brakes.trans reports)
    obtain ⟨cut, still⟩ := cutIf_braking (fadeRuns s)
      (s := reportTape c e (brakeTo powerDest { s with transport.seek := none }))
      (by rw [same, transport]) (by rw [moved.heat_eq]; exact hp)
    refine ⟨moved.trans cut, ?_⟩
    rw [still, same, transport]
    unfold standbyTape
    cases h : s.transport.state <;> simp_all
  unfold tapeStandby
  dsimp only
  split
  · next hs => exact braked _ _ (by simp [hs]) (by simp [hs]) (by simp [hs])
  · next hs => exact braked _ _ (by simp [hs]) (by simp [hs]) (by simp [hs])
  · next hs => exact braked _ _ (by simp [hs]) (by simp [hs]) (by simp [hs])
  · next hs => exact braked _ _ (by simp [hs]) (by simp [hs]) (by simp [hs])
  · next hs =>
    obtain ⟨reports, same⟩ := tapeOnly_of_reports (reportEnds_reports _ _
      (setPending powerDest { s with transport.seek := none }))
    exact ⟨(TapeOnly.moves s _).trans reports, same.trans (by simp [standbyTape, setPending, hs])⟩
  · next hs => exact ⟨.refl s, by simp [standbyTape, hs]⟩
  · next hs => exact ⟨.refl s, by simp [standbyTape, hs]⟩

end Sys2Proof.Machine
end

section
/-! ## POWER MODE STANDBY from ACTIVE -/

namespace Sys2Proof.Machine

variable {l : Link} {s t u w : State}

/-! ### The lamp in a power-down (R57) -/

/-- A lamp that goes OFF leaves nothing of its burning. -/
theorem powerDownLamp_off
    (h : s.lamp.state = .preheat ∨ s.lamp.state = .lit ∧ powerDownRuns s.lamp = false ∧ s.items.fadeOut = 0) :
    powerDownLamp s = lampGoesOff .power s := by
  unfold powerDownLamp
  rcases h with h | ⟨lit, runs, now⟩
  · simp [h]
  · simp [lit, runs, now]

theorem powerDownLamp_fades (h : s.lamp.state = .lit) (hr : powerDownRuns s.lamp = false) (hf : 0 < s.items.fadeOut) :
    powerDownLamp s = { s with
      lamp.fade := some { kind := .powerDown, a := s.lamp.ramp, b := 0, n := s.items.fadeOut, k := 0 }
      lamp.restriking := false } := by
  simp [powerDownLamp, h, hr, startFade, Nat.ne_of_gt hf]

theorem powerDownLamp_running (h : s.lamp.state = .lit) (hr : powerDownRuns s.lamp = true) : powerDownLamp s = s := by
  simp [powerDownLamp, h, hr]

theorem powerDownLamp_swapping {w : Swap} (h : s.lamp.state = .swapping) (hw : s.lamp.swap = some w) :
    powerDownLamp s = { s with lamp.swap := some { w with restrike := false } } := by
  simp [powerDownLamp, h, cancelRestrike, hw]

theorem powerDownLamp_dark (h : s.lamp.state = .off ∨ s.lamp.state = .failed) : powerDownLamp s = s := by
  rcases h with h | h <;> simp [powerDownLamp, h]

/-- The power-down reaches the lamp, and the Heat Monitor by fan and cooldown alone. -/
theorem powerDownLamp_reports (hp : s.heat.sleepPending = .clear) : ∃ p c e f m, Reports s.link { s with
    lamp := p, heat := { s.heat with cooling := c, elapsed := e, fan := f, stallTimer := m } } (powerDownLamp s) := by
  have off : ∃ p c e f m, Reports s.link { s with
      lamp := p, heat := { s.heat with cooling := c, elapsed := e, fan := f, stallTimer := m } } (lampGoesOff .power s) := by
    obtain ⟨f, m, dark⟩ := lampGoesOff_reports (s := s) .power hp
    exact ⟨_, _, _, f, m, dark⟩
  unfold powerDownLamp startFade cancelRestrike
  split
  · split
    · exact ⟨_, _, _, _, _, .refl s⟩
    · split
      · exact off
      · exact ⟨_, _, _, _, _, .refl { s with lamp := _ }⟩
  · exact off
  · exact ⟨_, _, _, _, _, .refl { s with lamp := _ }⟩
  · exact ⟨_, _, _, _, _, .refl s⟩
  · exact ⟨_, _, _, _, _, .refl s⟩

/-! ### The program (R151, R153) -/

theorem stopTimer_eq (s : State) : ∃ p, stopTimer s = { s with program := { s.program with timer := .stopped, hold := p } } := by
  unfold stopTimer markTimerHeld
  split
  · next h =>
    refine ⟨s.program.hold, ?_⟩
    rw [← h]
  · exact ⟨_, rfl⟩

/-- STANDBY stops the timer and clears the hold and a SEEK CUE. -/
theorem programStandby_reports (s : State) : ∃ q, Reports s.link { s with
      program := { s.program with timer := .stopped, hold := none }, cueLog := q } (programStandby s)
    ∧ q.entries = s.cueLog.entries ∧ q.seekCue = none := by
  obtain ⟨p, stopped⟩ := stopTimer_eq s
  obtain ⟨q, ⟨m, c, e, hm⟩, entries, -⟩ := endLoop_reports .notActive none
    { s with program := { s.program with timer := .stopped, hold := none } }
  have held : { stopTimer s with program.hold := none }
      = { s with program := { s.program with timer := .stopped, hold := none } } := by rw [stopped]
  rw [programStandby, held, e]
  exact ⟨{ q with seekCue := none }, ⟨m, c, rfl, hm⟩, entries, rfl⟩

/-! ### STANDBY entered -/

/-- The power state written, and the fan after it. -/
def standing (s : State) : State := evalFan { s with heat.power := .standby }

/-- What STANDBY entered from ACTIVE leaves: the lamp by its power-down but for a waiting dark request. -/
structure StoodBy (s u : State) : Prop where
  heat : u.heat.power = .standby ∧ u.heat.estimate = s.heat.estimate
  newest : ∀ r, s.link.replies.getLast? = some r → r.ready = false → u.link.replies.getLast? = some r
  queue : u.changer.queue = []
  program : u.program.timer = .stopped ∧ u.program.hold = none ∧ u.program.table = s.program.table
  log : u.cueLog.entries = s.cueLog.entries ∧ u.cueLog.seekCue = none
  transport : u.transport = standbyTape s.transport
  lamp : u.lamp = { (powerDownLamp (standing s)).lamp with darkWaiting := u.lamp.darkWaiting }
  items : u.items = s.items

theorem enterStandby_stoodBy (hp : s.heat.sleepPending = .clear) : StoodBy s (enterStandby s) := by
  obtain ⟨p, b, e, f, k, m, c, dimmed, hm⟩ := powerDownLamp_reports (s := standing s) hp
  have awake : AtStandby (powerDownLamp (standing s)) := by rw [dimmed]; exact ⟨rfl, hp⟩
  have lampSide : CycleOnly (powerDownLamp (standing s)) (lampStandby (standing s)) := withDarkTest_cycleOnly awake
  obtain ⟨changerSide, empty⟩ := changerStandby_cycleOnly (lampSide.atStandby awake)
  have cycle := lampSide.trans changerSide
  obtain ⟨q, ⟨m', c', program, hm'⟩, entries, seekCue⟩ := programStandby_reports (changerStandby (lampStandby (standing s)))
  obtain ⟨tape, transport⟩ := tapeStandby_tapeOnly (s := programStandby (changerStandby (lampStandby (standing s))))
    (by rw [program]; exact (cycle.atStandby awake).1)
  change StoodBy s (tapeStandby (programStandby (changerStandby (lampStandby (standing s)))))
  obtain ⟨_, _, _, _, _, _, cycleFrame⟩ := cycle.frame
  obtain ⟨_, _, _, _, _, _, tapeFrame⟩ := tape.frame
  have hold := tape.hold (by rw [program])
  have newest (r : ReplyEntry) (hr : s.link.replies.getLast? = some r) (hn : r.ready = false) :
      (tapeStandby (programStandby (changerStandby (lampStandby (standing s))))).link.replies.getLast? = some r := by
    refine tape.newest r ?_ hn
    have cycled := cycle.newest r (by rw [dimmed]; exact hm.newest r hr hn) hn
    rw [program]
    exact hm'.newest r cycled hn
  have log := tape.log
  refine ⟨?_, newest, ?_, ⟨?_, hold, ?_⟩, ⟨log.1.trans ?_, log.2.trans ?_⟩, transport.trans ?_, ?_, ?_⟩
  · rw [tapeFrame, program, cycleFrame, dimmed]; exact ⟨rfl, rfl⟩
  · rw [tapeFrame, program]; exact empty
  · rw [tapeFrame, program]
  · rw [tapeFrame, program, cycleFrame, dimmed]; rfl
  · rw [program]
    refine entries.trans (cycle.entries.trans ?_)
    rw [dimmed]; rfl
  · rw [program]; exact seekCue
  · rw [program, cycleFrame, dimmed]; rfl
  · rw [tapeFrame, program, cycleFrame]
  · rw [tapeFrame, program, cycleFrame, dimmed]; rfl

/-! ### The request -/

/-- A served request whose body leaves its place in the reply order to the newest: the reply fills it. -/
theorem request_replies {k : Byte} {n : Nat} {h : Hdr} {body : State → Answer × State} {a : Answer} (hs : servable s)
    (hl : h.len.toNat = n) (hb : body (takePlace (k + 0x80) h.tag s) = (a, u))
    (hu : u.link.replies.getLast? = some { kind := k + 0x80, tag := h.tag, payload := [], ready := false }) :
    ∃ l c, request k n h body s = { u with link := l, trace := c }
      ∧ l.replies.getLast? = some { kind := k + 0x80, tag := h.tag, payload := answerPayload a, ready := false } := by
  have filled : fillReply (answerPayload a) u = { u with
      link.replies := u.link.replies.dropLast ++
        [{ kind := k + 0x80, tag := h.tag, payload := answerPayload a, ready := false }] } := by simp [fillReply, hu]
  obtain ⟨m, c, e, hm⟩ := (Reports.refl (fillReply (answerPayload a) u)).settleThermal (thermalKey s)
  rw [filled] at e hm
  exact ⟨m, c, by rw [request_served k n h body s hs hl, hb, filled, e], hm.newest _ (by simp) rfl⟩

theorem powerModeTo_standby_active (b : Byte) (hp : s.heat.power = .active) :
    powerModeTo .standby b s = (.done [], powerNotice .request none none none (enterStandby s)) := by
  unfold powerModeTo
  rw [hp]

theorem powerMode_stopsShow {h : Hdr} (hs : servable s) (hl : h.len = 1) (hp : s.heat.power = .active)
    (hc : s.heat.sleepPending = .clear) : ∃ u l c, exec (.powerMode h 1) s = .next { u with link := l, trace := c }
      ∧ StoodBy (takePlace 0x88 h.tag s) u
      ∧ l.replies.getLast? = some { kind := 0x88, tag := h.tag, payload := [0], ready := false } := by
  have stood := enterStandby_stoodBy (s := takePlace 0x88 h.tag s) hc
  have place := stood.newest { kind := 0x88, tag := h.tag, payload := [], ready := false } (by simp [takePlace]) rfl
  obtain ⟨m, c, noticed, hm⟩ : Reports (enterStandby (takePlace 0x88 h.tag s)).link (enterStandby (takePlace 0x88 h.tag s))
      (powerNotice .request none none none (enterStandby (takePlace 0x88 h.tag s))) := (Reports.refl _).powerNotice ..
  have body := (powerModeBody_of_arg (mode := 1) rfl h.tag (takePlace 0x88 h.tag s)).trans
    (powerModeTo_standby_active h.tag hp)
  rw [noticed] at body
  obtain ⟨l, c', e, reply⟩ := request_replies (k := 0x08) (n := 1) hs (by simp [hl]) body (hm.newest _ place rfl)
  exact ⟨enterStandby (takePlace 0x88 h.tag s), l, c', next_congr e, stood, reply⟩

end Sys2Proof.Machine

namespace Sys2Proof.Proofs

open Sys2Proof.Machine

/-- Settles O16: STANDBY entered is the power-down of the lamp, the Changer's end of its moves, the program's stop and the
tape's (`enterStandby_stoodBy`); a dark request answered on the way reaches the cycle alone (`withDarkTest_cycleOnly`). -/
theorem standbyStopsTheShow : Obligations.StandbyStopsTheShow := by
  intro h s hs hl hp hc
  obtain ⟨u, l, c, e, stood, reply⟩ := powerMode_stopsShow hs hl hp hc
  obtain ⟨⟨power, estimate⟩, -, queue, ⟨timer, hold, table⟩, ⟨entries, seekCue⟩, transport, lamp, items⟩ := stood
  refine ⟨_, e, power, queue, reply, timer, hold, seekCue, fun hk => ?_, fun hk => ?_, fun hk => ?_, fun lit runs long => ?_,
    fun lit runs => ?_, fun hd => ?_, fun w hw hw' => ?_, fun hd => ?_, items, estimate, table, entries⟩
  · refine transport.trans ?_
    rcases hk with hk | hk <;> simp [standbyTape, takePlace, hk]
  · refine transport.trans ?_
    rcases hk with hk | hk | hk | hk <;> simp [standbyTape, takePlace, hk, brakeDir, powerDest]
  · refine transport.trans ?_
    simp [standbyTape, takePlace, hk, powerDest]
  · have faded := powerDownLamp_fades (s := standing (takePlace 0x88 h.tag s)) lit runs long
    rw [faded] at lamp
    change u.lamp.state = .lit ∧ u.lamp.fade = _
    rw [lamp]
    exact ⟨lit, rfl⟩
  · have still := powerDownLamp_running (s := standing (takePlace 0x88 h.tag s)) lit runs
    rwa [still] at lamp
  · have off := powerDownLamp_off (s := standing (takePlace 0x88 h.tag s)) hd
    obtain ⟨f, m, m', c', dark, -⟩ := lampGoesOff_reports (s := standing (takePlace 0x88 h.tag s)) .power hc
    rw [off, dark] at lamp
    change u.lamp.state = .off ∧ u.lamp.ramp = 0 ∧ u.lamp.drive = 0 ∧ u.lamp.fade = none
    rw [lamp]
    exact ⟨rfl, rfl, rfl, rfl⟩
  · have cancelled := powerDownLamp_swapping (s := standing (takePlace 0x88 h.tag s)) hw hw'
    rwa [cancelled] at lamp
  · have still := powerDownLamp_dark (s := standing (takePlace 0x88 h.tag s)) hd
    rwa [still] at lamp

end Sys2Proof.Proofs
end

section
/-! ## What leaves the Transport as it stands

One lemma an operation, in the order of the model; tape, cues and keys that move it stand in the next part. -/

namespace Sys2Proof.Machine

variable (s : State)

/-! ### Notices, records, faults -/

@[simp] theorem giveAll_transport (ns : List Notice) : (giveAll ns s).transport = s.transport := by
  obtain ⟨l, h, -⟩ := giveAll_spec ns s
  rw [h]

@[simp] theorem settleWatermark_transport : (settleWatermark s).transport = s.transport := by
  obtain ⟨l, t, h, -⟩ := settleWatermark_spec s
  rw [h]

@[simp] theorem offer_transport (b : TraceBody) : (offer b s).transport = s.transport := by
  obtain ⟨l, t, h, -⟩ := offer_spec b s
  rw [h]

@[simp] theorem report_transport (n : Notice) (b : TraceBody) : (report n b s).transport = s.transport := by
  simp [report]

@[simp] theorem raiseFault_transport (f : FaultKind) (pos : Option LampPos) :
    (raiseFault f pos s).transport = s.transport := by
  obtain ⟨l, t, h, -⟩ := raiseFault_spec f pos s
  rw [h]

@[simp] theorem clearFault_transport (f : FaultKind) : (clearFault f s).transport = s.transport := by
  obtain ⟨l, t, h, -⟩ := clearFault_spec f s
  rw [h]

@[simp] theorem writeTraceMode_transport (mode : TraceMode) (trigger : BitVec 16) (post : Nat) :
    (writeTraceMode mode trigger post s).transport = s.transport := by
  obtain ⟨l, h, -⟩ := writeTraceMode_spec mode trigger post s
  rw [h]

@[simp] theorem fillReply_transport (p : List Byte) : (fillReply p s).transport = s.transport := by
  unfold fillReply
  split <;> rfl

/-! ### Heat and power -/

@[simp] theorem startCooldown_transport : (startCooldown s).transport = s.transport := rfl

@[simp] theorem endCooldown_transport : (endCooldown s).transport = s.transport := rfl

@[simp] theorem recomputeD_transport : (recomputeD s).transport = s.transport := by
  obtain ⟨f, t, h⟩ := recomputeD_eq s
  rw [h]

@[simp] theorem evalCeiling_transport : (evalCeiling s).transport = s.transport := by simp [evalCeiling]

@[simp] theorem settleThermal_transport (key : FanLevel × Zone × Bool) : (settleThermal key s).transport = s.transport := by
  obtain ⟨l, t, h, -⟩ := settleThermal_spec key s
  rw [h]

@[simp] theorem relayLost_transport (r : Reason) (fs : List RelayFrame) : (relayLost r fs s).transport = s.transport := by
  induction fs generalizing s with
  | nil => rfl
  | cons f fs ih => simp [relayLost, ih]

@[simp] theorem loseRelayQueue_transport (r : Reason) : (loseRelayQueue r s).transport = s.transport := by
  simp [loseRelayQueue]

@[simp] theorem sleepRemote_transport : (sleepRemote s).transport = s.transport := by
  unfold sleepRemote sleepFocus
  split <;> rfl

@[simp] theorem powerNotice_transport (c : Reason) (w : Option WakeSource) (t : Option Byte) (o : Option Reason) :
    (powerNotice c w t o s).transport = s.transport := rfl

@[simp] theorem enterSleep_transport (t : Option Byte) : (enterSleep t s).transport = s.transport := by simp [enterSleep]

@[simp] theorem sleepTest_transport : (sleepTest s).transport = s.transport := by
  unfold sleepTest
  repeat' split
  all_goals simp

@[simp] theorem wake_transport (w : WakeSource) : (wake w s).transport = s.transport := by
  unfold wake
  split <;> rfl

@[simp] theorem supersedeSleep_transport : (supersedeSleep s).transport = s.transport := by
  unfold supersedeSleep
  split <;> rfl

@[simp] theorem askSleep_transport (t : Byte) : (askSleep t s).2.transport = s.transport := by
  unfold askSleep
  dsimp only
  repeat' split
  all_goals simp

@[simp] theorem keyPending_transport : (keyPending s).transport = s.transport := by
  unfold keyPending
  split <;> rfl

/-! ### Lamp -/

@[simp] theorem reportLamp_transport (c : Reason) : (reportLamp c s).transport = s.transport := by simp [reportLamp]

@[simp] theorem recordRefusedStrike_transport (r : Reason) : (recordRefusedStrike r s).transport = s.transport := by
  simp [recordRefusedStrike]

@[simp] theorem startFade_transport (k : FadeKind) (b n : Nat) : (startFade k b n s).transport = s.transport := by
  unfold startFade
  split <;> simp

@[simp] theorem lampDark_transport (st : LampState) : (lampDark st s).transport = s.transport := by simp [lampDark]

@[simp] theorem lampGoesOff_transport (c : Reason) : (lampGoesOff c s).transport = s.transport := by simp [lampGoesOff]

@[simp] theorem enterPreheat_transport (c : Reason) (d : Level) (b : Bool) :
    (enterPreheat c d b s).transport = s.transport := by simp [enterPreheat, apply_ite State.transport]

@[simp] theorem startSwap_transport (c : Reason) (w : Swap) : (startSwap c w s).transport = s.transport := by
  simp [startSwap]

@[simp] theorem makeStrike_transport (c : Reason) : (makeStrike c s).transport = s.transport := by
  unfold makeStrike
  dsimp only
  repeat' split
  all_goals simp

@[simp] theorem strike_transport (c : Reason) : (strike c s).2.transport = s.transport := by
  unfold strike
  split <;> simp

@[simp] theorem strikeUnanswered_transport (c : Reason) : (strikeUnanswered c s).transport = s.transport := by
  have struck := strike_transport s c
  unfold strikeUnanswered
  split <;> simp_all

@[simp] theorem takeFade_transport (level n : Nat) : (takeFade level n s).transport = s.transport := by
  unfold takeFade
  repeat' split
  all_goals simp

@[simp] theorem takeCueFade_transport (level n : Nat) : (takeCueFade level n s).transport = s.transport := by
  unfold takeCueFade
  dsimp only
  repeat' split
  all_goals simp

@[simp] theorem darkRequest_transport : (darkRequest s).2.transport = s.transport := by
  unfold darkRequest
  dsimp only
  split <;> simp [apply_ite State.transport]

@[simp] theorem lightRequest_transport : (lightRequest s).transport = s.transport := by
  unfold lightRequest
  dsimp only
  repeat' split
  all_goals simp

@[simp] theorem programLight_transport : (programLight s).transport = s.transport := by
  unfold programLight
  split <;> simp

@[simp] theorem lampEndFade_transport : (lampEndFade s).transport = s.transport := by
  unfold lampEndFade
  repeat' split
  all_goals simp

@[simp] theorem lampOffNow_transport (c : Reason) : (lampOffNow c s).transport = s.transport := by
  unfold lampOffNow
  split <;> simp

@[simp] theorem powerDownLamp_transport : (powerDownLamp s).transport = s.transport := by
  unfold powerDownLamp
  repeat' split
  all_goals simp

@[simp] theorem fadeAdvance_transport : (fadeAdvance s).transport = s.transport := by
  unfold fadeAdvance
  repeat' split
  all_goals simp

@[simp] theorem lampLights_transport : (lampLights s).transport = s.transport := by
  unfold lampLights
  split <;> simp

@[simp] theorem restrikeLamp_transport (r : Level) : (restrikeLamp r s).transport = s.transport := by
  unfold restrikeLamp
  repeat' split
  all_goals simp

@[simp] theorem swapEnds_transport : (swapEnds s).transport = s.transport := by
  unfold swapEnds
  dsimp only
  repeat' split
  all_goals simp

@[simp] theorem leaveFailed_transport : (leaveFailed s).transport = s.transport := by
  unfold leaveFailed
  split <;> simp

/-! ### Show -/

@[simp] theorem timerMoveDone_transport : (timerMoveDone s).transport = s.transport := by
  unfold timerMoveDone
  split <;> rfl

@[simp] theorem stopTimer_transport : (stopTimer s).transport = s.transport := by
  unfold stopTimer
  split <;> rfl

@[simp] theorem endLoop_transport (r : Reason) (d : Option Reason) : (endLoop r d s).transport = s.transport := by
  unfold endLoop
  split <;> rfl

@[simp] theorem chaseFailed_transport (o : Option ChaseOwner) (d : Reason) :
    (chaseFailed o d s).transport = s.transport := by
  unfold chaseFailed
  repeat' split
  all_goals simp

@[simp] theorem reportShort_transport (n : Int) (w : WalkEnd) : (reportShort n w s).transport = s.transport := by
  unfold reportShort
  split <;> simp

/-! ### The cycle -/

@[simp] theorem failEntries_transport (r : Reason) (es : List MoveEntry) :
    (failEntries r es s).transport = s.transport := by
  induction es generalizing s with
  | nil => rfl
  | cons e es ih => simp [failEntries, ih]

@[simp] theorem clearQueue_transport (r : Reason) : (clearQueue r s).transport = s.transport := by simp [clearQueue]

@[simp] theorem reportFailure_transport (r : Reason) (n : Nat) : (reportFailure r n s).transport = s.transport := by
  unfold reportFailure
  split <;> simp

@[simp] theorem failMove_transport (r : Reason) : (failMove r s).transport = s.transport := by simp [failMove]

@[simp] theorem changerFails_transport (f : FaultKind) (r : Reason) : (changerFails f r s).transport = s.transport := by
  simp [changerFails]

@[simp] theorem lightStage_transport : (lightStage s).transport = s.transport := by
  unfold lightStage
  dsimp only
  repeat' split
  all_goals simp

@[simp] theorem doneStage_transport : (doneStage s).transport = s.transport := by
  unfold doneStage
  split <;> simp

@[simp] theorem finishAborted_transport : (finishAborted s).transport = s.transport := by simp [finishAborted]

@[simp] theorem toDrop_transport : (toDrop s).transport = s.transport := by
  unfold toDrop
  dsimp only
  split <;> simp

@[simp] theorem rotateTo_transport (p t : Nat) : (rotateTo p t s).transport = s.transport := by
  unfold rotateTo
  repeat' split
  all_goals simp

@[simp] theorem searchFound_transport : (searchFound s).transport = s.transport := by
  unfold searchFound
  dsimp only
  repeat' split
  all_goals simp

@[simp] theorem toRotate_transport : (toRotate s).transport = s.transport := by
  unfold toRotate
  repeat' split
  all_goals simp

@[simp] theorem toLift_transport : (toLift s).transport = s.transport := by
  unfold toLift
  split <;> simp

@[simp] theorem toDark_transport (m : ChangeMode) : (toDark m s).transport = s.transport := by
  unfold toDark
  dsimp only
  repeat' split
  all_goals simp

theorem targetOf_transport {m : Move} {t : Option Nat} {u : State} (h : targetOf m s = .inr (t, u)) :
    u.transport = s.transport := by
  unfold targetOf at h
  repeat' split at h
  all_goals cases h
  all_goals simp

@[simp] theorem runEntry_transport (e : MoveEntry) : (runEntry e s).transport = s.transport := by
  unfold runEntry
  dsimp only
  split
  · simp
  · next h => simp [targetOf_transport _ h]

@[simp] theorem startCycles_transport (es : List MoveEntry) : (startCycles es s).transport = s.transport := by
  induction es generalizing s with
  | nil => rfl
  | cons e es ih =>
    unfold startCycles
    dsimp only
    split <;> simp [ih]

@[simp] theorem startReady_transport : (startReady s).transport = s.transport := by
  unfold startReady
  split <;> simp

@[simp] theorem darkTest_transport : (darkTest s).transport = s.transport := by
  unfold darkTest darkReached
  dsimp only
  repeat' split
  all_goals simp

@[simp] theorem withDarkTest_transport (f : State → State) : (withDarkTest f s).transport = (f s).transport := by
  unfold withDarkTest
  split <;> simp

@[simp] theorem mergeEntry_transport (e : MoveEntry) (n : Int) (tags : List Byte) :
    (mergeEntry e n tags s).transport = s.transport := by
  unfold mergeEntry
  dsimp only
  split <;> simp

@[simp] theorem offerMove_transport (e : MoveEntry) : (offerMove e s).2.transport = s.transport := by
  unfold offerMove
  repeat' split
  all_goals simp

@[simp] theorem ignoreKey_transport (k : Key) (r : Remote) (x : Reason) : (ignoreKey k r x s).transport = s.transport := by
  simp [ignoreKey]

@[simp] theorem offerKeyMove_transport (k : Key) (r : Remote) (m : Move) :
    (offerKeyMove k r m s).transport = s.transport := by
  have offered := offerMove_transport s (plainMove .remote m)
  unfold offerKeyMove
  split <;> simp_all

@[simp] theorem offerCueMove_transport (i : Nat) (m : Move) : (offerCueMove i m s).transport = s.transport := by
  have offered := offerMove_transport s (plainMove .cue m)
  unfold offerCueMove
  split <;> simp_all

@[simp] theorem offerTimerMove_transport : (offerTimerMove s).transport = s.transport := by
  have offered := offerMove_transport s (plainMove .timer (.step 1))
  unfold offerTimerMove
  split <;> simp_all

@[simp] theorem offerChaseMove_transport (o : Option ChaseOwner) (t : Nat) :
    (offerChaseMove o t s).transport = s.transport := by
  have offered := offerMove_transport s { source := .chase, move := .goto t, tags := [], owner := o }
  unfold offerChaseMove
  dsimp only
  split <;> simp_all

@[simp] theorem runChase_transport (o : Option ChaseOwner) (i : Nat) : (runChase o i s).transport = s.transport := by
  simp [runChase, applyChase]

@[simp] theorem logChase_transport (o : ChaseOwner) (i : Nat) : (logChase o i s).transport = s.transport := by
  unfold logChase
  split <;> simp [disownAll]

/-! ### Events of the cycle -/

@[simp] theorem shutterCloses_transport : (shutterCloses s).transport = s.transport := by
  unfold shutterCloses
  repeat' split
  all_goals simp

@[simp] theorem liftReported_transport : (liftReported s).transport = s.transport := by
  unfold liftReported
  split <;> simp

@[simp] theorem liftExpires_transport : (liftExpires s).transport = s.transport := by
  unfold liftExpires
  split <;> simp

@[simp] theorem stallExpires_transport : (stallExpires s).transport = s.transport := by
  unfold stallExpires
  split <;> simp

@[simp] theorem countPulse_transport (p : Nat) (d : Turn) (mark : Bool) :
    (countPulse p d mark s).transport = s.transport := by
  unfold countPulse
  dsimp only
  split <;> simp

@[simp] theorem rotationPulse_transport : (rotationPulse s).transport = s.transport := by
  unfold rotationPulse
  repeat' split
  all_goals simp

@[simp] theorem searchPulse_transport (mark : Bool) : (searchPulse mark s).transport = s.transport := by
  unfold searchPulse
  dsimp only
  repeat' split
  all_goals simp

@[simp] theorem indexPulseEvent_transport (mark : Bool) : (indexPulseEvent mark s).transport = s.transport := by
  unfold indexPulseEvent
  dsimp only
  split <;> simp

@[simp] theorem learn_transport (pres : Presence) (shown : Bool) : (learn pres shown s).transport = s.transport := by
  unfold learn
  repeat' split
  all_goals simp

@[simp] theorem dropReported_transport : (dropReported s).transport = s.transport := by
  unfold dropReported
  repeat' split
  all_goals rfl

@[simp] theorem seatReported_transport : (seatReported s).transport = s.transport := by
  unfold seatReported
  split <;> simp

@[simp] theorem extend_transport (n : Int) (p : Nat) : (extend n p s).transport = s.transport := by
  unfold extend
  dsimp only
  repeat' split
  all_goals simp

@[simp] theorem afterEmptyDrop_transport : (afterEmptyDrop s).transport = s.transport := by
  unfold afterEmptyDrop
  repeat' split
  all_goals simp

@[simp] theorem dropExpires_transport : (dropExpires s).transport = s.transport := by
  unfold dropExpires
  split <;> simp

@[simp] theorem seatExpires_transport : (seatExpires s).transport = s.transport := by
  unfold seatExpires
  split <;> simp

@[simp] theorem pauseCycle_transport : (pauseCycle s).transport = s.transport := by
  unfold pauseCycle
  repeat' split
  all_goals rfl

@[simp] theorem continueCycle_transport : (continueCycle s).transport = s.transport := by
  unfold continueCycle
  split <;> simp

@[simp] theorem abortPaused_transport : (abortPaused s).transport = s.transport := by
  unfold abortPaused
  split <;> simp

@[simp] theorem abortCycle_transport : (abortCycle s).transport = s.transport := by
  unfold abortCycle
  repeat' split
  all_goals simp

@[simp] theorem abortAll_transport : (abortAll s).transport = s.transport := by simp [abortAll]

@[simp] theorem changerStandby_transport : (changerStandby s).transport = s.transport := by
  unfold changerStandby
  dsimp only
  split <;> simp

@[simp] theorem removeFromChanger_transport : (removeFromChanger s).transport = s.transport := by
  unfold removeFromChanger
  dsimp only
  split <;> simp

@[simp] theorem trayCodeChanges_transport (code : Fin 4) : (trayCodeChanges code s).transport = s.transport := by
  unfold trayCodeChanges settleTrayCode removeTray seatTray
  dsimp only
  repeat' split
  all_goals simp

/-! ### Heat model, filament -/

@[simp] theorem handCeiling_transport : (handCeiling s).transport = s.transport := by simp [handCeiling]

@[simp] theorem ensureCooldown_transport : (ensureCooldown s).transport = s.transport := by
  unfold ensureCooldown
  split <;> rfl

@[simp] theorem heatFaultRaised_transport (c : Reason) : (heatFaultRaised c s).transport = s.transport := by
  simp [heatFaultRaised, forceLampOff]

@[simp] theorem evalLatch_transport : (evalLatch s).transport = s.transport := by
  unfold evalLatch
  repeat' split
  all_goals simp

@[simp] theorem readAmbient_transport (r : Option Int) : (readAmbient r s).transport = s.transport := by
  unfold readAmbient
  split <;> simp

@[simp] theorem updateDecisions_transport (b : Bool) : (updateDecisions b s).transport = s.transport := by
  unfold updateDecisions advanceCooldown evalFloor
  dsimp only
  repeat' split
  all_goals simp

@[simp] theorem heatUpdated_transport (r : Option Int) : (heatUpdated r s).transport = s.transport := by
  unfold heatUpdated updateEstimate
  dsimp only
  repeat' split
  all_goals simp

@[simp] theorem fanStalls_transport : (fanStalls s).transport = s.transport := by
  unfold fanStalls
  split <;> simp

@[simp] theorem fanTach_transport : (fanTach s).transport = s.transport := by
  unfold fanTach
  dsimp only
  split <;> simp

@[simp] theorem withThermal_transport (f : State → State) : (withThermal f s).transport = (f s).transport := by
  simp [withThermal]

@[simp] theorem tcoChanges_transport (b : Bool) : (tcoChanges b s).transport = s.transport := by
  unfold tcoChanges tcoOpens tcoCloses
  repeat' split
  all_goals simp

@[simp] theorem openFilament_transport : (openFilament s).transport = s.transport := by
  unfold openFilament
  dsimp only
  split <;> simp

@[simp] theorem filamentSample_transport (b : Bool) : (filamentSample b s).transport = s.transport := by
  unfold filamentSample
  dsimp only
  repeat' split
  all_goals simp

@[simp] theorem fadeStepEvent_transport (b : Bool) : (fadeStepEvent b s).transport = s.transport := by
  simp [fadeStepEvent]

/-! ### Tape reports, timer, cues and relay -/

@[simp] theorem reportTape_transport (c : Reason) (e : TapeEnds) : (reportTape c e s).transport = s.transport := by
  simp [reportTape]

@[simp] theorem recordTapeRefusal_transport (q : MotionReq) (r : Reason) :
    (recordTapeRefusal q r s).transport = s.transport := by simp [recordTapeRefusal]

@[simp] theorem reportEnds_transport (c : Reason) (e : TapeEnds) : (reportEnds c e s).transport = s.transport := by
  unfold reportEnds
  split <;> simp

@[simp] theorem loopRest_transport : (loopRest s).transport = s.transport := by
  unfold loopRest
  repeat' split
  all_goals simp

@[simp] theorem handMotion_transport (q : MotionReq) (src : MotionSource) (b : Bool) :
    (handMotion q src b s).transport = s.transport := by
  unfold handMotion
  cases src <;> dsimp only <;> repeat' split
  all_goals simp

@[simp] theorem rewindUndone_transport : (rewindUndone s).2.transport = s.transport := by
  unfold rewindUndone
  split <;> simp

@[simp] theorem fadeEndsAtRemoval_transport : (fadeEndsAtRemoval s).transport = s.transport := by
  have undone := rewindUndone_transport { s with cueLog.phase := .rewinding }
  unfold fadeEndsAtRemoval fadeEndsWith
  dsimp only [id]
  split
  · split
    · split
      · next hq => simpa [hq] using undone
      · next hq => simpa [hq] using undone
    · rfl
  · rfl

@[simp] theorem decideRestart_transport : (decideRestart s).transport = s.transport := by
  unfold decideRestart
  repeat' split
  all_goals simp

@[simp] theorem startTimer_transport (p : Nat) : (startTimer p s).transport = s.transport := by
  unfold startTimer
  dsimp only
  repeat' split
  all_goals rfl

@[simp] theorem startTimerAction_transport (p : Nat) : (startTimerAction p s).transport = s.transport := by
  unfold startTimerAction
  split <;> simp

@[simp] theorem holdTimer_transport : (holdTimer s).transport = s.transport := by
  unfold holdTimer
  split <;> rfl

@[simp] theorem timerExpires_transport : (timerExpires s).transport = s.transport := by
  unfold timerExpires
  split <;> simp

@[simp] theorem playingHanded_transport (src : MotionSource) : (playingHanded src s).transport = s.transport := by
  unfold playingHanded playFromZero
  dsimp only
  repeat' split
  all_goals rfl

@[simp] theorem reportCue_transport (k : CueKind) (i : Nat) (o : Origin) (r : Option Nat) :
    (reportCue k i o r s).transport = s.transport := by
  unfold reportCue
  dsimp only
  split <;> simp

@[simp] theorem offerRelay_transport (f : RelayFrame) : (offerRelay f s).transport = s.transport := by
  unfold offerRelay
  repeat' split
  all_goals simp

@[simp] theorem slipTest_transport (i : Nat) (o : Origin) (r : Option Nat) : (slipTest i o r s).transport = s.transport := by
  unfold slipTest
  dsimp only
  split <;> simp

@[simp] theorem burstFrame_transport : (burstFrame s).transport = s.transport := by
  unfold burstFrame
  dsimp only
  split <;> simp

@[simp] theorem gapFrame_transport (n : Nat) : (gapFrame n s).transport = s.transport := by
  unfold gapFrame
  split <;> simp

@[simp] theorem dropRelay_transport (r : Reason) : (dropRelay r s).transport = s.transport := by simp [dropRelay]

@[simp] theorem lineSlip_transport (i : Nat) : (lineSlip i s).transport = s.transport := by
  unfold lineSlip
  dsimp only
  split <;> simp

@[simp] theorem relayConflict_transport : (relayConflict s).transport = s.transport := by simp [relayConflict]

@[simp] theorem relayTimingError_transport : (relayTimingError s).transport = s.transport := by
  unfold relayTimingError
  split <;> simp

@[simp] theorem relayStartPulse_transport : (relayStartPulse s).transport = s.transport := by
  unfold relayStartPulse
  repeat' split
  all_goals simp

@[simp] theorem conflictExpires_transport : (conflictExpires s).transport = s.transport := by
  unfold conflictExpires
  split <;> simp

@[simp] theorem relayFrameEnds_transport : (relayFrameEnds s).transport = s.transport := by
  unfold relayFrameEnds
  split <;> rfl

@[simp] theorem relayGapEnds_transport : (relayGapEnds s).transport = s.transport := by
  unfold relayGapEnds
  split <;> rfl

/-! ### Remotes -/

@[simp] theorem setHeld_transport (r : Remote) (k : Option Held) : (setHeld r k s).transport = s.transport := by
  cases r <;> rfl

@[simp] theorem markHeld_transport (r : Remote) (f : Held → Held) : (markHeld r f s).transport = s.transport := by
  simp [markHeld]

@[simp] theorem focusPress_transport (r : Remote) (d : FocusDir) : (focusPress r d s).transport = s.transport := by
  unfold focusPress takeOverNudge
  dsimp only
  split <;> split <;> rfl

@[simp] theorem focusRelease_transport (r : Remote) : (focusRelease r s).transport = s.transport := by
  unfold focusRelease
  repeat' split
  all_goals rfl

@[simp] theorem focusSpeeds_transport : (focusSpeeds s).transport = s.transport := by
  unfold focusSpeeds
  split <;> rfl

@[simp] theorem limitStops_transport (d : FocusDir) : (limitStops d s).transport = s.transport := by
  unfold limitStops
  repeat' split
  all_goals rfl

@[simp] theorem limitChanges_transport (d : FocusDir) (b : Bool) : (limitChanges d b s).transport = s.transport := by
  unfold limitChanges
  cases d <;> dsimp only <;> split <;> simp

@[simp] theorem nudgeCompletes_transport : (nudgeCompletes s).transport = s.transport := by
  unfold nudgeCompletes
  split <;> rfl

@[simp] theorem startNudge_transport (c n : Nat) (t : Byte) : (startNudge c n t s).2.transport = s.transport := by
  unfold startNudge
  repeat' split
  all_goals rfl

@[simp] theorem digitPress_transport (r : Remote) (d : Fin 10) : (digitPress r d s).transport = s.transport := by
  unfold digitPress
  repeat' split
  all_goals simp

@[simp] theorem commitEntry_transport (n : Nat) : (commitEntry n s).transport = s.transport := by
  unfold commitEntry refuseEntry
  dsimp only
  repeat' split
  all_goals simp

@[simp] theorem gotoPress_transport (r : Remote) : (gotoPress r s).transport = s.transport := by
  unfold gotoPress
  split <;> simp

@[simp] theorem entryExpires_transport : (entryExpires s).transport = s.transport := by
  unfold entryExpires
  repeat' split
  all_goals simp

@[simp] theorem lampKey_transport : (lampKey s).transport = s.transport := by
  unfold lampKey
  split <;> simp

@[simp] theorem repeatKey_transport (r : Remote) : (repeatKey r s).transport = s.transport := by
  unfold repeatKey
  repeat' split
  all_goals simp

@[simp] theorem irError_transport (b : Bool) : (irError b s).transport = s.transport := by
  unfold irError
  split <;> rfl

@[simp] theorem irLeads_transport : (irLeads s).transport = s.transport := by
  unfold irLeads
  split <;> rfl

/-! ### Power states, resets, requests -/

@[simp] theorem activate_transport (c : Reason) : (activate c s).transport = s.transport := by
  simp [activate, powerNoticeEnding]

@[simp] theorem programStandby_transport : (programStandby s).transport = s.transport := by simp [programStandby]

@[simp] theorem lampStandby_transport : (lampStandby s).transport = s.transport := by simp [lampStandby]

@[simp] theorem raiseIf_transport (b : Bool) (f : FaultKind) : (raiseIf b f s).transport = s.transport := by
  unfold raiseIf
  split <;> simp

@[simp] theorem softLamp_transport : (softLamp s).transport = s.transport := by
  unfold softLamp
  dsimp only
  split <;> simp

@[simp] theorem rejectFrame_transport (k t : Byte) (r : Reason) : (rejectFrame k t r s).transport = s.transport := by
  simp [rejectFrame]

@[simp] theorem thresholdLamp_transport : (thresholdLamp s).transport = s.transport := by
  unfold thresholdLamp
  repeat' split
  all_goals simp

@[simp] theorem clearSticky_transport (f : FaultKind) : (clearSticky f s).transport = s.transport := by
  unfold clearSticky
  dsimp only
  split <;> simp

@[simp] theorem clearEach_transport (fs : List FaultKind) : (clearEach fs s).transport = s.transport := by
  induction fs generalizing s with
  | nil => rfl
  | cons f fs ih =>
    unfold clearEach
    split <;> simp [ih]

@[simp] theorem faultClearBody_transport (c : Nat) : (faultClearBody c s).2.transport = s.transport := by
  unfold faultClearBody clearNamed
  repeat' split
  all_goals simp

@[simp] theorem getItemBody_transport (n : Nat) : (getItemBody n s).2.transport = s.transport := by
  unfold getItemBody
  split <;> rfl

@[simp] theorem getMapBody_transport (n : Nat) : (getMapBody n s).2.transport = s.transport := by
  unfold getMapBody
  split <;> rfl

@[simp] theorem markSlotBody_transport (slot pres hold value : Nat) :
    (markSlotBody slot pres hold value s).2.transport = s.transport := by
  unfold markSlotBody
  repeat' split
  all_goals rfl

@[simp] theorem hostMove_transport (m : Move) (t : Byte) : (hostMove m t s).2.transport = s.transport := by
  have offered := offerMove_transport s { source := .host, move := m, tags := [t], owner := none }
  unfold hostMove
  split <;> simp_all

@[simp] theorem stepBody_transport (n : Int) (t : Byte) : (stepBody n t s).2.transport = s.transport := by
  unfold stepBody
  split <;> simp

@[simp] theorem gotoBody_transport (n : Nat) (t : Byte) : (gotoBody n t s).2.transport = s.transport := by
  unfold gotoBody
  split <;> simp

@[simp] theorem selectLampBody_transport (p t : Byte) : (selectLampBody p t s).2.transport = s.transport := by
  unfold selectLampBody
  repeat' split
  all_goals simp

@[simp] theorem markLampBody_transport (p c : Byte) : (markLampBody p c s).2.transport = s.transport := by
  unfold markLampBody
  repeat' split
  all_goals rfl

@[simp] theorem setCueSourceBody_transport (c : Byte) : (setCueSourceBody c s).2.transport = s.transport := by
  unfold setCueSourceBody
  split <;> rfl

@[simp] theorem writeEntryBody_transport (i : Nat) (raw : List RawAction) :
    (writeEntryBody i raw s).2.transport = s.transport := by
  unfold writeEntryBody
  repeat' split
  all_goals rfl

@[simp] theorem readEntryBody_transport (i m : Nat) : (readEntryBody i m s).2.transport = s.transport := by
  unfold readEntryBody
  repeat' split
  all_goals rfl

@[simp] theorem readCueLogBody_transport (i : Nat) : (readCueLogBody i s).2.transport = s.transport := by
  unfold readCueLogBody
  split <;> rfl

@[simp] theorem setTraceModeBody_transport (m : Nat) (t : BitVec 16) (p : Nat) :
    (setTraceModeBody m t p s).2.transport = s.transport := by
  unfold setTraceModeBody
  repeat' split
  all_goals simp

@[simp] theorem readTraceBody_transport (k : Nat) : (readTraceBody k s).2.transport = s.transport := by
  unfold readTraceBody
  split <;> rfl

@[simp] theorem protectBody_transport (i : Byte) : (protectBody i s).2.transport = s.transport := by
  unfold protectBody
  split <;> rfl

@[simp] theorem lockBody_transport (c : Byte) : (lockBody c s).2.transport = s.transport := by
  unfold lockBody
  repeat' split
  all_goals rfl

end Sys2Proof.Machine
end

section
/-! ## What moves the Transport mutes it outside PLAYING

`Hushed` follows an operation from one Transport to another: muted outside PLAYING, it stays so, and its reel count stays in 16
bits. Every way out of PLAYING goes through `leaveTape`, which mutes (`leftBehind`). -/

namespace Sys2Proof.Machine

variable {j k : Transport} {s : State}

/-- `mutedLaw`, of a Transport (R104, R105). -/
def Muted (k : Transport) : Prop := k.state ≠ .playing → k.gain = 0 ∧ k.endFade = .idle

theorem mutedLaw_iff (s : State) : mutedLaw s ↔ Muted s.transport := Iff.rfl

/-- From the Transport `j` to `k`: muted as the law says, and with the reel count in 16 bits, if `j` was. -/
structure Hushed (j k : Transport) : Prop where
  muted : Muted j → Muted k
  reel : j.reel ≤ 65535 → k.reel ≤ 65535

theorem Hushed.refl (k : Transport) : Hushed k k := ⟨id, id⟩

/-! ### Leaving a state and coming to rest -/

/-- A Transport after its state is left, before another is entered: out of PLAYING it is muted and its end fade over (R104,
R105). -/
def leftBehind (k : Transport) : Transport :=
  { k with
    gain := if k.state = .playing then 0 else k.gain
    endFade := if k.state = .playing then .idle else k.endFade }

theorem leftBehind_still (h : k.state ≠ .playing) : leftBehind k = k := by simp [leftBehind, h]

@[simp] theorem leaveTape_transport (s : State) : (leaveTape s).transport = leftBehind s.transport :=
  (leaveTape_tapeOnly s).2

@[simp] theorem brakeTo_transport (d : PendingDest) (s : State) : (brakeTo d s).transport =
    { leftBehind s.transport with
      state := .stopping, dest := some d, dir := brakeDir s.transport.state, brakeTimer := some 0, stallTimer := none } :=
  (brakeTo_tapeOnly d s).2

@[simp] theorem restEvent_transport (s : State) : (restEvent s).transport = { s.transport with backMark := false } := by
  unfold restEvent
  split
  · simp
  · next h => simp [← Bool.eq_false_iff.mpr h]

@[simp] theorem seekEndHanded_transport (k : Seek) (s : State) :
    (seekEndHanded k s).transport = { s.transport with backMark := false } := by
  unfold seekEndHanded
  dsimp only
  repeat' split
  all_goals simp

@[simp] theorem endSeek_transport (o r : Reason) (s : State) :
    (endSeek o r s).transport = { s.transport with seek := none } := by
  obtain ⟨l, t, h, -⟩ := endSeek_spec o r s
  rw [h]

/-- A Transport at rest in a state, its seek ended and its backward mark clear (R89, R95, R102). -/
def atRest (st : TapeState) (k : Transport) : Transport :=
  { k with
    state := st, dest := none, dir := .still, brakeTimer := none, stallTimer := none, backMark := false }

theorem enterStopped_transport (c : Reason) (e : TapeEnds) (s : State) :
    (enterStopped c e s).transport = { atRest .stopped (leftBehind s.transport) with seek := none } := by
  unfold enterStopped seekReached
  dsimp only
  split
  · simp [stillIn, atRest]
  · next h => simp [stillIn, atRest, leftBehind, h]

theorem enterPaused_transport (c : Reason) (e : TapeEnds) (s : State) :
    (enterPaused c e s).transport = atRest .paused (leftBehind s.transport) := by
  simp [enterPaused, stillIn, atRest]

section Law

variable (h : Hushed j k)
include h

/-- Whatever state is entered next, a Transport left behind is muted. -/
theorem Hushed.leave {l : Transport} (gain : l.gain = (leftBehind k).gain) (fade : l.endFade = (leftBehind k).endFade)
    (reel : k.reel ≤ 65535 → l.reel ≤ 65535) : Hushed j l where
  muted law _ := by
    rw [gain, fade]
    by_cases hs : k.state = .playing
    · simp [leftBehind, hs]
    · rw [leftBehind_still hs]
      exact h.muted law hs
  reel := reel ∘ h.reel

/-- Nothing of the law is read from the other fields. -/
theorem Hushed.same {l : Transport} (state : l.state = k.state) (gain : l.gain = k.gain) (fade : l.endFade = k.endFade)
    (reel : l.reel = k.reel) : Hushed j l where
  muted law hs := by
    rw [gain, fade]
    exact h.muted law (state ▸ hs)
  reel := reel ▸ h.reel

/-- PLAYING is never muted. -/
theorem Hushed.play {l : Transport} (state : l.state = .playing) (reel : l.reel = k.reel) : Hushed j l where
  muted _ hs := absurd state hs
  reel := reel ▸ h.reel

end Law

section Entries

variable (h : Hushed j s.transport)
include h

theorem setPending_hushed (d : PendingDest) : Hushed j (setPending d s).transport := h.same rfl rfl rfl rfl

theorem brakeTo_hushed (d : PendingDest) : Hushed j (brakeTo d s).transport := by
  rw [brakeTo_transport]
  exact h.leave rfl rfl id

@[simp] theorem enterStopped_hushed (c : Reason) (e : TapeEnds) : Hushed j (enterStopped c e s).transport := by
  rw [enterStopped_transport]
  exact h.leave rfl rfl id

theorem enterPaused_hushed (c : Reason) (e : TapeEnds) : Hushed j (enterPaused c e s).transport := by
  rw [enterPaused_transport]
  exact h.leave rfl rfl id

@[simp] theorem leaderInRewind_hushed : Hushed j (leaderInRewind s).transport := by
  unfold leaderInRewind
  split
  · rw [reportTape_transport]
    exact brakeTo_hushed (s := { s with transport.reel := 0, transport.zeroKnown := true })
      ⟨h.muted, fun _ => Nat.zero_le _⟩ _
  · exact h

theorem driveTape_hushed (st : TapeState) (d : CountDir) : Hushed j (driveTape st d (leaveTape s)).transport :=
  h.leave (by simp [driveTape]) (by simp [driveTape]) (by simp [leftBehind])

@[simp] theorem enterRewinding_hushed (c : Reason) (e : TapeEnds) : Hushed j (enterRewinding c e s).transport :=
  leaderInRewind_hushed (by
    rw [reportTape_transport]
    exact (driveTape_hushed h .rewinding .backward).same rfl rfl rfl rfl)

@[simp] theorem enterShow_hushed (q : MotionReq) (src : MotionSource) (e : TapeEnds) :
    Hushed j (enterShow q src e s).transport := by
  unfold enterShow
  split
  · exact enterRewinding_hushed h _ _
  · exact h

end Entries

/-! ### Motion requests -/

/-- A taken motion request mutes when the entries it may make do. -/
theorem moveTape_hushed {enter : MotionReq → MotionSource → TapeEnds → State → State}
    (he : ∀ q src e (u : State), Hushed j u.transport → Hushed j (enter q src e u).transport)
    (req : MotionReq) (source : MotionSource) (tag : Option Byte) (h : Hushed j s.transport) :
    Hushed j (moveTape enter req source tag s).2.transport := by
  have sought : Hushed j { s.transport with seek := if source = .seek then s.transport.seek else none } :=
    h.same rfl rfl rfl rfl
  have braked (d : PendingDest) := brakeTo_hushed (s := { s with
    transport.seek := if source = .seek then s.transport.seek else none }) sought d
  unfold moveTape
  dsimp only
  split
  · simpa using sought
  · split
    · rw [reportEnds_transport]
      exact setPending_hushed (s := { s with transport := _ }) sought _
    · exact he _ _ _ _ sought
    · exact he _ _ _ _ sought
    · split
      · exact enterPaused_hushed (s := { s with transport := _ }) sought _ _
      · simpa only [reportTape_transport] using braked _
    · split
      · exact he _ _ _ _ sought
      · simpa only [reportTape_transport] using braked _
    · simpa only [reportTape_transport] using braked _
    · simpa only [reportTape_transport] using braked _

theorem takeMotion_hushed {enter : MotionReq → MotionSource → TapeEnds → State → State} {hand cut : State → State}
    (he : ∀ q src e (u : State), Hushed j u.transport → Hushed j (enter q src e u).transport)
    (hh : ∀ u : State, (hand u).transport = u.transport)
    (hc : ∀ u : State, Hushed j u.transport → Hushed j (cut u).transport)
    (req : MotionReq) (source : MotionSource) (tag : Option Byte) (h : Hushed j s.transport) :
    Hushed j (takeMotion enter hand cut req source tag s).2.transport := by
  have moved := moveTape_hushed he req source tag h
  rw [← hh] at moved
  unfold takeMotion
  dsimp only
  split
  · exact hc _ moved
  · exact moved

theorem showMotion_hushed {cut : State → State} (hc : ∀ u : State, Hushed j u.transport → Hushed j (cut u).transport)
    (req : MotionReq) (h : Hushed j s.transport) : Hushed j (showMotion cut req s).2.transport := by
  unfold showMotion
  split
  · split <;> simpa using h
  · exact takeMotion_hushed (fun _ _ _ _ g => enterShow_hushed g _ _ _) (fun _ => handMotion_transport ..) hc _ _ _ h

/-! ### The end of the audio fade and the end sequence -/

@[simp] theorem audioFadeEnd_hushed (h : Hushed j s.transport) : Hushed j (audioFadeEnd s).transport := by
  have stopped : Hushed j (fadeEndStop s).transport := by
    unfold fadeEndStop
    split
    · exact showMotion_hushed (fun _ => id) _ h
    · exact h
  have rewound := showMotion_hushed (s := { fadeEndStop s with cueLog.phase := .rewinding }) (cut := id) (fun _ => id)
    .rewind stopped
  unfold audioFadeEnd fadeEndsWith
  dsimp only
  split
  · split
    · split
      · next hq => simpa [hq] using rewound
      · next hq => simpa [hq] using rewound
    · exact stopped
  · exact h

@[simp] theorem cutIf_hushed (b : Bool) (h : Hushed j s.transport) : Hushed j (cutIf b s).transport := by
  unfold cutIf
  split
  · exact audioFadeEnd_hushed h
  · exact h

@[simp] theorem requestEndFade_hushed (h : Hushed j s.transport) : Hushed j (requestEndFade s).transport := by
  unfold requestEndFade
  split
  · next hs _ =>
    split
    · exact audioFadeEnd_hushed (h.play hs rfl)
    · exact h.play hs rfl
  · exact h
  · exact audioFadeEnd_hushed h

@[simp] theorem endSequence_hushed (h : Hushed j s.transport) : Hushed j (endSequence s).transport := by
  unfold endSequence
  split
  · exact requestEndFade_hushed (by simpa using h)
  · exact h

@[simp] theorem endFadeAdvance_hushed (h : Hushed j s.transport) : Hushed j (endFadeAdvance s).transport := by
  unfold endFadeAdvance
  split
  · next hs _ =>
    split
    · exact h.play hs rfl
    · exact audioFadeEnd_hushed (h.play hs rfl)
  · exact h

@[simp] theorem showPause_hushed (h : Hushed j s.transport) : Hushed j (showPause s).transport :=
  showMotion_hushed (fun _ => audioFadeEnd_hushed) _ h

/-! ### Removal, insertion, stall, STANDBY -/

/-- A tape is put in where there was none, at count 0 (R90). -/
@[simp] theorem insertCassette_hushed (h : Hushed j s.transport) : Hushed j (insertCassette s).transport := by
  unfold insertCassette
  dsimp only
  split
  · next hs =>
    rw [sleepTest_transport, reportTape_transport]
    exact ⟨fun law _ => h.muted law (by simp [hs]), fun _ => Nat.zero_le _⟩
  · exact h.same rfl rfl rfl rfl

@[simp] theorem removeCassette_hushed (h : Hushed j s.transport) : Hushed j (removeCassette s).transport := by
  have left (u : State) (hu : u.transport = (leaveTape (endSeek .cancelled .noTape s)).transport) :
      Hushed j { (stillIn .noTape u).transport with cassette := false, reel := 0, zeroKnown := false, backMark := false } := by
    rw [stillIn, hu]
    exact h.leave (by simp [leftBehind]) (by simp [leftBehind]) fun _ => Nat.zero_le _
  unfold removeCassette
  dsimp only
  split
  · exact h.same rfl rfl rfl rfl
  · rw [sleepTest_transport, reportTape_transport, clearSeekCue_transport, endLoop_transport]
    refine left _ ?_
    split <;> simp

@[simp] theorem tapeStalls_hushed (h : Hushed j s.transport) : Hushed j (tapeStalls s).transport := by
  have stopped : Hushed j (endSeek .failed .tapeStall (raiseFault .tapeStall none
      (restEvent (stillIn .stopped (leaveTape s))))).transport :=
    h.leave (by simp [stillIn]) (by simp [stillIn]) (by simp [leftBehind])
  unfold tapeStalls
  dsimp only
  split
  case h_4 => exact h
  all_goals simpa only [sleepTest_transport, reportTape_transport, clearSeekCue_transport, endLoop_transport] using
    cutIf_hushed _ stopped

@[simp] theorem tapeStandby_hushed (h : Hushed j s.transport) : Hushed j (tapeStandby s).transport := by
  have sought : Hushed j { s.transport with seek := none } := h.same rfl rfl rfl rfl
  have braked (b : Bool) (c : Reason) (e : TapeEnds) (d : PendingDest) :
      Hushed j (cutIf b (reportTape c e (brakeTo d { s with transport.seek := none }))).transport :=
    cutIf_hushed _ (by
      rw [reportTape_transport]
      exact brakeTo_hushed (s := { s with transport.seek := none }) sought d)
  unfold tapeStandby
  dsimp only
  split
  · exact braked _ _ _ _
  · exact braked _ _ _ _
  · exact braked _ _ _ _
  · exact braked _ _ _ _
  · rw [reportEnds_transport]
    exact setPending_hushed (s := { s with transport.seek := none }) sought _
  · exact h
  · exact h

/-! ### Forward motion -/

@[simp] theorem leaderAhead_hushed (h : Hushed j s.transport) : Hushed j (leaderAhead s).transport := by
  have braked := brakeTo_hushed (s := { s with transport.seek := none }) (h.same rfl rfl rfl rfl)
    { dest := .stopped, source := .tapeEnd, tag := none }
  unfold leaderAhead tapeEnds
  split
  · exact cutIf_hushed _ (endSequence_hushed (by
      simpa only [clearSeekCue_transport, give_transport, reportTape_transport] using braked))
  · exact h

@[simp] theorem enterPlaying_hushed (src : MotionSource) (c : Reason) (e : TapeEnds) (h : Hushed j s.transport) :
    Hushed j (enterPlaying src c e s).transport :=
  leaderAhead_hushed (by
    rw [reportTape_transport, playingHanded_transport, restEvent_transport]
    exact h.play rfl (by simp [leftBehind]))

@[simp] theorem enterWinding_hushed (c : Reason) (e : TapeEnds) (h : Hushed j s.transport) :
    Hushed j (enterWinding c e s).transport :=
  leaderAhead_hushed (by
    rw [reportTape_transport]
    exact driveTape_hushed h .winding .forward)

@[simp] theorem enterNow_hushed (q : MotionReq) (src : MotionSource) (e : TapeEnds) (h : Hushed j s.transport) :
    Hushed j (enterNow q src e s).transport := by
  cases q <;> simp [enterNow, h]

@[simp] theorem takeRequest_hushed (q : MotionReq) (src : MotionSource) (t : Option Byte) (h : Hushed j s.transport) :
    Hushed j (takeRequest q src t s).2.transport :=
  takeMotion_hushed (fun _ _ _ _ => enterNow_hushed _ _ _) (fun _ => handMotion_transport ..)
    (fun _ => audioFadeEnd_hushed) _ _ _ h

@[simp] theorem hostMotion_hushed (q : MotionReq) (t : Byte) (h : Hushed j s.transport) :
    Hushed j (hostMotion q t s).2.transport := by
  unfold hostMotion
  split <;> simp [h]

@[simp] theorem keyMotion_hushed (k : Key) (r : Remote) (q : MotionReq) (h : Hushed j s.transport) :
    Hushed j (keyMotion k r q s).transport := by
  unfold keyMotion
  repeat' split
  all_goals simp [h]

@[simp] theorem ownPlay_hushed (src : MotionSource) (h : Hushed j s.transport) :
    Hushed j (ownPlay src s).2.transport := by
  unfold ownPlay
  split
  · simpa using h
  · refine takeMotion_hushed (fun _ _ _ _ => enterNow_hushed _ _ _) (fun u => ?_) (fun _ => audioFadeEnd_hushed) _ _ _ h
    split
    · rfl
    · exact handMotion_transport ..

@[simp] theorem continueHold_hushed (h : Hushed j s.transport) : Hushed j (continueHold s).transport := by
  have played := ownPlay_hushed (s := { s with program.hold := none }) .show_ h
  unfold continueHold
  dsimp only
  repeat' split
  all_goals first
    | exact h
    | exact played

/-! ### Seeks -/

@[simp] theorem playAfter_hushed (k : Seek) (h : Hushed j s.transport) : Hushed j (playAfter k s).transport := by
  unfold playAfter
  split
  · exact ownPlay_hushed _ h
  · exact h

@[simp] theorem seekDue_hushed (k : Seek) (h : Hushed j s.transport) : Hushed j (seekDue k s).transport := by
  have sought (k' : Option Seek) : Hushed j { s.transport with seek := k' } := h.same rfl rfl rfl rfl
  unfold seekDue
  repeat' split
  all_goals simp [sought]

theorem beginSeek_hushed {hand : State → State} (hh : ∀ u : State, (hand u).transport = u.transport) (k : Seek)
    (h : Hushed j s.transport) : Hushed j (beginSeek hand k s).2.transport := by
  have sought : Hushed j { s.transport with seek := some k } := h.same rfl rfl rfl rfl
  have braked (d : PendingDest) := brakeTo_hushed (s := { s with transport.seek := some k }) sought d
  unfold beginSeek
  dsimp only
  split
  · rw [hh]
    exact seekDue_hushed _ (by simpa using sought)
  · rw [hh]
    exact seekDue_hushed _ (by simpa using sought)
  · rw [hh, reportEnds_transport]
    exact setPending_hushed (s := { s with transport.seek := some k }) sought _
  all_goals exact cutIf_hushed _ (by simpa only [hh, reportTape_transport] using braked _)

@[simp] theorem hostSeek_hushed (n : Nat) (t : Byte) (h : Hushed j s.transport) :
    Hushed j (hostSeek n t s).2.transport := by
  unfold hostSeek
  split
  · simpa using h
  · exact beginSeek_hushed (fun _ => handMotion_transport ..) _ h

@[simp] theorem seekCueBody_hushed (n : Nat) (h : Hushed j s.transport) : Hushed j (seekCueBody n s).2.transport := by
  unfold seekCueBody
  split
  · exact h
  · exact beginSeek_hushed (fun _ => rfl) _ (by simpa using h)

/-! ### The end of the brake, the leader, the end of a chase -/

@[simp] theorem brakeEnds_hushed (h : Hushed j s.transport) : Hushed j (brakeEnds s).transport := by
  unfold brakeEnds enterPending
  dsimp only
  repeat' split
  all_goals simp [h]

@[simp] theorem leaderChanges_hushed (b : Bool) (h : Hushed j s.transport) : Hushed j (leaderChanges b s).transport :=
  leaderAhead_hushed (leaderInRewind_hushed h)

@[simp] theorem chaseComplete_hushed (o : Option ChaseOwner) (h : Hushed j s.transport) :
    Hushed j (chaseComplete o s).transport := by
  unfold chaseComplete
  split
  · have played := ownPlay_hushed (s := clearSeekCue s) .seek h
    dsimp only
    repeat' split
    all_goals first
      | exact h
      | exact played
  · split
    · have played := ownPlay_hushed (s := withDarkTest programLight { s with cueLog.phase := .idle, cueLog.restart := false })
        .restart (by simpa using h)
      dsimp only
      split
      · next hq => simpa [hq] using played
      · next hq => simpa [hq] using played
    · exact h
  · exact h

@[simp] theorem settleEnds_hushed (h : Hushed j s.transport) : Hushed j (settleEnds s).transport := by
  unfold settleEnds
  split
  · dsimp only
    rw [startReady_transport, sleepTest_transport, toIdle_transport]
    split <;> simp [h]
  · exact h

/-! ### Cues -/

@[simp] theorem takeHold_hushed (h : Hushed j s.transport) : Hushed j (takeHold s).transport := by
  unfold takeHold
  dsimp only
  repeat' split
  all_goals simp [h]

@[simp] theorem takeAction_hushed (k : CueKind) (i : Nat) (a : Action) (h : Hushed j s.transport) :
    Hushed j (takeAction k i a s).transport := by
  cases a <;> simp [takeAction, h]

@[simp] theorem takeActions_hushed (k : CueKind) (i : Nat) (as : List Action) (h : Hushed j s.transport) :
    Hushed j (takeActions k i as s).transport := by
  induction as generalizing s with
  | nil => exact h
  | cons a as ih => exact ih (takeAction_hushed k i a h)

@[simp] theorem actOnCue_hushed (k : CueKind) (i : Nat) (h : Hushed j s.transport) :
    Hushed j (actOnCue k i s).transport := by
  unfold actOnCue
  repeat' split
  all_goals simp [h]

@[simp] theorem takeCue_hushed (k : CueKind) (o : Origin) (i r : Option Nat) (h : Hushed j s.transport) :
    Hushed j (takeCue k o i r s).transport := by
  unfold takeCue
  dsimp only
  split <;> simp [h]

@[simp] theorem handCue_hushed (k : CueKind) (o : Origin) (i : Option Nat) (r : Nat) (h : Hushed j s.transport) :
    Hushed j (handCue k o i r s).transport := by
  unfold handCue
  split <;> simp [h]

@[simp] theorem logCue_hushed (k : CueKind) (h : Hushed j s.transport) : Hushed j (logCue k s).transport := by
  unfold logCue
  dsimp only
  repeat' split
  all_goals simp [h]

@[simp] theorem takeAllMissed_hushed (n : Nat) (b : Bool) (es : List LogEntry) (h : Hushed j s.transport) :
    Hushed j (takeAllMissed n b es s).transport := by
  induction es generalizing s with
  | nil => exact h
  | cons e es ih =>
    refine ih ?_
    unfold takeMissed
    split <;> simp [h]

theorem countReel_le (d : CountDir) {n : Nat} (h : n ≤ 65535) : countReel d n ≤ 65535 := by
  cases d <;> simp only [countReel] <;> omega

@[simp] theorem reelPulse_hushed (h : Hushed j s.transport) : Hushed j (reelPulse s).transport := by
  have stops {u : State} (g : Hushed j u.transport) : Hushed j (seekStops u).transport := by
    have stopped : Hushed j (stopSeek u).transport := by
      rw [stopSeek, reportTape_transport]
      exact brakeTo_hushed g _
    unfold seekStops
    repeat' split
    all_goals first
      | exact g
      | exact stopped
  have counted : Hushed j { s.transport with
      reel := countReel s.transport.dir s.transport.reel, stallTimer := s.transport.stallTimer.map fun _ => 0 } :=
    ⟨h.muted, countReel_le _ ∘ h.reel⟩
  unfold reelPulse missedTest
  dsimp only
  refine stops ?_
  repeat' split
  · exact counted
  · exact takeAllMissed_hushed _ _ _ counted
  · exact counted

@[simp] theorem analyse_hushed (l1 l2 l3 : Byte) (h : Hushed j s.transport) : Hushed j (analyse l1 l2 l3 s).transport := by
  unfold analyse recogniserStep candidateAt recognised
  dsimp only
  repeat' split
  all_goals simp [h]

@[simp] theorem relayFrameTaken_hushed (w : BitVec 14) (h : Hushed j s.transport) :
    Hushed j (relayFrameTaken w s).transport := by
  unfold relayFrameTaken lineCue
  dsimp only
  repeat' split
  all_goals simp [h]

@[simp] theorem injectCueBody_hushed (c : Byte) (h : Hushed j s.transport) : Hushed j (injectCueBody c s).2.transport := by
  unfold injectCueBody
  repeat' split
  all_goals simp [h]

end Sys2Proof.Machine
end

section
/-! ## Every step mutes the audio outside PLAYING (R104, R105, R89) -/

namespace Sys2Proof.Machine

variable {j : Transport} {s t : State}

/-! ### Power states and remotes -/

@[simp] theorem enterStandby_hushed (h : Hushed j s.transport) : Hushed j (enterStandby s).transport :=
  tapeStandby_hushed (by simpa using h)

@[simp] theorem powerModeTo_hushed (m : PowerState) (b : Byte) (h : Hushed j s.transport) :
    Hushed j (powerModeTo m b s).2.transport := by
  unfold powerModeTo sleepFromActive
  dsimp only
  repeat' split
  all_goals simp [h]

@[simp] theorem powerKeyToggles_hushed (h : Hushed j s.transport) : Hushed j (powerKeyToggles s).transport := by
  unfold powerKeyToggles
  split <;> simp [h]

@[simp] theorem powerKeyHeld_hushed (h : Hushed j s.transport) : Hushed j (powerKeyHeld s).transport := by
  unfold powerKeyHeld
  dsimp only
  repeat' split
  all_goals simp [h]

@[simp] theorem holdKey_hushed (h : Hushed j s.transport) : Hushed j (holdKey s).transport := by
  unfold holdKey
  split <;> simp [h]

@[simp] theorem playKey_hushed (r : Remote) (h : Hushed j s.transport) : Hushed j (playKey r s).transport := by
  unfold playKey
  split <;> simp [h]

@[simp] theorem keyAction_hushed (r : Remote) (n : Nat) (k : Key) (h : Hushed j s.transport) :
    Hushed j (keyAction r n k s).transport := by
  cases k <;> simp [keyAction, h]

@[simp] theorem pressActs_hushed (r : Remote) (n : Nat) (k : Key) (h : Hushed j s.transport) :
    Hushed j (pressActs r n k s).transport := by
  unfold pressActs
  dsimp only
  repeat' split
  all_goals exact keyAction_hushed _ _ _ (by simpa using h)

@[simp] theorem press_hushed (r : Remote) (n : Nat) (k : Key) (b : Bool) (h : Hushed j s.transport) :
    Hushed j (press r n k b s).transport := by
  unfold press
  dsimp only
  repeat' split
  all_goals simp [h]

@[simp] theorem release_hushed (r : Remote) (h : Hushed j s.transport) : Hushed j (release r s).transport := by
  unfold release releaseActs
  repeat' split
  all_goals simp [h]

@[simp] theorem powerHeldOn_hushed (h : Hushed j s.transport) : Hushed j (powerHeldOn s).transport := by
  unfold powerHeldOn
  repeat' split
  all_goals simp [h]

@[simp] theorem irFrameTaken_hushed (w : BitVec 16) (h : Hushed j s.transport) :
    Hushed j (irFrameTaken w s).transport := by
  unfold irFrameTaken wakeIfAsleep irKeyFrame
  dsimp only
  repeat' split
  all_goals simp [h]

@[simp] theorem bandChanges_hushed (b : Band) (h : Hushed j s.transport) : Hushed j (bandChanges b s).transport := by
  unfold bandChanges
  dsimp only
  split <;> simp [h]

@[simp] theorem ladderSampled_hushed (n : Nat) (h : Hushed j s.transport) : Hushed j (ladderSampled n s).transport := by
  unfold ladderSampled bandSample
  repeat' split
  all_goals simp [h]

/-! ### Resets and requests -/

/-- A hardware reset leaves a muted Transport at count 0 (R108). -/
theorem hardReset_hushed (pins : Pins) (n : Nat) : Hushed j (hardReset pins n s).transport := by
  simp only [hardReset, evalFan_transport, evalPermission_transport, evalCeiling_transport, raiseIf_transport]
  exact ⟨fun _ _ => ⟨rfl, rfl⟩, fun _ => Nat.zero_le _⟩

/-- A soft reset mutes the Transport in every state (R108). -/
theorem softResetAll_hushed (b : Bool) (h : Hushed j s.transport) : Hushed j (softResetAll b s).transport := by
  have muted (u : State) (hu : u.transport = s.transport) : Hushed j (softTransport u).transport := by
    unfold softTransport
    dsimp only
    rw [hu]
    repeat' split
    all_goals exact ⟨fun _ _ => ⟨rfl, rfl⟩, h.reel⟩
  have soft : (softResetAll b s).transport =
      (softTransport (softProgram b { s with decoder := Decoder.reset, remote := RemoteRx.reset })).transport := by
    simp [softResetAll, softTrace, softLink, softHeat, softChanger]
  rw [soft]
  exact muted _ rfl

/-- A write of VOLUME reaches the gain in PLAYING alone (R104). -/
theorem writeVolume_hushed (n : Nat) (h : Hushed j s.transport) : Hushed j (writeVolume n s).transport := by
  unfold writeVolume
  dsimp only
  split
  · next hs => exact h.play hs.1 rfl
  · exact h.same rfl rfl rfl rfl

theorem setItemBody_hushed (n v : Nat) (h : Hushed j s.transport) : Hushed j (setItemBody n v s).2.transport := by
  have written {u : State} (hw : writeItem n v s = some u) : Hushed j u.transport := by
    unfold writeItem writeEnum at hw
    split at hw
    all_goals first
      | (obtain ⟨b, -, rfl⟩ := Option.map_eq_some_iff.mp hw)
      | (cases hw)
    all_goals first
      | exact h
      | exact writeVolume_hushed v h
      | simpa [writeThreshold, writeShowLoop, apply_ite State.transport] using h
  unfold setItemBody
  split
  · next hw => exact written hw
  · exact h

/-! ### Every command -/

theorem next_hushed {u : State} (hn : (.next u : Result) = .next t) (h : Hushed j u.transport) : Hushed j t.transport := by
  cases hn
  exact h

theorem next_transport {u : State} (hn : (.next u : Result) = .next t) (h : u.transport = s.transport) :
    Hushed s.transport t.transport := next_hushed hn (h ▸ .refl _)

theorem request_next_hushed {k : Byte} {n : Nat} {hd : Hdr} {body : State → Answer × State}
    (hn : (.next (request k n hd body s) : Result) = .next t)
    (hb : ∀ u : State, Hushed s.transport u.transport → Hushed s.transport (body u).2.transport) :
    Hushed s.transport t.transport := by
  refine next_hushed hn ?_
  unfold request serve served
  split
  · exact .refl _
  · dsimp only
    rw [withThermal_transport, fillReply_transport]
    split
    · exact hb _ (by simpa using .refl _)
    · simpa using Hushed.refl s.transport

theorem request_next_transport {k : Byte} {n : Nat} {hd : Hdr} {body : State → Answer × State}
    (hn : (.next (request k n hd body s) : Result) = .next t) (hb : ∀ u : State, (body u).2.transport = u.transport) :
    Hushed s.transport t.transport := request_next_hushed hn fun u hu => hb u ▸ hu

theorem thermal_next_hushed {f : State → State} (hn : (.next (withThermal f s) : Result) = .next t)
    (hf : Hushed s.transport s.transport → Hushed s.transport (f s).transport) : Hushed s.transport t.transport :=
  next_hushed hn (by simpa using hf (.refl _))

theorem unlessRefused_transport {r : State → Option Reason} {f : State → State}
    (hf : ∀ u : State, (f u).transport = u.transport) (u : State) : (unlessRefused r f u).2.transport = u.transport := by
  unfold unlessRefused
  split
  · rfl
  · exact hf u

theorem execFrameSent_hushed (h : execFrameSent s = .next t) : Hushed s.transport t.transport := by
  cases h
  split
  · split
    · exact softResetAll_hushed _ (.refl _)
    · exact .refl _
  · exact .refl _

/-- Every command keeps the audio muted outside PLAYING, and the reel count in 16 bits. -/
theorem exec_hushed (i : Instr) (h : exec i s = .next t) : Hushed s.transport t.transport := by
  cases i with
  | powerOn pins => exact next_hushed h (hardReset_hushed _ _)
  | resetLine pins => exact next_hushed h (hardReset_hushed _ _)
  | softReset service => exact next_hushed h (softResetAll_hushed _ (.refl _))
  | linkByteTimeout => exact next_transport h (by split <;> rfl)
  | frameReject kind tag checkOk =>
    exact next_transport h (by repeat' split
                               all_goals simp)
  | frameOverrun => exact next_transport h (by split <;> rfl)
  | frameSent => exact execFrameSent_hushed h
  | identify hd => exact request_next_transport h fun u => rfl
  | readStatus hd => exact request_next_transport h fun u => rfl
  | getItem hd item => exact request_next_transport h fun u => getItemBody_transport u _
  | setItem hd item value => exact request_next_hushed h fun u => setItemBody_hushed _ _
  | reset hd => exact request_next_transport h fun u => rfl
  | faultClear hd code => exact request_next_transport h fun u => faultClearBody_transport u _
  | setNoticeMask hd mask => exact request_next_transport h fun u => rfl
  | powerMode hd mode =>
    exact request_next_hushed h fun u hu => by
      unfold powerModeBody
      split <;> simp [hu]
  | step hd n => exact request_next_transport h fun u => stepBody_transport u _ _
  | goto hd slot => exact request_next_transport h fun u => gotoBody_transport u _ _
  | pauseMove hd => exact request_next_transport h pauseCycle_transport
  | continueMove hd => exact request_next_transport h continueCycle_transport
  | abortMoves hd => exact request_next_transport h abortAll_transport
  | markSlot hd slot presence hold value => exact request_next_transport h fun u => markSlotBody_transport u _ _ _ _
  | setMap hd num slots => exact request_next_transport h (unlessRefused_transport fun u => rfl)
  | getMap hd num => exact request_next_transport h fun u => getMapBody_transport u _
  | selectMap hd num => exact request_next_transport h (unlessRefused_transport fun u => rfl)
  | lampOn hd => exact request_next_transport h fun u => strike_transport u _
  | lampOff hd => exact request_next_transport h fun u => by simp [doneBy]
  | fade hd level duration => exact request_next_transport h (unlessRefused_transport fun u => by simp)
  | selectLamp hd pos => exact request_next_transport h fun u => selectLampBody_transport u _ _
  | markLamp hd pos cond => exact request_next_transport h fun u => markLampBody_transport u _ _
  | focusNudge hd dir duration => exact request_next_transport h fun u => startNudge_transport u _ _ _
  | play hd => exact request_next_hushed h fun u => hostMotion_hushed _ _
  | stop hd => exact request_next_hushed h fun u => hostMotion_hushed _ _
  | pause hd => exact request_next_hushed h fun u => hostMotion_hushed _ _
  | rewind hd => exact request_next_hushed h fun u => hostMotion_hushed _ _
  | wind hd => exact request_next_hushed h fun u => hostMotion_hushed _ _
  | seekCount hd count => exact request_next_hushed h fun u => hostSeek_hushed _ _
  | seekCue hd index => exact request_next_hushed h fun u => seekCueBody_hushed _
  | setVolume hd volume => exact request_next_hushed h fun u => writeVolume_hushed _
  | setCueSource hd source => exact request_next_transport h fun u => setCueSourceBody_transport u _
  | injectCue hd kind => exact request_next_hushed h fun u => injectCueBody_hushed _
  | reference hd => exact request_next_transport h (unlessRefused_transport fun u => rfl)
  | writeEntry hd index actions => exact request_next_transport h fun u => writeEntryBody_transport u _ _
  | deleteEntry hd index => exact request_next_transport h (unlessRefused_transport fun u => rfl)
  | readEntry hd index mode => exact request_next_transport h fun u => readEntryBody_transport u _ _
  | clearTable hd => exact request_next_transport h (unlessRefused_transport fun u => rfl)
  | readCueLog hd start => exact request_next_transport h fun u => readCueLogBody_transport u _
  | clearCueLog hd => exact request_next_transport h fun u => rfl
  | chase hd index => exact request_next_transport h (unlessRefused_transport fun u => runChase_transport u _ _)
  | timerStart hd period => exact request_next_transport h (unlessRefused_transport fun u => startTimer_transport u _)
  | timerStop hd => exact request_next_transport h stopTimer_transport
  | hold hd => exact request_next_hushed h fun u => takeHold_hushed
  | continueShow hd => exact request_next_hushed h fun u => continueHold_hushed
  | setTraceMode hd mode trigger post => exact request_next_transport h fun u => setTraceModeBody_transport u _ _ _
  | readTrace hd k => exact request_next_transport h fun u => readTraceBody_transport u _
  | protect hd item => exact request_next_transport h fun u => protectBody_transport u _
  | unprotect hd => exact request_next_transport h (unlessRefused_transport fun u => rfl)
  | lock hd state => exact request_next_transport h fun u => lockBody_transport u _
  | trayCodeChange code => exact next_transport h (by simp)
  | indexPulse mark => exact next_transport h (by simp)
  | cycleStart => exact next_transport h (by simp)
  | shutterCloseDone => exact next_transport h (by simp)
  | liftDone => exact next_transport h (by simp)
  | liftTimeout => exact next_transport h (by simp)
  | rotateStallTimeout => exact next_transport h (by simp)
  | dropPathReport => exact next_transport h (by simp)
  | dropTimeout => exact next_transport h (by simp)
  | seatReport => exact next_transport h (by simp)
  | seatTimeout => exact next_transport h (by simp)
  | settleDone => exact thermal_next_hushed h settleEnds_hushed
  | preheatEnd => exact next_transport h (by simp)
  | fadeStep current => exact next_transport h (by simp)
  | swapTravelEnd => exact next_transport h (by simp)
  | heatUpdate reading => exact next_transport h (by simp)
  | fanStallTimeout => exact next_transport h (by simp)
  | fanTachPulse => exact next_transport h (by simp)
  | tcoLineChange opened => exact next_transport h (by simp)
  | cassetteChange present =>
    exact thermal_next_hushed h fun g => by
      split
      · exact insertCassette_hushed g
      · exact removeCassette_hushed g
  | brakeEnd => exact thermal_next_hushed h brakeEnds_hushed
  | reelTachPulse => exact thermal_next_hushed h reelPulse_hushed
  | leaderChange present => exact thermal_next_hushed h (leaderChanges_hushed _)
  | tapeStallTimeout => exact thermal_next_hushed h tapeStalls_hushed
  | endFadeStep => exact thermal_next_hushed h endFadeAdvance_hushed
  | analysisFrame l1 l2 l3 => exact thermal_next_hushed h (analyse_hushed _ _ _)
  | relayOutFrameSent => exact next_transport h (by simp)
  | relayOutGapEnd => exact next_transport h (by simp)
  | relayInFrame bits => exact thermal_next_hushed h (relayFrameTaken_hushed _)
  | relayInTimingError => exact next_transport h (by simp)
  | relayConflictTimeout => exact next_transport h (by simp)
  | autoAdvanceExpiry => exact next_transport h (by simp)
  | serviceLineChange asserted => exact next_transport h rfl
  | irFrame bits => exact thermal_next_hushed h (irFrameTaken_hushed _)
  | irReleaseTimeout => exact thermal_next_hushed h (release_hushed _)
  | ladderBandChange band =>
    exact thermal_next_hushed h fun g => by
      split
      · exact g
      · exact bandChanges_hushed _ g
  | keyRepeat remote => exact next_transport h (by simp)
  | entryWindowExpiry => exact next_transport h (by simp)
  | powerHoldTimeout => exact thermal_next_hushed h powerHeldOn_hushed
  | focusFast => exact next_transport h (by simp)
  | focusLimit dir asserted => exact next_transport h (by simp)
  | nudgeEnd => exact next_transport h (by simp)
  | syncByte => exact next_transport h (by split <;> rfl)
  | lengthByteAbove60 => exact next_transport h (by split <;> rfl)
  | replyReady place => exact next_transport h rfl
  | irLeader => exact next_transport h (by simp)
  | irTimingError leaderMark => exact next_transport h (by simp)
  | relayInStartPulse => exact next_transport h (by simp)
  | ladderSample sample => exact thermal_next_hushed h (ladderSampled_hushed _)

end Sys2Proof.Machine

namespace Sys2Proof.Proofs

open Sys2Proof.Machine

/-- Settles O54: every way out of PLAYING mutes the audio and ends the fade (`leftBehind`, `Hushed.leave`), nothing else
raises the gain outside PLAYING, and so every command keeps the law (`exec_hushed`); a millisecond moves the timers alone. -/
theorem audioIsMutedUnlessPlaying : Obligations.AudioIsMutedUnlessPlaying := by
  intro s t hstep
  have hushed : Hushed s.transport t.transport := by
    unfold step at hstep
    split at hstep
    · next c rest _ => exact exec_hushed (s := { s with pending := rest }) c hstep
    · cases hstep
      exact ⟨id, id⟩
  exact ⟨by simpa only [mutedLaw_iff] using hushed.muted, hushed.reel⟩

end Sys2Proof.Proofs
end

section
/-! ## Entries of the Transport as one report behind one write (R89, R92, R93, R95)

Out of a state that is left without a trace, at rest outside a loop's rewind, and with no leader ahead, each entry is one write
and its TAPE report. -/

namespace Sys2Proof.Machine

variable {l : Link} {s u w : State}

/-! ### What a state that is left leaves behind -/

/-- A state left other than PLAYING, and PAUSED with no hold, leaves nothing behind (R104, R109, R151). -/
theorem leaveTape_still (hs : s.transport.state ≠ .playing) (hh : s.transport.state = .paused → s.program.hold = none) :
    leaveTape s = s := by
  unfold leaveTape unmarkTapeHeld
  split
  · contradiction
  · next hp =>
    have absent : s.program.hold.map (fun m => { m with tapeHeld := false }) = s.program.hold := by rw [hh hp]; rfl
    rw [absent]
  · rfl

/-- The Cue Decoder after a state is left: out of PLAYING it is quiet (R109). -/
def leftDecoder (s : State) : Decoder :=
  if s.transport.state = .playing then
    { s.decoder with recogniser := .quiet, burstLen := 0, gapCount := 0, snap := false }
  else s.decoder

/-- Behind a cleared fault the link is as reports leave it, but for the fault word (R191). -/
theorem clearFault_reports (f : FaultKind) (s : State) :
    Reports { s.link with faults := (clearFault f s).link.faults } s (clearFault f s) := by
  by_cases hf : hasFault f s = true
  · have given := (give_reports (.fault f false none) { s with link.faults := s.link.faults &&& ~~~(faultMask f) })
    obtain ⟨m, c, e, hm⟩ := given.trans (recordFault_reports (.faultCleared f none) (triggerHolds s) _)
    have cleared : clearFault f s = { s with link := m, trace := c } := by
      rw [clearFault, if_pos hf]
      exact e
    rw [cleared]
    exact ⟨m, c, rfl, rfl, hm.mask, hm.clock, hm.flags, hm.newest⟩
  · rw [clearFault_absent (by simpa using hf)]
    exact .refl s

theorem leaveTape_reports (hh : s.program.hold = none) :
    Reports { s.link with faults := (leaveTape s).link.faults }
      { s with transport := leftBehind s.transport, decoder := leftDecoder s } (leaveTape s) := by
  by_cases hs : s.transport.state = .playing
  · have left : leaveTape s = clearFault .stuckTone
        { s with transport := leftBehind s.transport, decoder := leftDecoder s } := by
      simp [leaveTape, hs, exitPlaying, leftBehind, leftDecoder]
    rw [left]
    exact clearFault_reports _ _
  · rw [leaveTape_still hs fun _ => hh, leftBehind_still hs, leftDecoder, if_neg hs]
    exact .refl s

/-- Out of PLAYING no tone is stuck (R104, R109). -/
theorem leaveTape_stuckTone (hs : s.transport.state = .playing) : hasFault .stuckTone (leaveTape s) = false := by
  simp only [leaveTape, hs, exitPlaying]
  exact hasFault_clearFault _ _

/-! ### Rest -/

/-- The backward mark cleared, and where it was set the cue index after a resync (R95, R135). -/
def rested (s : State) : State :=
  { s with
    transport.backMark := false
    program.cueIndex := if s.transport.backMark then resyncIndex s else s.program.cueIndex }

theorem restEvent_eq (h : s.transport.backMark = true → s.cueLog.phase ≠ .rewinding) : restEvent s = rested s := by
  unfold restEvent rested
  split
  · next hb => simp [loopRest, resync, resyncIndex, h hb]
  · next hb => rw [← Bool.eq_false_iff.mpr hb]

theorem restEvent_unmarked (h : s.transport.backMark = false) : restEvent s = s := by simp [restEvent, h]

/-! ### Reports -/

theorem reportTape_reports (c : Reason) (e : TapeEnds) (s : State) : Reports s.link s (reportTape c e s) :=
  (Reports.refl s).report _ _

theorem Reports.reportTape (h : Reports l w u) (c : Reason) (e : TapeEnds) : Reports l w (reportTape c e u) :=
  h.report _ _

@[simp] theorem reportTape_lines (c : Reason) (e : TapeEnds) (s : State) : (reportTape c e s).lines = s.lines := by
  obtain ⟨m, t, h, -⟩ := reportTape_reports c e s
  rw [h]

/-- A TAPE report sets its flag (R107, R190). -/
theorem reportTape_flag (c : Reason) (e : TapeEnds) (s : State) : (reportTape c e s).link.flags.getLsbD 14 = true :=
  report_flag (i := 14) rfl (by decide) _ _

/-- A TAPE report as the link and the trace it leaves. -/
theorem reportTape_eq (c : Reason) (e : TapeEnds) (s : State) :
    reportTape c e s = { s with link := (reportTape c e s).link, trace := (reportTape c e s).trace } := by
  obtain ⟨m, t, h, -⟩ := reportTape_reports c e s
  rw [h]

/-! ### Entries to motion -/

theorem leaderAhead_clear (h : s.lines.leader = false ∨ s.transport.reel ≤ 200) : leaderAhead s = s := by
  unfold leaderAhead
  rw [if_neg]
  rintro ⟨leader, -, far⟩
  rcases h with h | h
  · simp [h] at leader
  · omega

theorem leaderInRewind_clear (h : s.lines.leader = false) : leaderInRewind s = s := by simp [leaderInRewind, h]

/-- A Transport that plays (R89, R98, R104). -/
def playTape (volume : Nat) (k : Transport) : Transport :=
  { k with
    state := .playing, dest := none, dir := .forward, brakeTimer := none, stallTimer := some 0, gain := volume
    endFade := .idle }

/-- PLAYING entered outside a loop's rewind with no leader ahead (R89, R95, R104, R106). -/
theorem enterPlaying_eq (src : MotionSource) (c : Reason) (e : TapeEnds) (hleave : leaveTape s = s)
    (hrest : s.transport.backMark = true → s.cueLog.phase ≠ .rewinding)
    (hlead : s.lines.leader = false ∨ s.transport.reel ≤ 200) :
    enterPlaying src c e s =
      reportTape c e (playingHanded src (rested { s with transport := playTape s.items.volume s.transport })) := by
  have lines : (playingHanded src (rested { s with transport := playTape s.items.volume s.transport })).lines = s.lines := by
    unfold playingHanded playFromZero
    dsimp only
    repeat' split
    all_goals rfl
  have entered := restEvent_eq (s := { s with transport := playTape s.items.volume s.transport }) hrest
  unfold enterPlaying
  rw [hleave]
  refine (congrArg (fun v => leaderAhead (reportTape c e (playingHanded src v))) entered).trans (leaderAhead_clear ?_)
  rw [reportTape_lines, lines, reportTape_transport, playingHanded_transport]
  exact hlead

/-- What an entry to PLAYING hands the Cue Log: met flags, and at tape zero the start map, the loops and the arming (R133,
R136). -/
theorem playingHanded_eq (src : MotionSource) (s : State) : playingHanded src s =
    { s with
      cueLog := { s.cueLog with
        entries := setMetFlags s.transport.reel s.items.matchWindow s.cueLog.entries
        startMap := if s.transport.reel = 0 ∧ s.transport.zeroKnown then some s.program.activeMap else s.cueLog.startMap
        armed := s.cueLog.armed || (decide ((s.transport.reel = 0 ∧ s.transport.zeroKnown) ∧ s.cueLog.phase = .idle
          ∧ src ≠ .restart) && s.items.showLoop) }
      program.loops := if (s.transport.reel = 0 ∧ s.transport.zeroKnown) ∧ s.cueLog.phase = .idle ∧ src ≠ .restart
        then s.items.loopCount else s.program.loops } := by
  unfold playingHanded playFromZero
  dsimp only
  split
  · next hz =>
    split
    · next hi => simp [hz, hi]
    · next hi => simp [hz, hi]
  · next hz => simp [hz]

theorem enterWinding_eq (c : Reason) (e : TapeEnds) (hleave : leaveTape s = s) (hlead : s.lines.leader = false) :
    enterWinding c e s = reportTape c e (driveTape .winding .forward s) := by
  unfold enterWinding
  rw [hleave]
  exact leaderAhead_clear (.inl (by simpa using hlead))

theorem enterRewinding_eq (c : Reason) (e : TapeEnds) (hleave : leaveTape s = s) (hlead : s.lines.leader = false) :
    enterRewinding c e s = reportTape c e { driveTape .rewinding .backward s with transport.backMark := true } := by
  unfold enterRewinding
  rw [hleave]
  exact leaderInRewind_clear (by simpa using hlead)

end Sys2Proof.Machine
end

section
/-! ## The checks of the motion requests (R91) -/

namespace Sys2Proof.Machine

variable {req : MotionReq} {r : Reason} {h : Hdr} {s : State}

theorem motionRefusal_notActive (hp : s.heat.power ≠ .active) (hq : req ≠ .stop) :
    motionRefusal req s = some .notActive := by simp [motionRefusal, hp, hq]

theorem motionRefusal_noTape (hp : req ≠ .stop → s.heat.power = .active) (ht : s.transport.state = .noTape) :
    motionRefusal req s = some .notPermitted := by
  have passed : ¬ (s.heat.power ≠ .active ∧ req ≠ .stop) := fun g => g.1 (hp g.2)
  simp only [motionRefusal, if_neg passed, if_pos ht]

theorem motionRefusal_stalled (hp : req ≠ .stop → s.heat.power = .active) (ht : s.transport.state ≠ .noTape)
    (hf : hasFault .tapeStall s = true) : motionRefusal req s = some .faultActive := by
  have passed : ¬ (s.heat.power ≠ .active ∧ req ≠ .stop) := fun g => g.1 (hp g.2)
  simp only [motionRefusal, if_neg passed, if_neg ht, if_pos hf]

theorem motionRefusal_passed (hp : s.heat.power = .active) (ht : s.transport.state ≠ .noTape)
    (hf : hasFault .tapeStall s = false) :
    motionRefusal req s = if req = .pause ∧ s.transport.state ≠ .playing ∧ s.transport.state ≠ .paused
      then some .notPermitted else none := by simp [motionRefusal, hp, ht, hf]

/-- A request that passes the checks: PAUSE in PLAYING and PAUSED only (R91). -/
theorem motionRefusal_none (hp : s.heat.power = .active) (ht : s.transport.state ≠ .noTape)
    (hf : hasFault .tapeStall s = false) (hq : req = .pause → s.transport.state = .playing ∨ s.transport.state = .paused) :
    motionRefusal req s = none := by
  rw [motionRefusal_passed hp ht hf, if_neg]
  rintro ⟨rfl, hn, hn'⟩
  rcases hq rfl with h | h <;> contradiction

/-- With no loop armed a refused request of the host changes nothing; STOP is answered DONE (R91; log 42). -/
theorem hostMotion_refused (b : Byte) (hr : motionRefusal req s = some r) (ha : s.cueLog.armed = false) :
    hostMotion req b s = (if req = .stop then .done [] else .refused r, s) := by
  simp [hostMotion, hr, handMotion_unarmed _ _ _ _ ha]

theorem hostSeek_refused (n : Nat) (b : Byte) (hr : motionRefusal .seekCount s = some r) (ha : s.cueLog.armed = false) :
    hostSeek n b s = (.refused r, s) := by
  simp [hostSeek, hr, handMotion_unarmed _ _ _ _ ha]

variable (hs : servable s) (ha : s.cueLog.armed = false)
include hs ha

theorem motion_refused (k : Byte) (hl : h.len = 0) (hq : req ≠ .stop) (hr : motionRefusal req s = some r) :
    request k 0 h (hostMotion req h.tag) s = replied (k + 0x80) h.tag [2, byte1 (reasonCode r)] s :=
  request_unchanged k 0 h _ (.refused r) s hs (by simp [hl]) (by
    have refused := hostMotion_refused (s := takePlace (k + 0x80) h.tag s) h.tag hr ha
    rwa [if_neg hq] at refused)

/-- PLAY, PAUSE, REWIND and WIND refused alike. -/
theorem motions_refused (hl : h.len = 0) (hr : ∀ req, req ≠ .stop → motionRefusal req s = some r) :
    exec (.play h) s = .next (replied 0xA8 h.tag [2, byte1 (reasonCode r)] s)
      ∧ exec (.pause h) s = .next (replied 0xAA h.tag [2, byte1 (reasonCode r)] s)
      ∧ exec (.rewind h) s = .next (replied 0xAB h.tag [2, byte1 (reasonCode r)] s)
      ∧ exec (.wind h) s = .next (replied 0xAC h.tag [2, byte1 (reasonCode r)] s) :=
  have refused (k : Byte) (req : MotionReq) (hq : req ≠ .stop) := motion_refused hs ha k hl hq (hr req hq)
  ⟨next_congr (refused 0x28 .play nofun), next_congr (refused 0x2A .pause nofun),
    next_congr (refused 0x2B .rewind nofun), next_congr (refused 0x2C .wind nofun)⟩

theorem seekCount_refused {count : BitVec 16} (hl : h.len = 2) (hr : motionRefusal .seekCount s = some r) :
    exec (.seekCount h count) s = .next (replied 0xAD h.tag [2, byte1 (reasonCode r)] s) :=
  next_congr (request_unchanged 0x2D 2 h _ (.refused r) s hs (by simp [hl])
    (hostSeek_refused (s := takePlace (0x2D + 0x80) h.tag s) _ _ hr ha))

end Sys2Proof.Machine

namespace Sys2Proof.Proofs

open Sys2Proof.Machine

/-- Settles O32, check by check: with no loop armed what R91 refuses changes nothing (`hostMotion_refused`). -/
theorem motionRequestsAreChecked : Obligations.MotionRequestsAreChecked := by
  refine ⟨fun h s hs hl ha => ⟨fun hp => ?_, fun hp ht => ?_, fun hp ht hf => ?_, fun hp hf ht => ?_, fun ht => ?_⟩,
    fun h count s hs hl ha => ⟨fun hp => ?_, fun hp ht => ?_, fun hp ht hf => ?_⟩⟩
  · exact motions_refused hs ha hl fun _ => motionRefusal_notActive (by simp [hp])
  · exact motions_refused hs ha hl fun _ _ => motionRefusal_noTape (fun _ => hp) ht
  · exact motions_refused hs ha hl fun _ _ => motionRefusal_stalled (fun _ => hp) ht hf
  · refine next_congr (motion_refused hs ha 0x2A hl nofun (r := .notPermitted) ?_)
    rw [motionRefusal_passed hp (by rcases ht with ht | ht | ht | ht <;> simp [ht]) hf, if_pos]
    rcases ht with ht | ht | ht | ht <;> simp [ht]
  · have refused : ∃ r, motionRefusal .stop s = some r := by
      by_cases hn : s.transport.state = .noTape
      · exact ⟨_, motionRefusal_noTape nofun hn⟩
      · exact ⟨_, motionRefusal_stalled nofun hn (ht.resolve_left hn)⟩
    obtain ⟨r, hr⟩ := refused
    exact next_congr (request_unchanged 0x29 0 h _ (.done []) s hs (by simp [hl])
      (hostMotion_refused (s := takePlace (0x29 + 0x80) h.tag s) h.tag hr ha))
  · exact seekCount_refused hs ha hl (motionRefusal_notActive (by simp [hp]) nofun)
  · exact seekCount_refused hs ha hl (motionRefusal_noTape (fun _ => hp) ht)
  · exact seekCount_refused hs ha hl (motionRefusal_stalled (fun _ => hp) ht hf)

end Sys2Proof.Proofs
end

section
/-! ## Motion requests of the host: starts and brakes (R92, R93, R133, R136) -/

namespace Sys2Proof.Machine

variable {l : Link} {req : MotionReq} {b k : Byte} {a : Answer} {h : Hdr} {cmd : Instr} {s u w : State}

/-! ### A taken request -/

theorem fadeRuns_still (h : s.transport.state ≠ .playing ∨ s.transport.endFade = .idle) : fadeRuns s = false := by
  unfold fadeRuns
  split
  · next hs he => rcases h with h | h <;> simp_all
  · rfl

/-- With no end fade to cut short, a taken request moves the tape and is handed on (R91, R92, R106). -/
theorem hostMotion_taken (b : Byte) (hr : motionRefusal req s = none) (hf : fadeRuns s = false) :
    hostMotion req b s = (acceptedOr (moveTape enterNow req .host (some b) s).1,
      handMotion req .host true (moveTape enterNow req .host (some b) s).2) := by
  simp [hostMotion, hr, takeRequest, takeMotion_no_fade _ _ _ _ _ _ _ hf]

/-- A taken request clears the seek-cue record, and with no loop to end does no more: none is armed, or PLAY comes outside
REWINDING (R138, R142). -/
theorem handMotion_taken (ha : s.cueLog.armed = false ∨ req = .play ∧ s.cueLog.phase ≠ .rewinding) :
    handMotion req .host true s = clearSeekCue s := by
  rcases ha with ha | ⟨rfl, hp⟩
  · exact handMotion_unarmed _ _ _ _ ha
  · simp [handMotion, hp]

theorem Reports.handMotion (h : Reports l w u) (ha : w.cueLog.armed = false ∨ req = .play ∧ w.cueLog.phase ≠ .rewinding) :
    Reports l (clearSeekCue w) (handMotion req .host true u) := by
  obtain ⟨m, t, rfl, hm⟩ := h
  rw [handMotion_taken (by exact ha)]
  exact ⟨m, t, rfl, hm⟩

/-- The seek that a host's request ends is gone (R103). -/
def unsought (s : State) : State := { s with transport.seek := none }

theorem unsought_eq (h : s.transport.seek = none) : unsought s = s := by rw [unsought, ← h]

theorem leaveTape_stopped (h : s.transport.state = .stopped) : leaveTape s = s :=
  leaveTape_still (by simp [h]) (by simp [h])

/-- From STOPPED a request is entered at once (R92). -/
theorem moveTape_stopped {enter : MotionReq → MotionSource → TapeEnds → State → State} (tag : Option Byte)
    (hs : s.transport.state = .stopped) (hq : destState req ≠ .stopped) : moveTape enter req .host tag s =
      (false, enter req .host (replacedEnds (cancelledSeek .host s) s) (unsought s)) := by
  simp [moveTape, hs, hq.symm, unsought]

/-- From a motion state a request for another state brakes, but for PAUSE in PLAYING and PLAY in PAUSED (R92). -/
theorem moveTape_brakes {enter : MotionReq → MotionSource → TapeEnds → State → State} (tag : Option Byte)
    (hm : inMotion s.transport.state = true) (hq : s.transport.state ≠ destState req)
    (hp : s.transport.state = .playing → req ≠ .pause) (hp' : s.transport.state = .paused → req ≠ .play) :
    moveTape enter req .host tag s = (true, reportTape (causeWith (cancelledSeek .host s) .host)
      (replacedEnds (cancelledSeek .host s) s)
      (brakeTo { dest := pendingOf req, source := .host, tag := tag } (unsought s))) := by
  unfold moveTape unsought
  dsimp only
  rw [if_neg hq]
  split
  · next hs => simp [inMotion, hs] at hm
  · next hs => simp [inMotion, hs] at hm
  · next hs => simp [inMotion, hs] at hm
  · next hs => simp [hp hs]
  · next hs => simp [hp' hs]
  · simp
  · simp

/-! ### A request as a command -/

@[simp] theorem settleThermal_faults (key : FanLevel × Zone × Bool) (s : State) :
    (settleThermal key s).link.faults = s.link.faults := by
  obtain ⟨m, c, e, hf, -⟩ := settleThermal_spec key s
  rw [e]
  exact hf

@[simp] theorem fillReply_faults (p : List Byte) (s : State) : (fillReply p s).link.faults = s.link.faults := by
  unfold fillReply
  split <;> rfl

/-- Reply and THERMAL report leave the faults to the body. -/
theorem request_faults {n : Nat} {body : State → Answer × State} (hs : servable s) (hl : h.len.toNat = n)
    (hb : body (takePlace (k + 0x80) h.tag s) = (a, u)) : (request k n h body s).link.faults = u.link.faults := by
  rw [request_served k n h body s hs hl, hb, settleThermal_faults, fillReply_faults]

section Command

variable (hx : exec cmd s = .next (request k 0 h (hostMotion req h.tag) s)) (hs : servable s) (hl : h.len = 0)
include hx hs hl

/-- A motion request after which the state is `w` but for reports. -/
theorem motion_reported (hb : ∃ u, hostMotion req h.tag (takePlace (k + 0x80) h.tag s) = (a, u)
      ∧ Reports (takePlace (k + 0x80) h.tag s).link w u) :
    ∃ m c, exec cmd s = .next { w with link := m, trace := c }
      ∧ lastReply (k + 0x80) h.tag (answerPayload a) { w with link := m, trace := c }
      ∧ sameFaults s { w with link := m, trace := c } := by
  obtain ⟨u, body, reports⟩ := hb
  obtain ⟨m, c, e, reply, faults, mask, clock⟩ := request_reports (n := 0) hs (by simp [hl]) body reports
  exact ⟨m, c, hx.trans (next_congr e), reply, faults, mask, clock⟩

/-- A motion request after which the state is `w` but for reports and the fault word. -/
theorem motion_left {faults : BitVec 16} (hb : ∃ u, hostMotion req h.tag (takePlace (k + 0x80) h.tag s) = (a, u)
      ∧ Reports { (takePlace (k + 0x80) h.tag s).link with faults := faults } w u) :
    ∃ m c, exec cmd s = .next { w with link := m, trace := c }
      ∧ lastReply (k + 0x80) h.tag (answerPayload a) { w with link := m, trace := c } ∧ m.faults = faults := by
  obtain ⟨u, body, v, d, rfl, hv⟩ := hb
  have place := hv.newest { kind := k + 0x80, tag := h.tag, payload := [], ready := false } (by simp [takePlace]) rfl
  obtain ⟨m, c, e, reply⟩ := request_replies (n := 0) hs (by simp [hl]) body place
  refine ⟨m, c, hx.trans (next_congr e), reply, ?_⟩
  have kept := request_faults (k := k) (n := 0) hs (by simp [hl]) body
  rw [e] at kept
  exact kept.trans hv.faults

end Command

/-! ### Starts from STOPPED -/

section Starts

variable (hr : motionRefusal req s = none) (hs : s.transport.state = .stopped)
include hr hs

/-- A start is DONE, and leaves its entry's state without a seek-cue record. -/
theorem hostMotion_starts (hq : destState req ≠ .stopped)
    (he : Reports s.link w (enterNow req .host (replacedEnds (cancelledSeek .host s) s) (unsought s)))
    (ha : w.cueLog.armed = false ∨ req = .play ∧ w.cueLog.phase ≠ .rewinding) :
    ∃ u, hostMotion req b s = (.done [], u) ∧ Reports s.link (clearSeekCue w) u := by
  refine ⟨_, ?_, he.handMotion (req := req) ha⟩
  rw [hostMotion_taken b hr (fadeRuns_still (.inl (by simp [hs]))), moveTape_stopped _ hs hq]
  rfl

end Starts

/-- PLAY from STOPPED or PAUSED, as it leaves the state (R89, R104, R133, R136). -/
def played (s : State) : State :=
  playingHanded .host { s with transport := playTape s.items.volume s.transport }

theorem enterNow_play (e : TapeEnds) (hleave : leaveTape s = s) (hb : s.transport.backMark = false)
    (hlead : s.lines.leader = false ∨ s.transport.reel ≤ 200) :
    Reports s.link (played s) (enterNow .play .host e s) := by
  have rest : rested { s with transport := playTape s.items.volume s.transport }
      = { s with transport := playTape s.items.volume s.transport } :=
    (restEvent_eq (by simp [playTape, hb])).symm.trans (restEvent_unmarked hb)
  have link : (played s).link = s.link := by rw [played, playingHanded_eq]
  rw [enterNow, enterPlaying_eq _ _ _ hleave (by simp [hb]) hlead, rest]
  have reports := reportTape_reports (causeOf .host) e (played s)
  rw [link] at reports
  exact reports

theorem enterNow_rewind (e : TapeEnds) (hleave : leaveTape s = s) (hlead : s.lines.leader = false) :
    Reports s.link { driveTape .rewinding .backward s with transport.backMark := true } (enterNow .rewind .host e s) := by
  rw [enterNow, enterRewinding_eq _ _ hleave hlead]
  exact reportTape_reports _ _ _

theorem enterNow_wind (e : TapeEnds) (hleave : leaveTape s = s) (hlead : s.lines.leader = false) :
    Reports s.link (driveTape .winding .forward s) (enterNow .wind .host e s) := by
  rw [enterNow, enterWinding_eq _ _ hleave hlead]
  exact reportTape_reports _ _ _

/-- STOP in STOPPED clears the seek-cue record and no more (R92, R138). -/
theorem hostMotion_rests (b : Byte) (hr : motionRefusal .stop s = none) (ht : s.transport.state = .stopped)
    (hk : s.transport.seek = none) (ha : s.cueLog.armed = false) :
    hostMotion .stop b s = (.done [], clearSeekCue s) := by
  have moved : moveTape enterNow .stop .host (some b) s = (false, s) := by
    have none_ends : replacedEnds (cancelledSeek .host s) s = endsNothing := by
      simp [replacedEnds, cancelledSeek, ht, hk]
    have stays : moveTape enterNow .stop .host (some b) s =
        (false, reportEnds (causeWith (cancelledSeek .host s) .host) (replacedEnds (cancelledSeek .host s) s)
          (unsought s)) := by
      simp [moveTape, destState, ht, unsought]
    rw [stays, none_ends, unsought_eq hk]
    rfl
  rw [hostMotion_taken b hr (fadeRuns_still (.inl (by simp [ht]))), moved]
  exact congrArg (Prod.mk _) (handMotion_taken (.inl ha))

/-- A PLAY with no armed loop REWINDING has none to end (R142). -/
theorem played_unlooped (ha : s.cueLog.phase ≠ .rewinding ∨ s.cueLog.armed = false) :
    (played s).cueLog.armed = false ∨ MotionReq.play = .play ∧ (played s).cueLog.phase ≠ .rewinding := by
  rw [played, playingHanded_eq]
  by_cases hp : s.cueLog.phase = .rewinding
  · exact .inl (by simpa [hp] using ha)
  · exact .inr ⟨rfl, hp⟩

/-- PLAY from STOPPED with no leader ahead and no loop to end (R92). -/
theorem play_starts (hs : servable s) (hl : h.len = 0) (hr : motionRefusal .play s = none) (ht : s.transport.state = .stopped)
    (hb : s.transport.backMark = false) (hlead : s.lines.leader = false ∨ s.transport.reel ≤ 200)
    (ha : s.cueLog.phase ≠ .rewinding ∨ s.cueLog.armed = false) :
    ∃ m c, exec (.play h) s = .next { clearSeekCue (played (unsought (takePlace 0xA8 h.tag s))) with link := m, trace := c }
      ∧ lastReply 0xA8 h.tag [0] { clearSeekCue (played (unsought (takePlace 0xA8 h.tag s))) with link := m, trace := c }
      ∧ sameFaults s { clearSeekCue (played (unsought (takePlace 0xA8 h.tag s))) with link := m, trace := c } := by
  refine motion_reported (k := 0x28) (a := .done []) rfl hs hl (hostMotion_starts hr ht nofun
    (enterNow_play (s := unsought (takePlace 0xA8 h.tag s)) _ (leaveTape_stopped ht) hb hlead) (played_unlooped ha))

theorem rewind_starts (hs : servable s) (hl : h.len = 0) (hr : motionRefusal .rewind s = none)
    (ht : s.transport.state = .stopped) (hlead : s.lines.leader = false) (ha : s.cueLog.armed = false) :
    ∃ t, exec (.rewind h) s = .next t ∧ lastReply 0xAB h.tag [0] t ∧ sameFaults s t
      ∧ ∃ m c, t = { s with
          link := m, trace := c, cueLog.seekCue := none
          transport := { s.transport with
            state := .rewinding, dest := none, dir := .backward, brakeTimer := none, stallTimer := some 0, backMark := true
            seek := none } } := by
  obtain ⟨m, c, e, reply, faults⟩ := motion_reported (cmd := .rewind h) (k := 0x2B) (a := .done []) rfl hs hl
    (hostMotion_starts (req := .rewind) hr ht nofun
      (enterNow_rewind (s := unsought (takePlace 0xAB h.tag s)) _ (leaveTape_stopped ht) hlead) (.inl ha))
  exact ⟨_, e, reply, faults, m, c, rfl⟩

theorem wind_starts (hs : servable s) (hl : h.len = 0) (hr : motionRefusal .wind s = none)
    (ht : s.transport.state = .stopped) (hlead : s.lines.leader = false) (ha : s.cueLog.armed = false) :
    ∃ t, exec (.wind h) s = .next t ∧ lastReply 0xAC h.tag [0] t ∧ sameFaults s t
      ∧ ∃ m c, t = { s with
          link := m, trace := c, cueLog.seekCue := none
          transport := { s.transport with
            state := .winding, dest := none, dir := .forward, brakeTimer := none, stallTimer := some 0, seek := none } } := by
  obtain ⟨m, c, e, reply, faults⟩ := motion_reported (cmd := .wind h) (k := 0x2C) (a := .done []) rfl hs hl
    (hostMotion_starts (req := .wind) hr ht nofun
      (enterNow_wind (s := unsought (takePlace 0xAC h.tag s)) _ (leaveTape_stopped ht) hlead) (.inl ha))
  exact ⟨_, e, reply, faults, m, c, rfl⟩

theorem played_frame (s : State) : (played s).transport = playTape s.items.volume s.transport
    ∧ (played s).decoder = s.decoder ∧ sameSlides s (played s) ∧ (played s).heat = s.heat ∧ sameRest s (played s)
    ∧ (played s).program = { s.program with loops := (played s).program.loops } := by
  rw [played, playingHanded_eq]
  exact ⟨rfl, rfl, ⟨rfl, rfl, rfl⟩, rfl, ⟨rfl, rfl, rfl, rfl, rfl⟩, rfl⟩

theorem played_entries (s : State) :
    (played s).cueLog.entries = setMetFlags s.transport.reel s.items.matchWindow s.cueLog.entries := by
  rw [played, playingHanded_eq]
  rfl

/-- A PLAY from elsewhere than tape zero leaves the loop and the start map (R136). -/
theorem played_elsewhere (h : s.transport.reel ≠ 0 ∨ s.transport.zeroKnown = false) :
    (played s).cueLog = { s.cueLog with entries := (played s).cueLog.entries } ∧ (played s).program = s.program := by
  have away : ¬ (s.transport.reel = 0 ∧ s.transport.zeroKnown = true) := by
    rintro ⟨hz, hk⟩
    rcases h with h | h
    · exact h hz
    · simp [hk] at h
  rw [played, playingHanded_eq]
  simp [playTape, away]

/-- A PLAY at tape zero sets the start map, and outside a loop loads the loops and may arm one (R133, R136). -/
theorem played_from_zero (hz : s.transport.reel = 0) (hk : s.transport.zeroKnown = true) :
    (played s).cueLog = { s.cueLog with
        entries := (played s).cueLog.entries, startMap := some s.program.activeMap
        armed := s.cueLog.armed || (decide (s.cueLog.phase = .idle) && s.items.showLoop) }
      ∧ (played s).program = { s.program with
        loops := if s.cueLog.phase = .idle then s.items.loopCount else s.program.loops }
      ∧ (played s).cueLog.entries = s.cueLog.entries.map (fun e => { e with met := false }) := by
  rw [played, playingHanded_eq]
  simp [playTape, hz, hk, setMetFlags]

theorem setMetFlags_kept (n m : Nat) (log : List LogEntry) :
    (setMetFlags n m log).map (fun e => (e.reel, e.kind, e.index, e.seen))
      = log.map (fun e => (e.reel, e.kind, e.index, e.seen)) := by simp [setMetFlags]

theorem setMetFlags_met (n m : Nat) (log : List LogEntry) : ∀ e ∈ setMetFlags n m log, e.met = decide (e.reel + m < n) := by
  intro e he
  obtain ⟨e', -, rfl⟩ := List.mem_map.mp he
  rfl

/-! ### Brakes -/

/-- A Transport that brakes to a destination (R92, R93). -/
def brakeTape (d : Dest) (b : Byte) (k : Transport) : Transport :=
  { leftBehind k with
    state := .stopping, dest := some { dest := d, source := .host, tag := some b }, dir := brakeDir k.state
    brakeTimer := some 0, stallTimer := none }

/-- The brake behind what leaving the state reported. -/
theorem Reports.brakeTo (d : PendingDest) (h : Reports l w (leaveTape s)) : Reports l
    { w with transport := { w.transport with
        state := .stopping, dest := some d, dir := brakeDir s.transport.state, brakeTimer := some 0, stallTimer := none } }
    (brakeTo d s) := by
  obtain ⟨m, c, left, hm⟩ := h
  rw [Machine.brakeTo, left]
  exact ⟨m, c, rfl, hm⟩

/-- A request that brakes is ACCEPTED; out of PLAYING no tone stays stuck. -/
theorem hostMotion_brakes (b : Byte) (hr : motionRefusal req s = none) (hm : inMotion s.transport.state = true)
    (hq : s.transport.state ≠ destState req) (hp : s.transport.state = .playing → req ≠ .pause)
    (hp' : s.transport.state = .paused → req ≠ .play) (hk : s.transport.seek = none) (ha : s.cueLog.armed = false)
    (hh : s.program.hold = none) (he : s.transport.endFade = .idle) :
    ∃ u, hostMotion req b s = (.accepted [], u)
      ∧ Reports { s.link with faults := (leaveTape s).link.faults } { s with
          transport := brakeTape (pendingOf req) b s.transport, decoder := leftDecoder s, cueLog.seekCue := none } u := by
  have braked : Reports { s.link with faults := (leaveTape s).link.faults }
      { s with transport := brakeTape (pendingOf req) b s.transport, decoder := leftDecoder s }
      (brakeTo { dest := pendingOf req, source := .host, tag := some b } (unsought s)) := by
    rw [unsought_eq hk]
    exact (leaveTape_reports hh).brakeTo _
  rw [hostMotion_taken b hr (fadeRuns_still (.inr he)), moveTape_brakes _ hm hq hp hp']
  exact ⟨_, rfl, (braked.reportTape _ _).handMotion (.inl ha)⟩

/-! ### PAUSE from PLAYING and PLAY from PAUSED -/

/-- PAUSE from PLAYING, as it leaves the state (R89, R104, R109). -/
def pausedFrom (s : State) : State :=
  stillIn .paused { s with transport := leftBehind s.transport, decoder := leftDecoder s }

theorem Reports.stillIn (h : Reports l w u) (st : TapeState) : Reports l (stillIn st w) (stillIn st u) := by
  obtain ⟨m, c, rfl, hm⟩ := h
  exact ⟨m, c, rfl, hm⟩

theorem enterPaused_reports (c : Reason) (e : TapeEnds) (hh : s.program.hold = none) (hb : s.transport.backMark = false) :
    Reports { s.link with faults := (leaveTape s).link.faults } (pausedFrom s) (enterPaused c e s) := by
  have unmarked : (stillIn .paused (leaveTape s)).transport.backMark = false := by simp [stillIn, leftBehind, hb]
  rw [enterPaused, restEvent_unmarked unmarked]
  exact ((leaveTape_reports hh).stillIn .paused).reportTape _ _

theorem hostMotion_pauses (b : Byte) (hr : motionRefusal .pause s = none) (hs : s.transport.state = .playing)
    (hb : s.transport.backMark = false) (hk : s.transport.seek = none) (ha : s.cueLog.armed = false)
    (hh : s.program.hold = none) (he : s.transport.endFade = .idle) :
    ∃ u, hostMotion .pause b s = (.done [], u)
      ∧ Reports { s.link with faults := (leaveTape s).link.faults } (clearSeekCue (pausedFrom s)) u := by
  have moved : moveTape enterNow .pause .host (some b) s =
      (false, enterPaused (causeWith (cancelledSeek .host s) .host) (replacedEnds (cancelledSeek .host s) s) (unsought s)) := by
    simp [moveTape, destState, hs, unsought]
  rw [hostMotion_taken b hr (fadeRuns_still (.inr he)), moved, unsought_eq hk]
  exact ⟨_, rfl, (enterPaused_reports _ _ hh hb).handMotion (.inl ha)⟩

theorem hostMotion_resumes (b : Byte) (hr : motionRefusal .play s = none) (hs : s.transport.state = .paused)
    (hb : s.transport.backMark = false) (hk : s.transport.seek = none) (ha : s.cueLog.armed = false)
    (hh : s.program.hold = none) (hlead : s.lines.leader = false) :
    ∃ u, hostMotion .play b s = (.done [], u) ∧ Reports s.link (clearSeekCue (played s)) u := by
  have moved : moveTape enterNow .play .host (some b) s =
      (false, enterNow .play .host (replacedEnds (cancelledSeek .host s) s) (unsought s)) := by
    simp [moveTape, destState, hs, unsought]
  have entered := enterNow_play (replacedEnds (cancelledSeek .host s) s)
    (leaveTape_still (by simp [hs]) fun _ => hh) hb (.inl hlead)
  rw [hostMotion_taken b hr (fadeRuns_still (.inl (by simp [hs]))), moved, unsought_eq hk]
  exact ⟨_, rfl, entered.handMotion (played_unlooped (.inr ha))⟩

/-- A request that brakes from a state of motion: PLAY in PAUSED and PAUSE do not (R92). -/
def Brakes (req : MotionReq) (k : TapeState) : Prop :=
  inMotion k = true ∧ k ≠ destState req ∧ req ≠ .pause ∧ (k = .paused → req ≠ .play)

/-- A request for another state brakes to it (R92, R93, R104, R109). -/
theorem motion_brakes (hx : exec cmd s = .next (request k 0 h (hostMotion req h.tag) s)) (hs : servable s) (hl : h.len = 0)
    (hp : s.heat.power = .active) (hf : hasFault .tapeStall s = false) (hb : Brakes req s.transport.state)
    (hk : s.transport.seek = none) (ha : s.cueLog.armed = false) (hh : s.program.hold = none)
    (he : s.transport.endFade = .idle) :
    ∃ t, exec cmd s = .next t ∧ lastReply (k + 0x80) h.tag [1] t
      ∧ (s.transport.state = .playing → hasFault .stuckTone t = false)
      ∧ ∃ m c, t = { s with
          link := m, trace := c, transport := brakeTape (pendingOf req) h.tag s.transport, decoder := leftDecoder s
          cueLog.seekCue := none } := by
  obtain ⟨moving, away, hpause, hplay⟩ := hb
  have hr := motionRefusal_none (req := req) hp (by rintro hn; simp [inMotion, hn] at moving) hf fun g => absurd g hpause
  obtain ⟨m, c, e, reply, faults⟩ := motion_left hx hs hl
    (hostMotion_brakes (s := takePlace (k + 0x80) h.tag s) h.tag hr moving away (fun _ => hpause) hplay hk ha hh he)
  have tone (ht : s.transport.state = .playing) : m.faults.getLsbD (faultCode .stuckTone - 1) = false := by
    rw [faults]
    exact leaveTape_stuckTone (s := takePlace (k + 0x80) h.tag s) ht
  exact ⟨_, e, reply, tone, m, c, rfl⟩

theorem brakeTape_of_no_fade {k : Transport} (d : Dest) (b : Byte) (h : k.endFade = .idle) : brakeTape d b k =
    { k with
      state := .stopping, dest := some { dest := d, source := .host, tag := some b }
      dir := if k.state = .rewinding then .backward else .forward, brakeTimer := some 0, stallTimer := none
      gain := if k.state = .playing then 0 else k.gain } := by
  cases hs : k.state <;> simp [brakeTape, leftBehind, brakeDir, hs, h]

theorem leftDecoder_playing (h : s.transport.state = .playing) : (leftDecoder s).recogniser = .quiet := by
  rw [leftDecoder, if_pos h]

end Sys2Proof.Machine

namespace Sys2Proof.Proofs

open Sys2Proof.Machine

/-- Settles O33, request by request: what a taken one enters (`play_starts`, `rewind_starts`, `wind_starts`,
`hostMotion_pauses`, `hostMotion_resumes`) or brakes to (`motion_brakes`). -/
theorem motionStartsAndBrakes : Obligations.MotionStartsAndBrakes := by
  refine ⟨⟨fun h s hs hl hp hf ht hb hz hk ha => ?zero,
      fun h s hs hl hp hf ht hk hb ha hlead => ⟨?play, ?rewind, ?wind, ?stop⟩⟩,
    fun h s hs hl hp hf hk ha hh he => ⟨fun cmd kind d hc => ?brake, fun ht hb => ?pause, fun ht hb hlead => ?resume⟩⟩
  case zero =>
    have hr := motionRefusal_none (req := .play) hp (by simp [ht]) hf nofun
    obtain ⟨m, c, e, reply, faults⟩ := play_starts hs hl hr ht hb (.inr (by omega)) ha
    obtain ⟨transport, decoder, slides, heat, rest, -⟩ := played_frame (unsought (takePlace 0xA8 h.tag s))
    obtain ⟨log, program, entries⟩ := played_from_zero (s := unsought (takePlace 0xA8 h.tag s)) hz hk
    exact ⟨_, e, reply, transport, congrArg (fun k => { k with seekCue := none }) log, program, entries, decoder, slides,
      heat, rest, faults⟩
  case play =>
    have hr := motionRefusal_none (req := .play) hp (by simp [ht]) hf nofun
    obtain ⟨m, c, e, reply, faults⟩ := play_starts hs hl hr ht hb (.inl hlead) (.inr ha)
    rw [unsought_eq (by exact hk)] at e reply faults
    obtain ⟨transport, decoder, slides, heat, rest, -⟩ := played_frame (takePlace 0xA8 h.tag s)
    have entries := played_entries (takePlace 0xA8 h.tag s)
    refine ⟨_, e, reply, transport, ?_, ?_, fun away => ?_, rfl, decoder, slides, heat, rest, faults⟩
    · exact (congrArg _ entries).trans (setMetFlags_kept _ _ _)
    · exact fun x hx => setMetFlags_met _ _ _ x (entries ▸ hx)
    · obtain ⟨log, program⟩ := played_elsewhere (s := takePlace 0xA8 h.tag s) away
      exact ⟨congrArg (fun k => { k with seekCue := none }) log, program⟩
  case rewind =>
    have hr := motionRefusal_none (req := .rewind) hp (by simp [ht]) hf nofun
    obtain ⟨t, e, reply, faults, m, c, rfl⟩ := rewind_starts hs hl hr ht hlead ha
    exact ⟨_, e, reply, by rw [← hk], rfl, rfl, rfl, ⟨rfl, rfl, rfl⟩, rfl, ⟨rfl, rfl, rfl, rfl, rfl⟩, faults⟩
  case wind =>
    have hr := motionRefusal_none (req := .wind) hp (by simp [ht]) hf nofun
    obtain ⟨t, e, reply, faults, m, c, rfl⟩ := wind_starts hs hl hr ht hlead ha
    exact ⟨_, e, reply, by rw [← hk], rfl, rfl, rfl, ⟨rfl, rfl, rfl⟩, rfl, ⟨rfl, rfl, rfl, rfl, rfl⟩, faults⟩
  case stop =>
    have hr := motionRefusal_none (req := .stop) hp (by simp [ht]) hf nofun
    exact next_congr (request_writes s 0x29 0 h _ (.done []) clearSeekCue hs (by simp [hl]) (fun _ _ => rfl) (fun _ => rfl)
      (hostMotion_rests h.tag hr ht hk ha))
  case brake =>
    obtain ⟨req, k, hx, rfl, rfl, hb⟩ : ∃ req k, exec cmd s = .next (request k 0 h (hostMotion req h.tag) s)
        ∧ kind = k + 0x80 ∧ d = pendingOf req ∧ Brakes req s.transport.state := by
      rcases hc with ⟨rfl, rfl, rfl, hm⟩ | ⟨rfl, rfl, rfl, hm⟩ | ⟨rfl, rfl, rfl, hm⟩ | ⟨rfl, rfl, rfl, hm⟩
      · exact ⟨.stop, 0x29, rfl, rfl, rfl, by rcases hm with hm | hm | hm | hm <;> simp [Brakes, hm, inMotion, destState]⟩
      · exact ⟨.play, 0x28, rfl, rfl, rfl, by rcases hm with hm | hm <;> simp [Brakes, hm, inMotion, destState]⟩
      · exact ⟨.rewind, 0x2B, rfl, rfl, rfl, by rcases hm with hm | hm | hm <;> simp [Brakes, hm, inMotion, destState]⟩
      · exact ⟨.wind, 0x2C, rfl, rfl, rfl, by rcases hm with hm | hm | hm <;> simp [Brakes, hm, inMotion, destState]⟩
    obtain ⟨t, e, reply, tone, m, c, rfl⟩ := motion_brakes hx hs hl hp hf hb hk ha hh he
    exact ⟨_, e, reply, brakeTape_of_no_fade _ _ he, fun ht => ⟨leftDecoder_playing ht, tone ht⟩, fun ht => if_neg ht,
      rfl, rfl, ⟨rfl, rfl, rfl⟩, rfl, ⟨rfl, rfl, rfl, rfl, rfl⟩⟩
  case pause =>
    have hr := motionRefusal_none (req := .pause) hp (by simp [ht]) hf fun _ => .inl ht
    obtain ⟨m, c, e, reply, -⟩ := motion_left (cmd := .pause h) (k := 0x2A) (a := .done []) rfl hs hl
      (hostMotion_pauses h.tag hr ht hb hk ha hh he)
    refine ⟨_, e, reply, ?_, ?_, rfl, rfl, ⟨rfl, rfl, rfl⟩, rfl, ⟨rfl, rfl, rfl, rfl, rfl⟩⟩
    · simp [clearSeekCue, pausedFrom, stillIn, leftBehind, takePlace, ht, he]
    · simp [clearSeekCue, pausedFrom, stillIn, leftDecoder, takePlace, ht]
  case resume =>
    have hr := motionRefusal_none (req := .play) hp (by simp [ht]) hf nofun
    obtain ⟨m, c, e, reply, faults⟩ := motion_reported (cmd := .play h) (k := 0x28) (a := .done []) rfl hs hl
      (hostMotion_resumes h.tag hr ht hb hk ha hh hlead)
    obtain ⟨transport, decoder, slides, heat, rest, program⟩ := played_frame (takePlace 0xA8 h.tag s)
    refine ⟨_, e, reply, ?_, decoder, rfl, program, slides, heat, rest, faults⟩
    exact transport.trans (by simp [playTape, takePlace, he])

end Sys2Proof.Proofs
end

section
/-! ## Seeks by count and by cue (R101, R102, R137) -/

namespace Sys2Proof.Machine

variable {l : Link} {k : Seek} {h : Hdr} {r : Reason} {s u w : State}

/-! ### A seek from STOPPED -/

/-- The seek in progress (R101). -/
def sought (k : Seek) (s : State) : State := { s with transport.seek := some k }

/-- A seek from STOPPED is due at once (R101). -/
theorem beginSeek_stopped (hand : State → State) (hs : s.transport.state = .stopped) (hk : s.transport.seek = none) :
    beginSeek hand k s = (decide (k.target ≠ s.transport.reel), hand (seekDue k (sought k s))) := by
  simp [beginSeek, hs, hk, replacedEnds, reportEnds, sought]

/-- Below its target a seek winds (R102). -/
theorem seekDue_winds (hs : s.transport.state = .stopped) (hlead : s.lines.leader = false)
    (hlt : s.transport.reel < k.target) :
    Reports s.link (driveTape .winding .forward (sought { k with moved := .forward } s)) (seekDue k s) := by
  have winds : seekDue k s = enterWinding .seek endsNothing (sought { k with moved := .forward } s) := if_pos hlt
  rw [winds, enterWinding_eq _ _ (leaveTape_stopped (by exact hs)) (by exact hlead)]
  exact reportTape_reports _ _ _

/-- Above its target it rewinds, which sets the backward mark (R95, R102). -/
theorem seekDue_rewinds (hs : s.transport.state = .stopped) (hlead : s.lines.leader = false)
    (hgt : k.target < s.transport.reel) :
    Reports s.link
      { driveTape .rewinding .backward (sought { k with moved := .backward } s) with transport.backMark := true }
      (seekDue k s) := by
  have rewinds : seekDue k s = enterRewinding .seek endsNothing (sought { k with moved := .backward } s) :=
    (if_neg hgt.asymm).trans (if_pos hgt)
  rw [rewinds, enterRewinding_eq _ _ (leaveTape_stopped (by exact hs)) (by exact hlead)]
  exact reportTape_reports _ _ _

/-- At its target a seek of SEEK COUNT ends REACHED (R102). -/
theorem seekDue_reached (hs : s.transport.state = .stopped) (ht : s.transport.reel = k.target) (hc : k.byCue = false)
    (hp : k.playAfter = false) (hb : s.transport.backMark = false) (hq : s.heat.sleepPending = .clear) :
    Reports s.link { stillIn .stopped s with transport.seek := none } (seekDue k s) := by
  have handed : seekEndHanded { k with moved := .still } { stillIn .stopped s with transport.seek := none }
      = { stillIn .stopped s with transport.seek := none } := by
    simp [seekEndHanded, hc, stillIn, ← hb]
  have reached : seekReached { k with moved := .still } (stillIn .stopped (sought { k with moved := .still } s))
      = reportTape .seek (endsSeek k .reached none) { stillIn .stopped s with transport.seek := none } :=
    congrArg (reportTape .seek (endsSeek k .reached none)) handed
  have rests : seekDue k s
      = sleepTest (seekReached { k with moved := .still } (stillIn .stopped (sought { k with moved := .still } s))) := by
    have left := leaveTape_stopped (s := sought { k with moved := .still } s) hs
    rw [seekDue, if_neg (by omega), if_neg (by omega), playAfter, if_neg (by simp [hp]), enterStopped]
    exact congrArg (fun v => sleepTest (seekReached { k with moved := .still } (stillIn .stopped v))) left
  obtain ⟨m, c, e, hm⟩ := reportTape_reports .seek (endsSeek k .reached none)
    { stillIn .stopped s with transport.seek := none }
  rw [rests, reached, e, sleepTest_clear (by exact hq)]
  exact ⟨m, c, rfl, hm⟩

/-! ### SEEK COUNT -/

/-- The seek of a SEEK COUNT (R101). -/
def countSeek (n : Nat) (b : Byte) (s : State) : Seek :=
  { target := n, byCue := false, tag := some b, playAfter := s.items.seekPlay, moved := .still }

theorem hostSeek_taken (n : Nat) (b : Byte) (hr : motionRefusal .seekCount s = none) (hs : s.transport.state = .stopped)
    (hk : s.transport.seek = none)
    (hdue : Reports s.link w (seekDue (countSeek n b s) (sought (countSeek n b s) s))) (ha : w.cueLog.armed = false) :
    ∃ u, hostSeek n b s = (acceptedOr (decide (n ≠ s.transport.reel)), u) ∧ Reports s.link (clearSeekCue w) u := by
  refine ⟨_, ?_, hdue.handMotion (req := .seekCount) (.inl ha)⟩
  rw [hostSeek, hr]
  dsimp only
  rw [beginSeek_stopped _ hs hk]
  rfl

/-- A SEEK COUNT taken in STOPPED leaves what its seek leaves when due, without a seek-cue record. -/
theorem seekCount_taken {count : BitVec 16} (hv : servable s) (hl : h.len = 2) (hr : motionRefusal .seekCount s = none)
    (hs : s.transport.state = .stopped) (hk : s.transport.seek = none)
    (hdue : Reports (takePlace 0xAD h.tag s).link w (seekDue (countSeek count.toNat h.tag s)
      (sought (countSeek count.toNat h.tag s) (takePlace 0xAD h.tag s))))
    (ha : w.cueLog.armed = false) :
    ∃ t, exec (.seekCount h count) s = .next t
      ∧ lastReply 0xAD h.tag (answerPayload (acceptedOr (decide (count.toNat ≠ s.transport.reel)))) t ∧ sameFaults s t
      ∧ ∃ m c, t = { clearSeekCue w with link := m, trace := c } := by
  obtain ⟨u, body, reports⟩ := hostSeek_taken (s := takePlace 0xAD h.tag s) count.toNat h.tag hr hs hk hdue ha
  obtain ⟨m, c, e, reply, faults, mask, clock⟩ := request_reports (k := 0x2D) (n := 2) hv (by simp [hl]) body reports
  exact ⟨_, next_congr e, reply, ⟨faults, mask, clock⟩, m, c, rfl⟩

/-! ### SEEK CUE -/

theorem seekCue_refused {index : BitVec 16} (r : Reason) (hs : servable s) (hl : h.len = 2)
    (hr : seekCueEntry index.toNat s = .inl r) :
    exec (.seekCue h index) s = .next (replied 0xAE h.tag [2, byte1 (reasonCode r)] s) := by
  have entry : seekCueEntry index.toNat (takePlace 0xAE h.tag s) = .inl r := hr
  have body : seekCueBody index.toNat (takePlace 0xAE h.tag s) = (.refused r, takePlace 0xAE h.tag s) := by
    rw [seekCueBody, entry]
  exact next_congr (request_unchanged 0x2E 2 h _ (.refused r) s hs (by simp [hl]) body)

/-- Past its first checks a SEEK CUE is taken when the log holds its cue (R137). -/
theorem seekCueEntry_checked {n : Nat} (hn : n ≤ 999) (hp : s.heat.power = .active) (ht : s.transport.state ≠ .noTape)
    (hf : hasFault .tapeStall s = false) (hy : 0 < traySize s) :
    seekCueEntry n s = (s.cueLog.entries.find? (fun e => e.index == some n)).elim (.inl .notFound) .inr := by
  rw [seekCueEntry, if_neg (Nat.not_lt.mpr hn), if_neg (not_not_intro hp), if_neg ht, if_neg (by simp [hf]),
    if_neg (by simp [traySeated, hy])]
  cases s.cueLog.entries.find? (fun e => e.index == some n) <;> rfl

theorem find?_of_unique {α : Type} {p : α → Bool} {xs : List α} {x : α} (hx : x ∈ xs) (hp : p x = true)
    (hu : ∀ y ∈ xs, p y = true → y = x) : xs.find? p = some x := by
  cases hf : xs.find? p with
  | none => simp [List.find?_eq_none.mp hf x hx] at hp
  | some y => rw [hu y (List.mem_of_find?_eq_some hf) (List.find?_some hf)]

/-- The seek of a SEEK CUE (R137). -/
def cueSeek (e : LogEntry) (s : State) : Seek :=
  { target := e.reel - s.items.seekPreroll, byCue := true, tag := none, playAfter := false, moved := .still }

/-- The record of a SEEK CUE (R138). -/
def seekingCue (n : Nat) (s : State) : State :=
  { s with cueLog.seekCue := some { chasing := false, target := n, playAfter := s.items.seekPlay } }

/-- A SEEK CUE taken in STOPPED below its target winds for the chase that follows (R137, R102). -/
theorem seekCueBody_winds {n : Nat} {e : LogEntry} (hr : seekCueEntry n s = .inr e) (hs : s.transport.state = .stopped)
    (hk : s.transport.seek = none) (ha : s.cueLog.armed = false) (hlead : s.lines.leader = false)
    (hlt : s.transport.reel < e.reel - s.items.seekPreroll) :
    ∃ u, seekCueBody n s = (.done [], u)
      ∧ Reports s.link (driveTape .winding .forward (sought { cueSeek e s with moved := .forward } (seekingCue n s))) u := by
  refine ⟨_, ?_, seekDue_winds (k := cueSeek e s) (s := sought (cueSeek e s) (seekingCue n s)) hs hlead hlt⟩
  have begun := beginSeek_stopped (k := cueSeek e s) (s := seekingCue n s) id hs hk
  rw [seekCueBody, hr]
  refine congrArg (Prod.mk _) ?_
  rw [takeSeekCue, endLoop_disarmed _ _ _ ha]
  exact congrArg Prod.snd begun

end Sys2Proof.Machine

namespace Sys2Proof.Proofs

open Sys2Proof.Machine

/-- Settles O34: from STOPPED a seek is due at once (`beginSeek_stopped`), and its three directions are the cases of
`seekDue`. -/
theorem seeksByCountAndByCue : Obligations.SeeksByCountAndByCue := by
  refine ⟨fun h count s hs hl hp hf ht hk hb ha hlead hplay => ?count, fun h index s hs hl => ⟨fun hn => ?badArg,
    fun hn => ⟨fun hp => ?notActive, fun hp => ⟨fun ht => ?noTape, fun ht => ⟨fun hf => ?stalled, fun hf =>
      ⟨fun hy => ?noTray, fun hy => ⟨fun hnone => ?notFound, fun e he hi hu ht hk ha hlead hlt => ?cue⟩⟩⟩⟩⟩⟩⟩
  case count =>
    have hr := motionRefusal_none (req := .seekCount) hp (by simp [ht]) hf nofun
    refine ⟨fun hne => ?_, fun heq hq => ?_⟩
    · have away : decide (count.toNat ≠ s.transport.reel) = true := decide_eq_true hne.symm
      rcases Nat.lt_or_gt_of_ne hne with hlt | hgt
      · obtain ⟨t, e, reply, faults, m, c, rfl⟩ := seekCount_taken hs hl hr ht hk
          (seekDue_winds (s := sought _ (takePlace 0xAD h.tag s)) ht hlead hlt) ha
        rw [away] at reply
        refine ⟨_, e, reply, ?_, rfl, rfl, rfl, ⟨rfl, rfl, rfl⟩, rfl, ⟨rfl, rfl, rfl, rfl, rfl⟩, faults⟩
        simp [driveTape, sought, takePlace, clearSeekCue, countSeek, hlt, hlt.not_gt, hplay, hb]
      · obtain ⟨t, e, reply, faults, m, c, rfl⟩ := seekCount_taken hs hl hr ht hk
          (seekDue_rewinds (s := sought _ (takePlace 0xAD h.tag s)) ht hlead hgt) ha
        rw [away] at reply
        refine ⟨_, e, reply, ?_, rfl, rfl, rfl, ⟨rfl, rfl, rfl⟩, rfl, ⟨rfl, rfl, rfl, rfl, rfl⟩, faults⟩
        simp [driveTape, sought, takePlace, clearSeekCue, countSeek, hgt, hgt.not_gt, hplay]
    · obtain ⟨t, e, reply, faults, m, c, rfl⟩ := seekCount_taken hs hl hr ht hk
        (seekDue_reached (s := sought _ (takePlace 0xAD h.tag s)) ht heq rfl hplay hb hq) ha
      rw [decide_eq_false (not_not_intro heq.symm)] at reply
      refine ⟨_, e, reply, ?_, rfl, rfl, rfl, ⟨rfl, rfl, rfl⟩, rfl, ⟨rfl, rfl, rfl, rfl, rfl⟩, faults⟩
      simp [stillIn, sought, takePlace, clearSeekCue, ht, hk]
  case badArg => exact seekCue_refused .badArg hs hl (by simp [seekCueEntry, hn])
  case notActive => exact seekCue_refused .notActive hs hl (by simp [seekCueEntry, Nat.not_lt.mpr hn, hp])
  case noTape => exact seekCue_refused .notPermitted hs hl (by simp [seekCueEntry, Nat.not_lt.mpr hn, hp, ht])
  case stalled => exact seekCue_refused .faultActive hs hl (by simp [seekCueEntry, Nat.not_lt.mpr hn, hp, ht, hf])
  case noTray => exact seekCue_refused .noTray hs hl (by simp [seekCueEntry, Nat.not_lt.mpr hn, hp, ht, hf, traySeated, hy])
  case notFound =>
    have missing : s.cueLog.entries.find? (fun e => e.index == some index.toNat) = none :=
      List.find?_eq_none.mpr fun e he => by simpa using hnone e he
    exact seekCue_refused .notFound hs hl (by rw [seekCueEntry_checked hn hp ht hf hy, missing]; rfl)
  case cue =>
    have found := find?_of_unique (p := fun e => e.index == some index.toNat) he (by simp [hi])
      fun y hy hp => hu y hy (by simpa using hp)
    have hr : seekCueEntry index.toNat s = .inr e := by 
      rw [seekCueEntry_checked hn hp (by simp [ht]) hf hy, found]
      rfl
    obtain ⟨u, body, reports⟩ := seekCueBody_winds (s := takePlace 0xAE h.tag s) hr ht hk ha hlead hlt
    obtain ⟨m, c, e, reply, faults⟩ := request_reports (k := 0x2E) (n := 2) hs (by simp [hl]) body reports
    exact ⟨_, next_congr e, reply, rfl, rfl, rfl, rfl, ⟨rfl, rfl, rfl⟩, rfl, ⟨rfl, rfl, rfl, rfl, rfl⟩, faults⟩

end Sys2Proof.Proofs
end

section
/-! ## Brake, reel, stall, cassette and leader (R90, R93 to R98, R127, R135) -/

namespace Sys2Proof.Machine

variable {c : Reason} {e : TapeEnds} {d : PendingDest} {b : Byte} {l : Link} {s u w : State}

/-! ### A TAPE report and what stands behind it -/

@[simp] theorem reportTape_heat (c : Reason) (e : TapeEnds) (s : State) : (reportTape c e s).heat = s.heat := by
  rw [reportTape_eq]

/-- With no sleep pending a TAPE report is not followed by one (R83). -/
theorem sleepTest_reportTape (h : s.heat.sleepPending = .clear) : sleepTest (reportTape c e s) = reportTape c e s :=
  sleepTest_clear (by rwa [reportTape_heat])

/-- A TAPE report leaves the state but for link and trace, sets its flag, and leaves faults, mask and clock (R107, R190). -/
theorem reportTape_given (h : u = reportTape c e s) : ∃ m t, u = { s with link := m, trace := t }
    ∧ m.flags.getLsbD 14 = true ∧ sameFaults s { s with link := m, trace := t } := by
  obtain ⟨m, t, given, hm⟩ := reportTape_reports c e s
  have flag := reportTape_flag c e s
  rw [given] at flag
  exact ⟨m, t, h.trans given, flag, hm.faults, hm.mask, hm.clock⟩

/-- A command that ends in a TAPE report, with no change of what THERMAL watches (R76). -/
theorem reportTape_next {f : State → State} (h : f s = reportTape c e u) (hh : u.heat = s.heat) :
    (.next (withThermal f s) : Result) = .next (reportTape c e u) :=
  withThermal_next h ((reportTape_heat c e u).trans hh)

/-! ### The end of the brake -/

theorem brakeEnds_ignored (h : s.transport.state ≠ .stopping) : brakeEnds s = s := by
  unfold brakeEnds
  split
  · contradiction
  · rfl

theorem brakeEnds_enters (hs : s.transport.state = .stopping) (hd : s.transport.dest = some d) :
    brakeEnds s = enterPending d s := by
  unfold brakeEnds
  rw [hs, hd]

/-- At the end of the brake the state left is STOPPING, which leaves nothing behind (R104). -/
theorem leaveTape_stopping (h : s.transport.state = .stopping) : leaveTape s = s :=
  leaveTape_still (by simp [h]) (by simp [h])

/-- STOPPED entered with no seek and no sleep pending, outside a loop's rewind (R93, R95). -/
theorem enterStopped_eq (hleave : leaveTape s = s) (hk : s.transport.seek = none)
    (hrest : s.transport.backMark = true → s.cueLog.phase ≠ .rewinding) (hq : s.heat.sleepPending = .clear) :
    enterStopped c e s = reportTape c e (rested (stillIn .stopped s)) := by
  have rest : restEvent (stillIn .stopped s) = rested (stillIn .stopped s) := restEvent_eq hrest
  have entered : enterStopped c e s = sleepTest (reportTape c e (restEvent (stillIn .stopped s))) := by
    simp [enterStopped, hleave, hk]
  rw [entered, rest]
  exact sleepTest_reportTape hq

theorem brakeEnds_stopped (hs : s.transport.state = .stopping)
    (hd : s.transport.dest = some { dest := .stopped, source := .host, tag := some b }) (hk : s.transport.seek = none)
    (hrest : s.transport.backMark = true → s.cueLog.phase ≠ .rewinding) (hq : s.heat.sleepPending = .clear) :
    brakeEnds s = reportTape .request (endsPending (some b) .reached none) (rested (stillIn .stopped s)) := by
  rw [brakeEnds_enters hs hd, enterPending]
  simp only [hk]
  exact enterStopped_eq (leaveTape_stopping hs) hk hrest hq

theorem brakeEnds_winding (hs : s.transport.state = .stopping)
    (hd : s.transport.dest = some { dest := .winding, source := .host, tag := some b }) (hlead : s.lines.leader = false) :
    brakeEnds s = reportTape .request (endsPending (some b) .reached none) (driveTape .winding .forward s) :=
  (brakeEnds_enters hs hd).trans (enterWinding_eq _ _ (leaveTape_stopping hs) hlead)

theorem brakeEnds_rewinding (hs : s.transport.state = .stopping)
    (hd : s.transport.dest = some { dest := .rewinding, source := .host, tag := some b }) (hlead : s.lines.leader = false) :
    brakeEnds s = reportTape .request (endsPending (some b) .reached none)
      { driveTape .rewinding .backward s with transport.backMark := true } :=
  (brakeEnds_enters hs hd).trans (enterRewinding_eq _ _ (leaveTape_stopping hs) hlead)

/-- What a brake that ends in PLAYING enters: the rest event, then PLAYING (R93, R95). -/
def resumed (s : State) : State :=
  playingHanded .host (rested { s with transport := playTape s.items.volume s.transport })

theorem brakeEnds_playing (hs : s.transport.state = .stopping)
    (hd : s.transport.dest = some { dest := .playing, source := .host, tag := some b })
    (hrest : s.transport.backMark = true → s.cueLog.phase ≠ .rewinding) (hlead : s.lines.leader = false) :
    brakeEnds s = reportTape .request (endsPending (some b) .reached none) (resumed s) :=
  (brakeEnds_enters hs hd).trans (enterPlaying_eq _ _ _ (leaveTape_stopping hs) hrest (.inl hlead))

/-! ### Reel pulses -/

theorem missedTest_out (h : s.transport.state ≠ .playing ∨ s.items.cueSource ≠ .tape) : missedTest s = s := by
  rw [missedTest, if_neg]
  rintro ⟨hs, hc⟩
  rcases h with h | h <;> contradiction

theorem seekStops_unsought (h : s.transport.seek = none) : seekStops s = s := by simp [seekStops, h]

/-- Outside PLAYING on the tape's own cues, and with no seek, a pulse counts and restarts the stall timer alone (R94, R98). -/
theorem reelPulse_counts (hk : s.transport.seek = none) (h : s.transport.state ≠ .playing ∨ s.items.cueSource ≠ .tape) :
    reelPulse s = { s with
      transport.reel := countReel s.transport.dir s.transport.reel
      transport.stallTimer := s.transport.stallTimer.map (fun _ => 0) } := by
  unfold reelPulse
  dsimp only
  rw [missedTest_out (by exact h), ite_self, seekStops_unsought (by exact hk)]

/-! ### The stall -/

theorem tapeStalls_ignored (h : s.transport.state = .noTape ∨ s.transport.state = .stopped ∨ s.transport.state = .paused
    ∨ s.transport.state = .stopping) : tapeStalls s = s := by
  rcases h with h | h | h | h <;> simp [tapeStalls, h]

theorem endSeek_reports (outcome reason : Reason) (s : State) :
    Reports s.link { s with transport.seek := none } (endSeek outcome reason s) := by
  unfold endSeek
  split
  · exact reportTape_reports _ _ _
  · next hk =>
    rw [← hk]
    exact .refl s

theorem Reports.clearSeekCue (h : Reports l w u) : Reports l (clearSeekCue w) (clearSeekCue u) := by
  obtain ⟨m, t, rfl, hm⟩ := h
  exact ⟨m, t, rfl, hm⟩

/-- A stall in REWINDING or WINDING: STOPPED with its rest event, then TAPE_STALL, then the seek, the loop and the seek-cue
record end (R98). -/
theorem tapeStalls_winding (hs : s.transport.state = .rewinding ∨ s.transport.state = .winding)
    (ha : s.cueLog.armed = false) (hq : s.heat.sleepPending = .clear) (hp : s.cueLog.phase = .idle) :
    Reports (raiseFault .tapeStall none (rested (stillIn .stopped s))).link
      (clearSeekCue { raiseFault .tapeStall none (rested (stillIn .stopped s)) with transport.seek := none })
      (tapeStalls s) := by
  have hplay : s.transport.state ≠ .playing := by rcases hs with hs | hs <;> simp [hs]
  have hpause : s.transport.state ≠ .paused := by rcases hs with hs | hs <;> simp [hs]
  have stalls : tapeStalls s = sleepTest (reportTape .stall endsNothing (clearSeekCue (endLoop .tapeStall none
      (cutIf (fadeRuns s) (endSeek .failed .tapeStall
        (raiseFault .tapeStall none (restEvent (stillIn .stopped (leaveTape s))))))))) := by
    rcases hs with hs | hs <;> simp [tapeStalls, hs]
  have rest : restEvent (stillIn .stopped s) = rested (stillIn .stopped s) := restEvent_eq fun _ => by simp [stillIn, hp]
  obtain ⟨m, t, raised⟩ := raiseFault_frame .tapeStall none (rested (stillIn .stopped s))
  have sought := endSeek_reports .failed .tapeStall (raiseFault .tapeStall none (rested (stillIn .stopped s)))
  have unlooped : (endSeek .failed .tapeStall (raiseFault .tapeStall none (rested (stillIn .stopped s)))).cueLog.armed
      = false := by
    obtain ⟨m', t', ended, -⟩ := sought
    rw [ended, raised]
    exact ha
  rw [stalls, leaveTape_still hplay (absurd · hpause), rest, fadeRuns_still (.inl hplay), cutIf, if_neg Bool.false_ne_true,
    endLoop_disarmed _ _ _ unlooped]
  refine (sought.clearSeekCue.reportTape _ _).sleepTest ?_
  rw [raised]
  exact hq

/-! ### The cassette -/

/-- An insertion in NO_TAPE (R90, R127). -/
theorem insertCassette_empty (hs : s.transport.state = .noTape) (hq : s.heat.sleepPending = .clear) :
    insertCassette s = reportTape .cassette endsNothing { stillIn .stopped s with
      transport.cassette := true, transport.reel := 0, transport.zeroKnown := false, cueLog.entries := []
      cueLog.full := false } := by
  rw [insertCassette, if_pos hs]
  exact sleepTest_reportTape hq

/-- A removal out of PLAYING, with no seek and no loop to end (R90). -/
theorem removeCassette_still (hs : s.transport.state ≠ .noTape) (hplay : s.transport.state ≠ .playing)
    (hk : s.transport.seek = none) (ha : s.cueLog.armed = false) (hh : s.program.hold = none)
    (hq : s.heat.sleepPending = .clear) :
    removeCassette s = reportTape .cassette (endsPending (pendingTag s) .cancelled (some .noTape))
      (clearSeekCue { stillIn .noTape s with
        transport.cassette := false, transport.reel := 0, transport.zeroKnown := false, transport.backMark := false }) := by
  have kept : leaveTape (endSeek .cancelled .noTape s) = s := by
    rw [endSeek, hk]
    exact leaveTape_still hplay fun _ => hh
  rw [removeCassette, if_neg hs, kept, fadeRuns_still (.inl hplay)]
  dsimp only
  rw [if_neg Bool.false_ne_true, endLoop_disarmed _ _ _ (by exact ha)]
  exact sleepTest_reportTape hq

/-! ### The leader -/

theorem brakeTo_still (hleave : leaveTape s = s) : brakeTo d s = { s with
    transport.state := .stopping, transport.dest := some d, transport.dir := brakeDir s.transport.state
    transport.brakeTimer := some 0, transport.stallTimer := none } := by rw [brakeTo, hleave]

theorem leaderInRewind_elsewhere (h : s.lines.leader = false ∨ s.transport.state ≠ .rewinding) : leaderInRewind s = s := by
  rw [leaderInRewind, if_neg]
  rintro ⟨hl, hs⟩
  rcases h with h | h
  · simp [hl] at h
  · exact h hs

theorem leaderAhead_elsewhere (h : s.lines.leader = false ∨ s.transport.state ≠ .playing ∧ s.transport.state ≠ .winding
    ∨ s.transport.reel ≤ 200) : leaderAhead s = s := by
  rw [leaderAhead, if_neg]
  rintro ⟨hl, hs, far⟩
  rcases h with h | ⟨hp, hw⟩ | h
  · simp [hl] at h
  · exact hs.elim hp hw
  · omega

/-- A leader report that only changes the line (R96, R97). -/
theorem leaderChanges_line (present : Bool)
    (h : present = false ∨ s.transport.state ≠ .rewinding ∧ s.transport.state ≠ .playing ∧ s.transport.state ≠ .winding
      ∨ s.transport.state ≠ .rewinding ∧ s.transport.reel ≤ 200) :
    leaderChanges present s = { s with lines.leader := present } := by
  unfold leaderChanges
  rcases h with h | ⟨hr, hp, hw⟩ | ⟨hr, h⟩
  · rw [leaderInRewind_elsewhere (.inl (by exact h)), leaderAhead_elsewhere (.inl h)]
  · rw [leaderInRewind_elsewhere (.inr (by exact hr)), leaderAhead_elsewhere (.inr (.inl (by exact ⟨hp, hw⟩)))]
  · rw [leaderInRewind_elsewhere (.inr (by exact hr)), leaderAhead_elsewhere (.inr (.inr (by exact h)))]

/-- The leader in REWINDING sets tape zero and brakes (R96). -/
theorem leaderChanges_zero (hs : s.transport.state = .rewinding) :
    leaderChanges true s = reportTape .leader endsNothing { s with
      lines.leader := true
      transport := { s.transport with
        state := .stopping, reel := 0, zeroKnown := true, dir := .backward, brakeTimer := some 0, stallTimer := none
        dest := some { dest := .stopped, source := .leader, tag := none } } } := by
  have left : leaveTape { s with lines.leader := true, transport.reel := 0, transport.zeroKnown := true } = _ :=
    leaveTape_still (by simp [hs]) (by simp [hs])
  have sighted : leaderInRewind { s with lines.leader := true } = reportTape .leader endsNothing { s with
      lines.leader := true
      transport := { s.transport with
        state := .stopping, reel := 0, zeroKnown := true, dir := .backward, brakeTimer := some 0, stallTimer := none
        dest := some { dest := .stopped, source := .leader, tag := none } } } := by
    rw [leaderInRewind, if_pos ⟨rfl, hs⟩, brakeTo_still left]
    simp [hs, brakeDir]
  rw [leaderChanges, sighted, leaderAhead_elsewhere]
  simp

/-- An end sequence with nothing to end: no loop, hold, timer, light or sound (R139). -/
theorem endSequence_quiet (hp : s.cueLog.phase = .idle) (ha : s.cueLog.armed = false) (hr : s.cueLog.restart = false)
    (hh : s.program.hold = none) (ht : s.program.timer = .stopped) (hl : s.lamp.state = .off)
    (hd : s.lamp.darkWaiting = false) (hs : s.transport.state = .stopping) : endSequence s = s := by
  have hold : { s.program with hold := none } = s.program := by rw [← hh]
  have timer : stopTimer { s with cueLog.phase := .ending, program.hold := none }
      = { s with cueLog.phase := .ending, program.hold := none } := by simp [stopTimer, ht]
  have lamp : withDarkTest lampEndFade { s with cueLog.phase := .ending, program.hold := none }
      = { s with cueLog.phase := .ending, program.hold := none } := withDarkTest_eq (by simp [lampEndFade, hl]) hd
  have stop : fadeEndStop { s with cueLog.phase := .ending, program.hold := none }
      = { s with cueLog.phase := .ending, program.hold := none } := by simp [fadeEndStop, hs]
  have fade : requestEndFade { s with cueLog.phase := .ending, program.hold := none } = s := by
    have still : requestEndFade { s with cueLog.phase := .ending, program.hold := none }
        = audioFadeEnd { s with cueLog.phase := .ending, program.hold := none } := by simp [requestEndFade, hs]
    rw [still, audioFadeEnd, fadeEndsWith_stops _ _ _ rfl (by rw [stop]; exact hr), stop, hold, ← hp]
  rw [endSequence, if_pos hp, decideRestart, if_neg (by simp [ha])]
  dsimp only
  rw [timer, lamp, fade]

/-- A tape end with no seek and no end fade to end (R97). -/
theorem tapeEnds_plain (hk : s.transport.seek = none) (hf : fadeRuns s = false) :
    tapeEnds s = endSequence (clearSeekCue (give (.tapeEnd s.transport.reel) (reportTape .tapeEnd endsNothing
      (brakeTo { dest := .stopped, source := .tapeEnd, tag := none } s)))) := by
  have kept : { s with transport.seek := none } = s := unsought_eq hk
  simp only [tapeEnds, hk, hf, kept, cutIf]
  rfl

theorem give_flag {n : Notice} {i : Nat} (hb : noticeBit n = i) (hi : i < 24) (s : State) :
    (give n s).link.flags.getLsbD i = true := by
  rw [give_flags hb]
  simp [hi]

/-- The tape end in WINDING with nothing for the end sequence to end: the brake, TAPE and TAPE END (R97). -/
theorem leaderChanges_tapeEnd (hs : s.transport.state = .winding) (hfar : 200 < s.transport.reel)
    (hk : s.transport.seek = none) (ha : s.cueLog.armed = false) (hh : s.program.hold = none) (hl : s.lamp.state = .off)
    (ht : s.program.timer = .stopped) (hp : s.cueLog.phase = .idle) (hr : s.cueLog.restart = false)
    (hd : s.lamp.darkWaiting = false) :
    ∃ m t, leaderChanges true s = { s with
        link := m, trace := t, lines.leader := true, cueLog.seekCue := none
        transport := { s.transport with
          state := .stopping, dir := .forward, brakeTimer := some 0, stallTimer := none
          dest := some { dest := .stopped, source := .tapeEnd, tag := none } } }
      ∧ m.flags.getLsbD 15 = true := by
  have left : leaveTape { s with lines.leader := true } = { s with lines.leader := true } :=
    leaveTape_still (by simp [hs]) (by simp [hs])
  have ends : leaderChanges true s = endSequence (clearSeekCue (give (.tapeEnd s.transport.reel)
      (reportTape .tapeEnd endsNothing
        (brakeTo { dest := .stopped, source := .tapeEnd, tag := none } { s with lines.leader := true })))) := by
    have ahead : leaderAhead { s with lines.leader := true } = tapeEnds { s with lines.leader := true } :=
      if_pos ⟨rfl, .inr hs, hfar⟩
    rw [leaderChanges, leaderInRewind_elsewhere (.inr (by simp [hs])), ahead]
    exact tapeEnds_plain hk (fadeRuns_still (.inl (by simp [hs])))
  have given := ((reportTape_reports .tapeEnd endsNothing
    (brakeTo { dest := .stopped, source := .tapeEnd, tag := none } { s with lines.leader := true })).give
      (.tapeEnd s.transport.reel)).clearSeekCue
  obtain ⟨m, t, e, hm⟩ := given
  have flag : m.flags.getLsbD 15 = true := by
    have link : (give (.tapeEnd s.transport.reel) (reportTape .tapeEnd endsNothing (brakeTo _ _))).link = m :=
      congrArg State.link e
    rw [← link]
    exact give_flag (i := 15) rfl (by decide) _
  rw [ends, e, brakeTo_still left]
  refine ⟨m, t, ?_, flag⟩
  rw [endSequence_quiet (by exact hp) (by exact ha) (by exact hr) (by exact hh) (by exact ht) (by exact hl) (by exact hd) rfl]
  simp [clearSeekCue, hs, brakeDir]

end Sys2Proof.Machine

namespace Sys2Proof.Proofs

open Sys2Proof.Machine

/-- Settles O35, event by event: each is one write and its TAPE report. -/
theorem tapeEventsByTheirRules : Obligations.TapeEventsByTheirRules := by
  refine ⟨fun s => ⟨fun hs => ?ignored, fun b hs hd hk hrest hq r hr => ?stopped, fun b hs hd hrest hlead => ?playing,
      fun b hs hd hlead r hr => ?winding, fun b hs hd hlead r hr => ?rewinding, fun hk hs => ?pulse, fun hs => ?still,
      fun hs ha hq hp => ?stall⟩,
    fun present s hk ha hh hq => ⟨fun hs => ?insert, fun hs hplay => ?remove, fun hs r hr => ?zero,
      fun hs hfar hl ht hp hr hd => ?tapeEnd, fun h => ?line⟩⟩
  case ignored => exact withThermal_next (brakeEnds_ignored hs) rfl
  case stopped =>
    subst hr
    have ends := reportTape_next (brakeEnds_stopped hs hd hk hrest hq) rfl
    exact ends
  case playing =>
    obtain ⟨m, c, e, flag, faults⟩ := reportTape_given (brakeEnds_playing hs hd hrest hlead)
    rw [resumed, playingHanded_eq] at e faults
    exact ⟨_, withThermal_next e rfl, rfl, rfl, rfl, setMetFlags_kept _ _ _, setMetFlags_met _ _ _, flag, rfl,
      ⟨rfl, rfl, rfl⟩, rfl, ⟨rfl, rfl, rfl, rfl, rfl⟩, faults⟩
  case winding =>
    subst hr
    have ends := reportTape_next (brakeEnds_winding hs hd hlead) rfl
    exact ends
  case rewinding =>
    subst hr
    have ends := reportTape_next (brakeEnds_rewinding hs hd hlead) rfl
    exact ends
  case pulse => exact withThermal_next (reelPulse_counts hk hs) rfl
  case still => exact withThermal_next (tapeStalls_ignored hs) rfl
  case stall =>
    obtain ⟨m, c, e, hm⟩ := tapeStalls_winding hs ha hq hp
    have raised := hasFault_raiseFault (rested (stillIn .stopped s)) .tapeStall none
    have fault : m.faults.getLsbD (faultCode .tapeStall - 1) = true := by rwa [hm.faults]
    obtain ⟨m', c', frame⟩ := raiseFault_frame .tapeStall none (rested (stillIn .stopped s))
    rw [frame] at e
    exact ⟨_, withThermal_next e rfl, fault, rfl, rfl, rfl, rfl, ⟨rfl, rfl, rfl⟩, rfl, ⟨rfl, rfl, rfl, rfl, rfl⟩⟩
  case insert =>
    obtain ⟨m, c, e, flag, -⟩ := reportTape_given (insertCassette_empty hs hq)
    exact ⟨m, c, withThermal_next (f := insertCassette) e rfl, flag⟩
  case remove =>
    obtain ⟨m, c, e, flag, -⟩ := reportTape_given (removeCassette_still hs hplay hk ha hh hq)
    exact ⟨m, c, withThermal_next (f := removeCassette) e rfl, flag⟩
  case zero =>
    subst hr
    have sighted := reportTape_next (leaderChanges_zero hs) rfl
    exact sighted
  case tapeEnd =>
    obtain ⟨m, c, e, flag⟩ := leaderChanges_tapeEnd hs hfar hk ha hh hl ht hp hr hd
    exact ⟨_, withThermal_next e rfl, rfl, flag, rfl, rfl, rfl, rfl, ⟨rfl, rfl, rfl⟩, rfl, rfl, rfl⟩
  case line => exact withThermal_next (leaderChanges_line present h) rfl

end Sys2Proof.Proofs
end

section
/-! ## Volume, cue source, REFERENCE, end fade and INJECT CUE (R104, R105, R111, R117, R118, R145) -/

namespace Sys2Proof.Machine

variable {h : Hdr} {x kind : Byte} {r : Reason} {s : State} {n k g0 : Nat}

/-! ### Requests of one write -/

/-- SET VOLUME writes VOLUME within 0..63, and the gain with it in PLAYING outside an end fade (R104). -/
theorem exec_setVolume (hs : servable s) (hl : h.len = 1) :
    exec (.setVolume h x) s = .next { replied 0xAF h.tag [0, byte1 (min 63 x.toNat)] s with
      items.volume := min 63 x.toNat
      transport.gain := if s.transport.state = .playing ∧ s.transport.endFade = .idle then min 63 x.toNat
        else s.transport.gain } := by
  have served := request_writes s 0x2F 1 h
    (fun s => (.done [byte1 (clampTo 0 63 x.toNat)], writeVolume x.toNat s)) _ (writeVolume x.toNat) hs (by simp [hl])
    (fun _ _ => rfl) (fun _ => rfl) rfl
  rw [← clampTo_zero]
  exact next_congr served

theorem exec_setCueSource {c : CueSource} (hs : servable s) (hl : h.len = 1) (hc : cueSourceArg x.toNat = some c) :
    exec (.setCueSource h x) s = .next { replied 0xB0 h.tag [0] s with items.cueSource := c } := by
  have body (u : State) : setCueSourceBody x u = (.done [], { u with items.cueSource := c }) := by
    rw [setCueSourceBody, hc]
  exact next_congr (request_writes s 0x30 1 h _ (.done []) (fun u => { u with items.cueSource := c }) hs (by simp [hl])
    (fun _ _ => rfl) (fun _ => rfl) (body _))

theorem cueSourceArg_eq_none (hn : 2 < n) : cueSourceArg n = none := by
  unfold cueSourceArg
  split <;> simp at hn ⊢

theorem exec_setCueSource_refused (hs : servable s) (hl : h.len = 1) (hx : 2 < x.toNat) :
    exec (.setCueSource h x) s = .next (replied 0xB0 h.tag [2, 3] s) := by
  have body (u : State) : setCueSourceBody x u = (.refused .badArg, u) := by
    rw [setCueSourceBody, cueSourceArg_eq_none hx]
  exact next_congr (request_unchanged 0x30 1 h _ (.refused .badArg) s hs (by simp [hl]) (body _))

/-! ### The end fade -/

theorem endFadeAdvance_steps (hs : s.transport.state = .playing) (hf : s.transport.endFade = .running g0 n k)
    (hk : k + 1 < n) : endFadeAdvance s = { s with
      transport.gain := ((g0 : Int) + Int.tdiv (-(g0 : Int) * (k + 1)) n).toNat
      transport.endFade := .running g0 n (k + 1) } := by
  simp [endFadeAdvance, hs, hf, hk]

/-- The last step holds the gain at 0; outside ENDING no sequence waits on it (R105, R140). -/
theorem endFadeAdvance_ends (hs : s.transport.state = .playing) (hf : s.transport.endFade = .running g0 n k)
    (hk : n ≤ k + 1) (hp : s.cueLog.phase ≠ .ending) :
    endFadeAdvance s = { s with transport.gain := 0, transport.endFade := .held } := by
  have ended : endFadeAdvance s = audioFadeEnd { s with transport.gain := 0, transport.endFade := .held } := by
    simp [endFadeAdvance, hs, hf, Nat.not_lt.mpr hk]
  exact ended.trans (fadeEndsWith_idle _ _ _ hp)

theorem endFadeAdvance_ignored (h : s.transport.state ≠ .playing ∨ s.transport.endFade = .idle
    ∨ s.transport.endFade = .held) : endFadeAdvance s = s := by
  unfold endFadeAdvance
  split
  · next hs hf => rcases h with h | h | h <;> simp_all
  · rfl

/-! ### INJECT CUE -/

/-- The cue kinds are coded 1 to 5 (log 13). -/
theorem cueKindOfCode_eq_none (hn : n = 0 ∨ 5 < n) : cueKindOfCode n = none := by
  unfold cueKindOfCode
  split <;> simp at hn ⊢

theorem cueKindOfCode_isSome (hn : 1 ≤ n) (hn' : n ≤ 5) : ∃ k, cueKindOfCode n = some k := by
  interval_cases n
  all_goals exact ⟨_, rfl⟩

theorem injectCue_refused (r : Reason) (hs : servable s) (hl : h.len = 1)
    (hb : ∀ u : State, u.items = s.items → u.heat = s.heat → injectCueBody kind u = (.refused r, u)) :
    exec (.injectCue h kind) s = .next (replied 0xB1 h.tag [2, byte1 (reasonCode r)] s) :=
  next_congr (request_unchanged 0x31 1 h _ (.refused r) s hs (by simp [hl]) (hb _ rfl rfl))

/-- The CUE notice and record of a cue, with its flag (R145, R190). -/
theorem reportCue_reports (k : CueKind) (i : Nat) (o : Origin) (reel : Option Nat) (s : State) :
    ∃ m t, reportCue k i o reel s = { s with link := m, trace := t } ∧ Reported s.link m ∧ m.flags.getLsbD 2 = true := by
  have given := give_flag (n := .cue k i o reel) (i := 2) rfl (by decide) s
  obtain ⟨m, t, e, hm⟩ := give_reports (.cue k i o reel) s
  rw [e] at given
  rw [reportCue, e]
  split
  · exact ⟨m, t, rfl, hm, given⟩
  · obtain ⟨m', t', e', hm'⟩ := offer_reports (.cue i reel k o) { s with link := m, trace := t }
    exact ⟨m', t', e', hm.trans hm', hm'.flags 2 given⟩

/-- Without the relay a cue is not offered to it (R121). -/
theorem offerRelay_off (f : RelayFrame) (h : s.items.relayOut = false) : offerRelay f s = s := by simp [offerRelay, h]

theorem tableEntry_eq_none {table : List TableEntry} (h : ∀ e ∈ table, e.index ≠ n) : tableEntry table n = none :=
  List.find?_eq_none.mpr fun e he => by simpa using h e he

/-- A MARK with no table entry acts on nothing (R146). -/
theorem actOnCue_mark (h : tableEntry s.program.table n = none) : actOnCue .mark n s = s := by simp [actOnCue, h]

/-- An injected MARK with no table entry and no relay: the index and the CUE report, and nothing else (R118, R145, R146). -/
theorem takeCue_mark (hr : s.items.relayOut = false)
    (ht : ∀ e ∈ s.program.table, e.index ≠ min 999 (s.program.cueIndex + 1)) :
    takeCue .mark .host (some (injectedIndex .mark s)) none s = reportCue .mark (min 999 (s.program.cueIndex + 1)) .host none
      { s with program.cueIndex := min 999 (s.program.cueIndex + 1) } := by
  have counted : countedIndex (some (injectedIndex .mark s)) s = min 999 (s.program.cueIndex + 1) := by
    simp [countedIndex, injectedIndex, isCounted]
  obtain ⟨m, t, e, -⟩ := reportCue_reports .mark (min 999 (s.program.cueIndex + 1)) .host none
    { s with program.cueIndex := min 999 (s.program.cueIndex + 1) }
  rw [takeCue, isCounted, if_pos rfl, counted, offerRelay_off _ (by exact hr), e]
  exact actOnCue_mark (tableEntry_eq_none ht)

/-- A request that changes nothing of what THERMAL watches: the reply fills its place, the newest (R76, R185). -/
theorem request_fills {k : Byte} {n : Nat} {body : State → Answer × State} {a : Answer} {u : State} (hs : servable s)
    (hl : h.len.toNat = n) (hb : body (takePlace (k + 0x80) h.tag s) = (a, u)) (hh : u.heat = s.heat)
    (hu : u.link.replies.getLast? = some { kind := k + 0x80, tag := h.tag, payload := [], ready := false }) :
    request k n h body s = { u with
      link.replies := u.link.replies.dropLast ++
        [{ kind := k + 0x80, tag := h.tag, payload := answerPayload a, ready := false }] } := by
  have filled : fillReply (answerPayload a) u = { u with
      link.replies := u.link.replies.dropLast ++
        [{ kind := k + 0x80, tag := h.tag, payload := answerPayload a, ready := false }] } := by simp [fillReply, hu]
  rw [request_served k n h body s hs hl, hb, filled]
  exact settleThermal_same _ _ (by simp [thermalKey, hh])

/-- An injected MARK taken with no table entry and no relay (R118). -/
theorem injectCueBody_mark (hk : kind = BitVec.ofNat 8 (cueKindCode .mark)) (hc : s.items.cueSource = .host)
    (hp : s.heat.power = .active) (hr : s.items.relayOut = false)
    (ht : ∀ e ∈ s.program.table, e.index ≠ min 999 (s.program.cueIndex + 1)) :
    ∃ m t, injectCueBody kind s = (.done [],
        { s with link := m, trace := t, program.cueIndex := min 999 (s.program.cueIndex + 1) })
      ∧ Reported s.link m ∧ m.flags.getLsbD 2 = true := by
  obtain ⟨m, t, e, hm, flag⟩ := reportCue_reports .mark (min 999 (s.program.cueIndex + 1)) .host none
    { s with program.cueIndex := min 999 (s.program.cueIndex + 1) }
  have taken : injectCueBody kind s = (.done [], takeCue .mark .host (some (injectedIndex .mark s)) none s) := by
    simp [injectCueBody, hk, cueKindCode, cueKindOfCode, hc, hp]
  exact ⟨m, t, by rw [taken, takeCue_mark hr ht, e], hm, flag⟩

end Sys2Proof.Machine

namespace Sys2Proof.Proofs

open Sys2Proof.Machine

/-- Settles O36, command by command: requests of one write, the end fade's steps, and the one injected cue that only counts. -/
theorem audioSourceAndInjectedCues : Obligations.AudioSourceAndInjectedCues := by
  refine ⟨fun h x s => ⟨
      fun hs hl => ⟨fun v hv => ?volume, fun hx => ?tape, fun hx => ?line, fun hx => ?host, fun hx => ?badArg⟩,
      fun hs hl => ⟨fun ht => ?snap, fun ht => ?silent⟩, fun g0 n k ht hf => ⟨fun hk => ?step, fun hk hp => ?last⟩,
      fun ht => ?noFade⟩,
    fun h kind s hs hl => ⟨fun hk => ?noKind, fun hk hk' => ⟨fun hc => ?notHost, fun hc hp => ?notActive⟩,
      fun hk hc hp hr ht => ?mark⟩⟩
  case volume =>
    subst hv
    exact exec_setVolume hs hl
  case tape => exact exec_setCueSource hs hl (by rw [hx]; rfl)
  case line => exact exec_setCueSource hs hl (by rw [hx]; rfl)
  case host => exact exec_setCueSource hs hl (by rw [hx]; rfl)
  case badArg => exact exec_setCueSource_refused hs hl hx
  case snap =>
    have passed : notPlaying (takePlace (0x32 + 0x80) h.tag s) = none := if_pos ht
    exact next_congr (request_writes s 0x32 0 h _ (.done []) (fun u => { u with decoder.snap := true }) hs (by simp [hl])
      (fun _ _ => rfl) (fun _ => rfl) (by rw [unlessRefused, passed]))
  case silent =>
    have refused : notPlaying (takePlace (0x32 + 0x80) h.tag s) = some .notPermitted := if_neg ht
    exact next_congr (request_unchanged 0x32 0 h _ (.refused .notPermitted) s hs (by simp [hl])
      (by rw [unlessRefused, refused]))
  case step => exact withThermal_next (endFadeAdvance_steps ht hf hk) rfl
  case last => exact withThermal_next (endFadeAdvance_ends ht hf hk hp) rfl
  case noFade => exact withThermal_next (endFadeAdvance_ignored ht) rfl
  case noKind =>
    have unknown : cueKindOfCode kind.toNat = none := cueKindOfCode_eq_none (hk.imp_left fun h => by simp [h])
    exact injectCue_refused .badArg hs hl fun u _ _ => by rw [injectCueBody, unknown]
  case notHost =>
    obtain ⟨k, known⟩ := cueKindOfCode_isSome hk hk'
    exact injectCue_refused .notPermitted hs hl fun u hi _ => by simp [injectCueBody, known, hi, hc]
  case notActive =>
    obtain ⟨k, known⟩ := cueKindOfCode_isSome hk hk'
    exact injectCue_refused .notActive hs hl fun u hi hh => by simp [injectCueBody, known, hi, hc, hh, hp]
  case mark =>
    obtain ⟨m, c, body, hm, flag⟩ := injectCueBody_mark (s := takePlace 0xB1 h.tag s) hk hc hp hr ht
    have place := hm.newest { kind := 0xB1, tag := h.tag, payload := [], ready := false } (by simp [takePlace]) rfl
    exact ⟨_, _, next_congr (request_fills (k := 0x31) (n := 1) hs (by simp [hl]) body rfl place), flag,
      by simp [answerPayload]⟩

end Sys2Proof.Proofs
end

section
/-! ## What a fault's record reads: the link, the trace and the items, and not the Cue Decoder -/

namespace Sys2Proof.Machine

variable {f : FaultKind} {s : State}

theorem settleWatermark_decoder (d : Decoder) (s : State) :
    settleWatermark { s with decoder := d } = { settleWatermark s with decoder := d } := by
  unfold settleWatermark
  dsimp only
  split <;> rfl

theorem countPost_decoder (d : Decoder) (s : State) :
    countPost { s with decoder := d } = { countPost s with decoder := d } := by
  unfold countPost
  dsimp only
  split <;> rfl

theorem offer_decoder (b : TraceBody) (d : Decoder) (s : State) :
    offer b { s with decoder := d } = { offer b s with decoder := d } := by
  have ring := settleWatermark_decoder d { s with trace := ringPush { stamp := s.link.clock, body := b } s.trace }
  have fill := settleWatermark_decoder d { s with trace := fillPush { stamp := s.link.clock, body := b } s.trace }
  have post := countPost_decoder d
    (settleWatermark { s with trace := ringPush { stamp := s.link.clock, body := b } s.trace })
  unfold offer
  dsimp only at ring fill post ⊢
  split
  · rfl
  · exact fill
  · rfl
  · rw [ring]; exact post
  · rfl
  · exact ring

theorem actOnTrigger_decoder (b : Bool) (d : Decoder) (s : State) :
    actOnTrigger b { s with decoder := d } = { actOnTrigger b s with decoder := d } := by
  unfold actOnTrigger
  dsimp only
  split
  · split <;> rfl
  · rfl
  · rfl
  · rfl
  · rfl

theorem recordFault_decoder (b : TraceBody) (before : Bool) (d : Decoder) (s : State) :
    recordFault b before { s with decoder := d } = { recordFault b before s with decoder := d } := by
  have holds : triggerHolds { s with decoder := d } = triggerHolds s := rfl
  unfold recordFault
  dsimp only
  rw [holds]
  split
  · exact offer_decoder b d s
  · split
    · rw [actOnTrigger_decoder, offer_decoder]
    · rw [offer_decoder, actOnTrigger_decoder]

/-- A fault is cleared alike whatever the Cue Decoder is at. -/
theorem clearFault_decoder (f : FaultKind) (d : Decoder) (s : State) :
    clearFault f { s with decoder := d } = { clearFault f s with decoder := d } := by
  have stands : hasFault f { s with decoder := d } = hasFault f s := rfl
  unfold clearFault
  rw [stands]
  split
  · exact recordFault_decoder _ _ d
      (give (.fault f false none) { s with link.faults := s.link.faults &&& ~~~(faultMask f) })
  · rfl

@[simp] theorem offer_heat (b : TraceBody) (s : State) : (offer b s).heat = s.heat := by
  obtain ⟨l, t, e, -⟩ := offer_spec b s
  rw [e]

@[simp] theorem raiseFault_heat (f : FaultKind) (pos : Option LampPos) (s : State) : (raiseFault f pos s).heat = s.heat := by
  obtain ⟨l, t, e⟩ := raiseFault_frame f pos s
  rw [e]

@[simp] theorem clearFault_heat (f : FaultKind) (s : State) : (clearFault f s).heat = s.heat := by
  obtain ⟨l, t, e⟩ := clearFault_frame f s
  rw [e]

@[simp] theorem clearFault_decoder_eq (f : FaultKind) (s : State) : (clearFault f s).decoder = s.decoder := by
  obtain ⟨l, t, e⟩ := clearFault_frame f s
  rw [e]

/-- Commands of one effect, from states in which THERMAL watches the same, are one (R76). -/
theorem withThermal_congr {f g : State → State} {s u : State} (h : f s = g u) (hk : thermalKey s = thermalKey u) :
    withThermal f s = withThermal g u := by rw [withThermal, withThermal, h, hk]

end Sys2Proof.Machine
end

section
/-! ## The analysis frame (R109 to R116) -/

namespace Sys2Proof.Machine

variable {l1 l2 l3 : Byte} {tones u : BitVec 3} {n : Nat} {s w : State}

/-! ### Levels and tones -/

/-- A frame's levels taken (R109). -/
def levelled (l1 l2 l3 : Byte) (s : State) : State :=
  { s with decoder.level1 := l1.toNat, decoder.level2 := l2.toNat, decoder.level3 := l3.toNat }

/-- The tone set of a frame against the floors as they stand (R112). -/
structure Sounds (l1 l2 l3 : Byte) (tones : BitVec 3) (s : State) : Prop where
  tone1 : tones.getLsbD 0 = decide (s.decoder.floor1 + s.items.threshold1 ≤ l1.toNat)
  tone2 : tones.getLsbD 1 = decide (s.decoder.floor2 + s.items.threshold2 ≤ l2.toNat)
  tone3 : tones.getLsbD 2 = decide (s.decoder.floor3 + s.items.threshold3 ≤ l3.toNat)

/-- A tone set is its three bits (log 12). -/
theorem ofNat_flagBits (t : BitVec 3) :
    BitVec.ofNat 3 (flagBit (t.getLsbD 0) 0 + flagBit (t.getLsbD 1) 1 + flagBit (t.getLsbD 2) 2) = t := by
  revert t
  decide

theorem toneSet_levelled (h : Sounds l1 l2 l3 tones s) : toneSet (levelled l1 l2 l3 s) = tones := by
  obtain ⟨h1, h2, h3⟩ := h
  have bits := ofNat_flagBits tones
  rw [h1, h2, h3] at bits
  exact bits

/-! ### The frame -/

theorem analyse_out (h : s.transport.state ≠ .playing) : analyse l1 l2 l3 s = s := if_neg h

/-- A pending snap sets the floors to the frame's levels before the frame is taken (R111). -/
theorem analyse_snap (h : s.transport.state = .playing) (hs : s.decoder.snap = true) : analyse l1 l2 l3 s =
    analyse l1 l2 l3 { s with
      decoder.snap := false, decoder.quietFrames := 0, decoder.floor1 := l1.toNat, decoder.floor2 := l2.toNat
      decoder.floor3 := l3.toNat } := by
  simp [analyse, h, applySnap, hs]

theorem analyse_playing (h : s.transport.state = .playing) (hs : s.decoder.snap = false) (ht : Sounds l1 l2 l3 tones s) :
    analyse l1 l2 l3 s = { recogniserStep tones (levelled l1 l2 l3 s) with
      decoder := adaptFloors tones (recogniserStep tones (levelled l1 l2 l3 s)).decoder } := by
  have taken : applySnap { s.decoder with level1 := l1.toNat, level2 := l2.toNat, level3 := l3.toNat }
      = (levelled l1 l2 l3 s).decoder := if_neg (by simp [hs])
  have tones := toneSet_levelled ht
  simp only [analyse, h, if_true, taken]
  exact congrArg (fun t => { recogniserStep t (levelled l1 l2 l3 s) with
    decoder := adaptFloors t (recogniserStep t (levelled l1 l2 l3 s)).decoder }) tones

/-- A frame with a tone adapts no floor (R110). -/
theorem analyse_sounding (h : s.transport.state = .playing) (hs : s.decoder.snap = false) (ht : Sounds l1 l2 l3 tones s)
    (h0 : tones ≠ 0) : analyse l1 l2 l3 s = recogniserStep tones (levelled l1 l2 l3 s) := by
  rw [analyse_playing h hs ht, adaptFloors, if_neg h0]

/-- A silent frame before the 64th counts (R110). -/
theorem analyse_silent (h : s.transport.state = .playing) (hs : s.decoder.snap = false) (ht : Sounds l1 l2 l3 0 s)
    (hw : recogniserStep 0 (levelled l1 l2 l3 s) = w) (hq : w.decoder.quietFrames < 63) :
    analyse l1 l2 l3 s = { w with decoder.quietFrames := w.decoder.quietFrames + 1 } := by
  rw [analyse_playing h hs ht, hw, adaptFloors, if_pos rfl, if_pos (by omega)]

/-- The 64th silent frame adapts the floors (R110). -/
theorem analyse_adapts (h : s.transport.state = .playing) (hs : s.decoder.snap = false) (ht : Sounds l1 l2 l3 0 s)
    (hw : recogniserStep 0 (levelled l1 l2 l3 s) = w) (hq : w.decoder.quietFrames = 63) :
    analyse l1 l2 l3 s = { w with
      decoder.quietFrames := 0
      decoder.floor1 := adaptFloor w.decoder.floor1 w.decoder.level1
      decoder.floor2 := adaptFloor w.decoder.floor2 w.decoder.level2
      decoder.floor3 := adaptFloor w.decoder.floor3 w.decoder.level3 } := by
  rw [analyse_playing h hs ht, hw, adaptFloors, if_pos rfl, if_neg (by omega)]

/-! ### The recogniser -/

/-- A tone set that the recogniser does not hold is its new candidate (R113). -/
theorem recogniserStep_takes (h0 : tones ≠ 0)
    (hr : s.decoder.recogniser = .quiet ∨ ∃ u n, s.decoder.recogniser = .candidate u n ∧ u ≠ tones) :
    recogniserStep tones s = { s with decoder.recogniser := .candidate tones 1 } := by
  rcases hr with hr | ⟨u, n, hr, hne⟩
  · simp only [recogniserStep, hr, if_neg h0]
  · simp only [recogniserStep, hr, if_neg h0, if_neg hne.symm]

/-- A further frame of the candidate counts it (R113). -/
theorem recogniserStep_again (h0 : tones ≠ 0) (hr : s.decoder.recogniser = .candidate tones n) :
    recogniserStep tones s = candidateAt tones (n + 1) s := by
  simp only [recogniserStep, hr, if_neg h0, if_true]

theorem candidateAt_below (h : n < s.items.cueQualify) :
    candidateAt tones n s = { s with decoder.recogniser := .candidate tones n } := if_neg (Nat.not_le.mpr h)

theorem candidateAt_qualified (h : s.items.cueQualify ≤ n) : candidateAt tones n s = recognised tones n s := if_pos h

/-- The state in a burst just recognised (R113). -/
def inBurst (n : Nat) (s : State) : State := { s with decoder.recogniser := .burst, decoder.burstLen := n }

/-- A tone set without a kind is counted and recorded (R116). -/
theorem recognised_invalid (h : tones = 5 ∨ tones = 7) : recognised tones n s =
    offer (.invalid s.transport.reel tones) { inBurst n s with decoder.rejects := min 65535 (s.decoder.rejects + 1) } := by
  rcases h with rfl | rfl <;> rfl

/-- Every other tone set has its kind (R115). -/
theorem kindOfTones_isSome (h0 : tones ≠ 0) (h5 : tones ≠ 5) (h7 : tones ≠ 7) : ∃ k, kindOfTones tones = some k := by
  suffices h : (kindOfTones tones).isSome = true from Option.isSome_iff_exists.mp h
  revert tones
  decide

theorem kindOfTones_eq {kind : CueKind} (h : (tones, kind) ∈
    ([(1, .advance), (2, .reverse), (3, .mark), (4, .ending), (6, .hold)] : List (BitVec 3 × CueKind))) :
    kindOfTones tones = some kind := by
  simp only [List.mem_cons, Prod.mk.injEq, List.not_mem_nil, or_false] at h
  rcases h with ⟨rfl, rfl⟩ | ⟨rfl, rfl⟩ | ⟨rfl, rfl⟩ | ⟨rfl, rfl⟩ | ⟨rfl, rfl⟩ <;> rfl

/-- With another cue source a kind is recognised and no more (R116, R117). -/
theorem recognised_unheeded {kind : CueKind} (h : kindOfTones tones = some kind) (hc : s.items.cueSource ≠ .tape) :
    recognised tones n s = inBurst n s := by
  simp only [recognised, h, if_neg hc]
  rfl

/-- A tape cue goes to the Cue Log (R116). -/
theorem recognised_logged {kind : CueKind} (h : kindOfTones tones = some kind) (hc : s.items.cueSource = .tape) :
    recognised tones n s = logCue kind (inBurst n s) := by
  simp only [recognised, h, if_pos hc]
  rfl

/-- A tone goes on with a burst, or takes it up again from its gap (R114). -/
theorem recogniserStep_burst (h0 : tones ≠ 0) (hr : s.decoder.recogniser = .burst ∨ s.decoder.recogniser = .gap) :
    recogniserStep tones s = burstFrame s := by
  rcases hr with hr | hr <;> simp only [recogniserStep, hr, if_neg h0]

/-- A silent frame drops a candidate (R113). -/
theorem recogniserStep_drops (hr : s.decoder.recogniser = .candidate u n) :
    recogniserStep 0 s = { s with decoder.recogniser := .quiet } := by
  simp only [recogniserStep, hr, if_true]

/-- The first silent frame of a gap (R114). -/
theorem recogniserStep_pauses (hr : s.decoder.recogniser = .burst) :
    recogniserStep 0 s = { s with decoder.recogniser := .gap, decoder.gapCount := 1 } := by
  simp only [recogniserStep, hr, if_true]

/-- A further silent frame of a gap (R114). -/
theorem recogniserStep_gap (hr : s.decoder.recogniser = .gap) : recogniserStep 0 s = gapFrame (s.decoder.gapCount + 1) s := by
  simp only [recogniserStep, hr, if_true]

theorem recogniserStep_quiet (hr : s.decoder.recogniser = .quiet) : recogniserStep 0 s = s := by
  simp only [recogniserStep, hr, if_true]

/-- At CUE_GAP silent frames the recogniser is QUIET and STUCK_TONE cleared (R114). -/
theorem gapFrame_ends (h : s.items.cueGap ≤ n) :
    gapFrame n s = clearFault .stuckTone { s with decoder.recogniser := .quiet, decoder.gapCount := n } := if_pos h

theorem gapFrame_waits (h : n < s.items.cueGap) (hr : s.decoder.recogniser = .gap) :
    gapFrame n s = { s with decoder.gapCount := n } := by
  rw [gapFrame, if_neg (Nat.not_le.mpr h), ← hr]

end Sys2Proof.Machine

namespace Sys2Proof.Proofs

open Sys2Proof.Machine

/-- Settles O37: a frame is the recogniser's step on its levels (`analyse_sounding`, `analyse_silent`, `analyse_adapts`), and
the step goes by the recogniser's state. -/
theorem analysisFrameFindsTones : Obligations.AnalysisFrameFindsTones := by
  refine fun l1 l2 l3 tones s => ⟨fun hp => withThermal_next (analyse_out hp) rfl,
    fun hp hs => next_congr (withThermal_congr (analyse_snap hp hs) rfl), fun hp hs h1 h2 h3 => ?_⟩
  have sounds : Sounds l1 l2 l3 tones s := ⟨h1, h2, h3⟩
  have toned (h0 : tones ≠ 0) := analyse_sounding hp hs sounds h0
  refine ⟨fun h0 hr => ?takes, fun n h0 hr => ⟨fun hq => ?counts, fun hq ht => ?invalid, fun hq h5 h7 hc => ?unheeded,
      fun kind hq hc hk => ?logged⟩, fun len h0 hr hlen => ⟨fun hm => ?burst, fun hm => ?stuck⟩,
    fun h0 hq => ⟨fun u n hr => ?drops, fun hr => ?pauses, fun hr hg => ?waits, fun hr hg => ?ends⟩,
    fun h0 hr => ⟨fun hq => ?still, fun hq => ?adapts⟩⟩
  case takes => exact withThermal_next ((toned h0).trans (recogniserStep_takes h0 (by exact hr))) rfl
  case counts =>
    exact withThermal_next ((toned h0).trans ((recogniserStep_again h0 (by exact hr)).trans (candidateAt_below (by exact hq)))) rfl
  case invalid =>
    exact withThermal_next ((toned h0).trans ((recogniserStep_again h0 (by exact hr)).trans
      ((candidateAt_qualified (by exact hq)).trans (recognised_invalid ht)))) (offer_heat _ _)
  case unheeded =>
    obtain ⟨kind, hk⟩ := kindOfTones_isSome h0 h5 h7
    exact withThermal_next ((toned h0).trans ((recogniserStep_again h0 (by exact hr)).trans
      ((candidateAt_qualified (by exact hq)).trans (recognised_unheeded hk (by exact hc))))) rfl
  case logged =>
    exact next_congr (withThermal_congr ((toned h0).trans ((recogniserStep_again h0 (by exact hr)).trans
      ((candidateAt_qualified (by exact hq)).trans (recognised_logged (kindOfTones_eq hk) (by exact hc))))) rfl)
  case burst =>
    subst hlen
    exact withThermal_next ((toned h0).trans ((recogniserStep_burst h0 (by exact hr)).trans (if_neg (by exact Nat.not_lt.mpr hm)))) rfl
  case stuck =>
    subst hlen
    exact withThermal_next ((toned h0).trans ((recogniserStep_burst h0 (by exact hr)).trans (if_pos (by exact hm)))) (raiseFault_heat _ _ _)
  case drops =>
    subst h0
    exact withThermal_next (analyse_silent hp hs sounds (recogniserStep_drops (by exact hr)) hq) rfl
  case pauses =>
    subst h0
    exact withThermal_next (analyse_silent hp hs sounds (recogniserStep_pauses (by exact hr)) hq) rfl
  case waits =>
    subst h0
    exact withThermal_next (analyse_silent hp hs sounds ((recogniserStep_gap (by exact hr)).trans (gapFrame_waits (by exact hg) (by exact hr))) hq) rfl
  case ends =>
    subst h0
    have silent := analyse_silent hp hs sounds ((recogniserStep_gap (by exact hr)).trans (gapFrame_ends (by exact hg)))
      (by rw [clearFault_decoder_eq]; exact hq)
    rw [← clearFault_decoder, clearFault_decoder_eq] at silent
    exact withThermal_next silent (clearFault_heat _ _)
  case still =>
    subst h0
    exact withThermal_next (analyse_silent hp hs sounds (recogniserStep_quiet (by exact hr)) hq) rfl
  case adapts =>
    subst h0
    exact withThermal_next (analyse_adapts hp hs sounds (recogniserStep_quiet (by exact hr)) hq) rfl

end Sys2Proof.Proofs
end

section
/-! ## The form of a relay frame (R119, R120) -/

namespace Sys2Proof.Machine

variable {f : RelayFrame}

theorem append_ofBool_zero {n : Nat} (b : BitVec n) (p : Bool) : (b ++ BitVec.ofBool p).getLsbD 0 = p := by
  rw [BitVec.getLsbD_append]
  simp

theorem append_ofBool_succ {n : Nat} (b : BitVec n) (p : Bool) (i : Nat) :
    (b ++ BitVec.ofBool p).getLsbD (i + 1) = b.getLsbD i := by simp [BitVec.getLsbD_append]

theorem append_ofBool_extract {n l : Nat} (b : BitVec n) (p : Bool) (i : Nat) :
    (b ++ BitVec.ofBool p).extractLsb' (i + 1) l = b.extractLsb' i l := by
  refine BitVec.eq_of_getLsbD_eq fun j hj => ?_
  rw [BitVec.getLsbD_extractLsb', BitVec.getLsbD_extractLsb', Nat.add_right_comm, append_ofBool_succ]

/-- A word of kind, index and parity bit, kind first (R119). -/
def framed (k : BitVec 3) (i : BitVec 10) (p : Bool) : BitVec 14 := (k ++ i) ++ BitVec.ofBool p

theorem framed_kind (k : BitVec 3) (i : BitVec 10) (p : Bool) : (framed k i p).extractLsb' 11 3 = k :=
  (append_ofBool_extract (k ++ i) p 10).trans BitVec.extractLsb'_append_eq_left

theorem framed_index (k : BitVec 3) (i : BitVec 10) (p : Bool) : (framed k i p).extractLsb' 1 10 = i :=
  (append_ofBool_extract (k ++ i) p 0).trans BitVec.extractLsb'_append_eq_right

/-- The ones of a word with its last bit apart. -/
theorem ones_append_ofBool (b : BitVec 13) (p : Bool) :
    ((List.range 14).filter (fun i => (b ++ BitVec.ofBool p).getLsbD i)).length
      = ((List.range 13).filter (fun i => b.getLsbD i)).length + p.toNat := by
  have bits : (fun i => (b ++ BitVec.ofBool p).getLsbD (i + 1)) = fun i => b.getLsbD i :=
    funext (append_ofBool_succ b p)
  have last : (b ++ BitVec.ofBool p).getLsbD 0 = p := append_ofBool_zero b p
  rw [List.range_succ_eq_map, List.filter_cons, last, List.filter_map, Function.comp_def]
  simp only [Nat.succ_eq_add_one, bits]
  cases p <;> simp

/-- The kinds' codes fit in three bits (R119). -/
theorem cueKindCode_lt (k : CueKind) : cueKindCode k < 8 := by cases k <;> decide

theorem cueKindOfCode_cueKindCode (k : CueKind) : cueKindOfCode (cueKindCode k) = some k := by cases k <;> rfl

/-- The 13 bits of a frame before its parity bit. -/
def relayBody (f : RelayFrame) : BitVec 13 := BitVec.ofNat 3 (cueKindCode f.kind) ++ BitVec.ofNat 10 f.index

/-- The parity bit is set behind an odd number of ones (R119). -/
def relayOdd (f : RelayFrame) : Bool := ((List.range 13).filter (fun i => (relayBody f).getLsbD i)).length % 2 == 1

theorem relayWord_framed (f : RelayFrame) :
    relayWord f = framed (BitVec.ofNat 3 (cueKindCode f.kind)) (BitVec.ofNat 10 f.index) (relayOdd f) := rfl

theorem relayWord_kind (f : RelayFrame) : ((relayWord f).extractLsb' 11 3).toNat = cueKindCode f.kind := by
  rw [relayWord_framed, framed_kind, BitVec.toNat_ofNat]
  exact Nat.mod_eq_of_lt (cueKindCode_lt f.kind)

theorem relayWord_index (h : f.index ≤ 999) : ((relayWord f).extractLsb' 1 10).toNat = f.index := by
  rw [relayWord_framed, framed_index, BitVec.toNat_ofNat]
  omega

/-- A frame sent has an even number of ones (R119). -/
theorem relayWord_even (f : RelayFrame) : ((List.range 14).filter (fun i => (relayWord f).getLsbD i)).length % 2 = 0 := by
  have ones := ones_append_ofBool (relayBody f) (relayOdd f)
  change ((List.range 14).filter (fun i => (relayBody f ++ BitVec.ofBool (relayOdd f)).getLsbD i)).length % 2 = 0
  rw [ones]
  by_cases odd : ((List.range 13).filter (fun i => (relayBody f).getLsbD i)).length % 2 = 1
  · have set : relayOdd f = true := by simp [relayOdd, odd]
    rw [set, Bool.toNat_true]
    omega
  · have clear : relayOdd f = false := by simp [relayOdd, odd]
    rw [clear, Bool.toNat_false]
    omega

theorem relayBits_length (f : RelayFrame) : (relayBits f).length = 14 := by simp [relayBits]

theorem relayBits_get {i : Nat} (h : i < 14) : (relayBits f)[i]? = some ((relayWord f).getLsbD (13 - i)) := by
  simp [relayBits, h]

theorem relayPulses_eq (f : RelayFrame) :
    relayPulses f = (8, 1) :: (relayBits f).map (fun b => if b then (2, 1) else (1, 1)) := by
  have pulse : (fun b : Bool => ((if b then 2 else 1, 1) : Nat × Nat)) = fun b => if b then (2, 1) else (1, 1) := by
    funext b
    cases b <;> rfl
  rw [relayPulses, pulse]

/-- A bit lasts 2 ms, a one 1 ms more (R120). -/
theorem sum_pulses (bs : List Bool) :
    ((bs.map (fun b => ((if b then 2 else 1, 1) : Nat × Nat))).map (fun p => p.1 + p.2)).sum
      = 2 * bs.length + (bs.filter (fun b => b)).length := by
  induction bs with
  | nil => rfl
  | cons b bs ih =>
    simp only [List.map_cons, List.sum_cons, ih, List.length_cons, List.filter_cons]
    cases b <;> simp <;> omega

theorem relayFrameMs_eq (f : RelayFrame) : relayFrameMs f = 37 + ((relayBits f).filter (fun b => b)).length := by
  rw [relayFrameMs, relayPulses, List.map_cons, List.sum_cons, sum_pulses, relayBits_length]
  omega

end Sys2Proof.Machine
end

section
/-! ## Relay frames sent and received (R121 to R124) -/

namespace Sys2Proof.Machine

variable {w : BitVec 14} {f : RelayFrame} {fs : List RelayFrame} {bits : List Bool} {kind : CueKind} {n : Nat} {s : State}

/-! ### Frames sent -/

theorem relayFrameEnds_sent (h : s.decoder.relaySending = some f) :
    relayFrameEnds s = { s with decoder.relaySending := none, decoder.releaseTimer := some 0 } := by
  rw [relayFrameEnds, h]

theorem relayFrameEnds_ignored (h : s.decoder.relaySending = none) : relayFrameEnds s = s := by rw [relayFrameEnds, h]

theorem relayGapEnds_sends (h : s.decoder.releaseTimer = some n) (hq : s.decoder.relayQueue = f :: fs) :
    relayGapEnds s =
      { s with decoder.releaseTimer := none, decoder.relaySending := some f, decoder.relayQueue := fs } := by
  rw [relayGapEnds, h, hq]

theorem relayGapEnds_rests (h : s.decoder.releaseTimer = some n) (hq : s.decoder.relayQueue = []) :
    relayGapEnds s = { s with decoder.releaseTimer := none } := by rw [relayGapEnds, h, hq]

theorem relayGapEnds_ignored (h : s.decoder.releaseTimer = none) : relayGapEnds s = s := by rw [relayGapEnds, h]

/-! ### The line in -/

theorem relayWatched_iff (s : State) : relayWatched s = true ↔ s.heat.power ≠ .sleep := by simp [relayWatched]

theorem relayStartPulse_unwatched (h : s.heat.power = .sleep) : relayStartPulse s = s :=
  if_neg (by simp [relayWatched_iff, h])

theorem relayStartPulse_begins (h : s.heat.power ≠ .sleep) (hi : s.decoder.relayIn = .idle) :
    relayStartPulse s = { s with decoder.relayIn := .receiving [] } := by
  rw [relayStartPulse, if_pos ((relayWatched_iff s).mpr h), hi]

theorem relayStartPulse_again (h : s.heat.power ≠ .sleep) (hi : s.decoder.relayIn = .receiving bits) :
    relayStartPulse s = offer (.relayDrop .timing) { s with decoder.relayIn := .receiving [] } := by
  rw [relayStartPulse, if_pos ((relayWatched_iff s).mpr h), hi]
  rfl

theorem relayTimingError_idle (h : s.decoder.relayIn = .idle) : relayTimingError s = s := by rw [relayTimingError, h]

theorem relayTimingError_drops (h : s.decoder.relayIn = .receiving bits) :
    relayTimingError s = offer (.relayDrop .timing) { s with decoder.relayIn := .idle } := by
  rw [relayTimingError, h]
  rfl

theorem conflictExpires_ignored (h : s.decoder.conflictTimer = none) : conflictExpires s = s := by
  rw [conflictExpires, h]

theorem conflictExpires_clears (h : s.decoder.conflictTimer = some n) :
    conflictExpires s = clearFault .relayConflict { s with decoder.conflictTimer := none } := by
  rw [conflictExpires, h]

/-! ### A complete frame -/

/-- The line in at rest after a frame (R122). -/
def lineIdle (s : State) : State := { s with decoder.relayIn := .idle }

theorem relayParityGood_iff (w : BitVec 14) :
    relayParityGood w = true ↔ ((List.range 14).filter (fun i => w.getLsbD i)).length % 2 = 0 := by
  simp [relayParityGood]

theorem relayFrameTaken_unwatched (h : s.heat.power = .sleep) : relayFrameTaken w s = s :=
  if_neg (by simp [relayWatched_iff, h])

/-- Bad parity drops the frame (R122). -/
theorem relayFrameTaken_odd (h : s.heat.power ≠ .sleep)
    (hw : ((List.range 14).filter (fun i => w.getLsbD i)).length % 2 = 1) :
    relayFrameTaken w s = offer (.relayDrop .parity) (lineIdle s) := by
  have bad : ¬ relayParityGood w = true := by rw [relayParityGood_iff]; omega
  simp only [relayFrameTaken, (relayWatched_iff s).mpr h, if_true, if_pos bad]
  rfl

section Even

variable (h : s.heat.power ≠ .sleep) (hw : ((List.range 14).filter (fun i => w.getLsbD i)).length % 2 = 0)
include h hw

/-- A code without a kind drops the frame (R122). -/
theorem relayFrameTaken_unknown (hk : cueKindOfCode (relayKindOf w) = none) :
    relayFrameTaken w s = offer (.relayDrop .kind) (lineIdle s) := by
  have good : ¬ ¬ relayParityGood w = true := not_not_intro ((relayParityGood_iff w).mpr hw)
  simp only [relayFrameTaken, (relayWatched_iff s).mpr h, if_true, if_neg good, hk]
  rfl

/-- A good frame is a conflict, a cue from the line, or nothing (R122 to R124). -/
theorem relayFrameTaken_good (hk : cueKindOfCode (relayKindOf w) = some kind) : relayFrameTaken w s =
    if originates s then relayConflict (lineIdle s)
    else if s.items.cueSource = .line then lineCue kind (relayIndexOf w) (lineIdle s)
    else lineIdle s := by
  have good : ¬ ¬ relayParityGood w = true := not_not_intro ((relayParityGood_iff w).mpr hw)
  simp only [relayFrameTaken, (relayWatched_iff s).mpr h, if_true, if_neg good, hk]
  rfl

theorem relayFrameTaken_unheeded (hk : cueKindOfCode (relayKindOf w) = some kind) (hr : s.items.relayOut = false)
    (hc : s.items.cueSource ≠ .line) : relayFrameTaken w s = lineIdle s := by
  rw [relayFrameTaken_good h hw hk, if_neg (by simp [originates, hr]), if_neg hc]

theorem relayFrameTaken_conflict (hk : cueKindOfCode (relayKindOf w) = some kind) (hr : s.items.relayOut = true)
    (hc : s.items.cueSource ≠ .line) : relayFrameTaken w s = relayConflict (lineIdle s) := by
  rw [relayFrameTaken_good h hw hk, if_pos (by simp [originates, hr, hc])]

theorem relayFrameTaken_line (hk : cueKindOfCode (relayKindOf w) = some kind) (hc : s.items.cueSource = .line) :
    relayFrameTaken w s = lineCue kind (relayIndexOf w) (lineIdle s) := by
  rw [relayFrameTaken_good h hw hk, if_neg (by simp [originates, hc]), if_pos hc]

end Even

/-- A conflict with nothing queued raises its fault and starts its time (R124). -/
theorem relayConflict_unqueued (hq : s.decoder.relayQueue = []) : ∃ l t,
    relayConflict s = { s with link := l, trace := t, decoder.conflictTimer := some 0 }
      ∧ l.faults.getLsbD (faultCode .relayConflict - 1) = true := by
  obtain ⟨l, t, e⟩ := raiseFault_frame .relayConflict none s
  have raised := hasFault_raiseFault s .relayConflict none
  rw [e] at raised
  refine ⟨l, t, ?_, raised⟩
  rw [relayConflict, loseRelayQueue, e]
  dsimp only
  rw [hq, relayLost, ← hq]

theorem lineCue_standby (n : Nat) (h : s.heat.power = .standby) : lineCue kind n s = offer (.relayDrop .notActive) s :=
  if_neg (by simp [h])

theorem isCounted_iff (k : CueKind) : isCounted k = true ↔ k = .advance ∨ k = .mark := by cases k <;> simp [isCounted]

/-- A line cue with no slip: one that is not counted, or comes next (R123). -/
theorem lineCue_next (h : s.heat.power = .active) (hk : kind ≠ .advance ∧ kind ≠ .mark ∨ n = s.program.cueIndex + 1) :
    lineCue kind n s = takeCue kind .line (some (min 999 n)) none s := by
  have unslipped : (if isCounted kind then lineSlip n s else s) = s := by
    rw [ite_eq_right_iff, isCounted_iff]
    intro counted
    exact if_pos (hk.resolve_left fun g => counted.elim g.1 g.2)
  rw [lineCue, if_pos h, unslipped]

/-- A counted line cue out of turn slips (R123). -/
theorem lineCue_slips (h : s.heat.power = .active) (hk : kind = .advance ∨ kind = .mark)
    (hn : n ≠ s.program.cueIndex + 1) :
    lineCue kind n s = takeCue kind .line (some (min 999 n)) none
      (report (.cueSlip (s.program.cueIndex + 1) n .line none)
        (.cueSlip (min 999 n) none (s.program.cueIndex + 1) .line) s) := by
  rw [lineCue, if_pos h, if_pos ((isCounted_iff kind).mpr hk), lineSlip]
  exact congrArg (takeCue kind .line (some (min 999 n)) none) (if_neg hn)

end Sys2Proof.Machine

namespace Sys2Proof.Proofs

open Sys2Proof.Machine

/-- Settles O39: the line out frame by frame, the line in by what becomes of a frame (`relayFrameTaken_good`), and the word
by its three fields (`relayWord_framed`). -/
theorem relayFramesComeAndGo : Obligations.RelayFramesComeAndGo := by
  refine fun w s => ⟨fun f hf => next_congr (relayFrameEnds_sent hf), fun hf => next_congr (relayFrameEnds_ignored hf),
    fun n f fs hn hq => next_congr (relayGapEnds_sends hn hq), fun n hn hq => next_congr (relayGapEnds_rests hn hq),
    fun hn => next_congr (relayGapEnds_ignored hn),
    fun hp => ⟨next_congr (relayStartPulse_unwatched hp), withThermal_next (relayFrameTaken_unwatched hp) rfl⟩,
    fun hp => ⟨fun hi => next_congr (relayStartPulse_begins hp hi), fun bits hi => next_congr (relayStartPulse_again hp hi),
      fun hw => ?parity, fun hw => ⟨fun hk => ?noKind, fun hk hk' => ?good⟩⟩, fun f hf => ?word,
    fun hi => next_congr (relayTimingError_idle hi), fun bits hi => next_congr (relayTimingError_drops hi),
    fun hn => next_congr (conflictExpires_ignored hn), fun n hn => next_congr (conflictExpires_clears hn)⟩
  case parity => exact withThermal_next (relayFrameTaken_odd hp hw) (offer_heat _ _)
  case noKind => exact withThermal_next (relayFrameTaken_unknown hp hw (cueKindOfCode_eq_none hk)) (offer_heat _ _)
  case good =>
    obtain ⟨k, known⟩ := cueKindOfCode_isSome hk hk'
    refine ⟨fun hr hc => withThermal_next (relayFrameTaken_unheeded hp hw known hr hc) rfl, fun hr hc hq => ?conflict,
      fun hc ha => ?standby, fun kind index hc ha hi hcode => ?cue⟩
    case conflict =>
      obtain ⟨l, t, e, raised⟩ := relayConflict_unqueued (s := lineIdle s) hq
      exact ⟨l, t, withThermal_next ((relayFrameTaken_conflict hp hw known hr hc).trans e) rfl, raised⟩
    case standby =>
      exact withThermal_next ((relayFrameTaken_line hp hw known hc).trans (lineCue_standby _ ha)) (offer_heat _ _)
    case cue =>
      subst hi
      have line := relayFrameTaken_line hp hw ((congrArg cueKindOfCode hcode).trans (cueKindOfCode_cueKindCode kind)) hc
      refine ⟨fun hn => ?_, fun counted hn => ?_⟩
      · exact next_congr (withThermal_congr (line.trans (lineCue_next ha hn)) rfl)
      · exact next_congr (withThermal_congr (line.trans (lineCue_slips ha counted hn)) rfl)
  case word =>
    exact ⟨relayWord_kind f, relayWord_index hf, relayWord_even f, relayBits_length f, fun i hi => relayBits_get hi,
      relayPulses_eq f, relayFrameMs_eq f⟩

end Sys2Proof.Proofs
end

section
/-! ## Taking a cue (R121, R144 to R147) -/

namespace Sys2Proof.Machine

variable {kind : CueKind} {origin : Origin} {index reel : Option Nat} {i n t level p : Nat} {f : RelayFrame} {e : MoveEntry}
  {m : Move} {s : State}

/-! ### The relay-out queue (R121) -/

/-- An offer to the relay reaches the link, the trace and the decoder. -/
theorem offerRelay_spec (f : RelayFrame) (s : State) :
    ∃ l t d, offerRelay f s = { s with link := l, trace := t, decoder := d } := by
  have recorded (r : Reason) :
      ∃ l t d, offer (.relayLost f.index f.kind r) s = { s with link := l, trace := t, decoder := d } := by
    obtain ⟨l, t, e, -⟩ := offer_spec (.relayLost f.index f.kind r) s
    exact ⟨l, t, s.decoder, e⟩
  unfold offerRelay
  split
  · split
    · exact recorded _
    · split
      · exact ⟨_, _, _, rfl⟩
      · split
        · exact ⟨_, _, _, rfl⟩
        · exact recorded _
  · exact ⟨_, _, _, rfl⟩

theorem offerRelay_conflict (hr : s.items.relayOut = true) (hc : hasFault .relayConflict s = true) :
    offerRelay f s = offer (.relayLost f.index f.kind .conflict) s := by rw [offerRelay, if_pos hr, if_pos hc]

/-- Past a conflict the line sends the frame, the queue takes it, or it is lost (R121). -/
theorem offerRelay_open (hr : s.items.relayOut = true) (hc : hasFault .relayConflict s = false) : offerRelay f s =
    if s.decoder.relaySending = none ∧ s.decoder.relayQueue = [] ∧ s.decoder.releaseTimer = none then
      { s with decoder.relaySending := some f }
    else if s.decoder.relayQueue.length < 4 then { s with decoder.relayQueue := s.decoder.relayQueue ++ [f] }
    else offer (.relayLost f.index f.kind .full) s := by
  rw [offerRelay, if_pos hr, if_neg (by simp [hc])]

theorem offerRelay_sends (hr : s.items.relayOut = true) (hc : hasFault .relayConflict s = false)
    (hs : s.decoder.relaySending = none) (hq : s.decoder.relayQueue = []) (ht : s.decoder.releaseTimer = none) :
    offerRelay f s = { s with decoder.relaySending := some f } := by
  rw [offerRelay_open hr hc, if_pos ⟨hs, hq, ht⟩]

section Behind

variable (hr : s.items.relayOut = true) (hc : hasFault .relayConflict s = false)
  (hb : s.decoder.relaySending ≠ none ∨ s.decoder.relayQueue ≠ [] ∨ s.decoder.releaseTimer ≠ none)
include hr hc hb

theorem offerRelay_queues (hl : s.decoder.relayQueue.length < 4) :
    offerRelay f s = { s with decoder.relayQueue := s.decoder.relayQueue ++ [f] } := by
  rw [offerRelay_open hr hc, if_neg (by tauto), if_pos hl]

theorem offerRelay_full (hl : 4 ≤ s.decoder.relayQueue.length) :
    offerRelay f s = offer (.relayLost f.index f.kind .full) s := by
  rw [offerRelay_open hr hc, if_neg (by tauto), if_neg (Nat.not_lt.mpr hl)]

end Behind

/-! ### The cue handed to its owners (R144 to R146) -/

theorem countedIndex_eq (index : Option Nat) (s : State) :
    countedIndex index s = min 999 (index.getD (s.program.cueIndex + 1)) := by
  cases index <;> rfl

/-- A cue offered to the relay and reported, with the cue index `i` it leaves (R121, R144, R145). -/
def cueReported (kind : CueKind) (i : Nat) (origin : Origin) (reel : Option Nat) (s : State) : State :=
  reportCue kind i origin reel (offerRelay { kind := kind, index := i } { s with program.cueIndex := i })

theorem cueReported_table : (cueReported kind i origin reel s).program.table = s.program.table := by
  obtain ⟨l, t, d, relayed⟩ := offerRelay_spec { kind := kind, index := i } { s with program.cueIndex := i }
  obtain ⟨l', t', reported, -⟩ := reportCue_reports kind i origin reel
    (offerRelay { kind := kind, index := i } { s with program.cueIndex := i })
  rw [cueReported, reported, relayed]

/-- A cue taken is its report, then its act, at the index it leaves (R144, R145). -/
theorem takeCue_eq (hc : kind = .advance ∨ kind = .mark → i = min 999 (index.getD (s.program.cueIndex + 1)))
    (hn : kind = .reverse ∨ kind = .hold ∨ kind = .ending → i = s.program.cueIndex) :
    takeCue kind origin index reel s = actOnCue kind i (cueReported kind i origin reel s) := by
  rw [← countedIndex_eq] at hc
  unfold takeCue cueReported
  cases kind
  case advance => rw [isCounted, if_pos rfl, hc (.inl rfl)]
  case mark => rw [isCounted, if_pos rfl, hc (.inr rfl)]
  case reverse => rw [isCounted, if_neg Bool.false_ne_true, hn (.inl rfl)]
  case hold => rw [isCounted, if_neg Bool.false_ne_true, hn (.inr (.inl rfl))]
  case ending => rw [isCounted, if_neg Bool.false_ne_true, hn (.inr (.inr rfl))]

/-- The indices of a table are distinct (R148). -/
theorem tableEntry_of_mem {table : List TableEntry} {x : TableEntry} (h : tableLaw table) (hx : x ∈ table) :
    tableEntry table x.index = some x := by
  obtain ⟨-, -, ascending, -⟩ := h
  have distinct : (table.map (fun y => y.index)).Nodup := ascending.imp Nat.ne_of_lt
  have unique (y : TableEntry) (hy : y ∈ table) (he : (y.index == x.index) = true) : y = x :=
    List.inj_on_of_nodup_map distinct hy hx (by simpa using he)
  exact find?_of_unique hx (by simp) unique

theorem takeActions_eq_foldl (kind : CueKind) (i : Nat) (as : List Action) (s : State) :
    takeActions kind i as s = as.foldl (fun u a => takeAction kind i a u) s := by
  induction as generalizing s with
  | nil => rfl
  | cons a as ih => exact ih (takeAction kind i a s)

/-- An ADVANCE or MARK with a table entry hands out its actions (R146, R147). -/
theorem actOnCue_entry {x : TableEntry} (hk : kind = .advance ∨ kind = .mark)
    (hx : tableEntry s.program.table i = some x) :
    actOnCue kind i s = x.actions.foldl (fun u a => takeAction kind i a u) s := by
  rw [← takeActions_eq_foldl]
  rcases hk with rfl | rfl <;> simp only [actOnCue, hx]

/-- An ADVANCE without a table entry steps on (R146). -/
theorem actOnCue_advance (hx : tableEntry s.program.table i = none) :
    actOnCue .advance i s = offerCueMove i (.step 1) s := by simp only [actOnCue, hx]

/-! ### Moves of a cue (R22, R25) -/

theorem offerMove_refused {r : Reason} (h : offerRefusal e s = some r) : offerMove e s = (some r, s) := by
  rw [offerMove, h]

/-- No check meets a move of another source than the host (R22). -/
theorem offerRefusal_open (ho : movesOpen s) (hh : e.source ≠ .host) : offerRefusal e s = none := by
  obtain ⟨active, seated, clear⟩ := ho
  unfold offerRefusal
  rw [if_neg (not_not_intro active), if_neg (by simp [traySeated, seated]), if_neg (by simp [clear])]
  split
  · next hs _ => exact absurd hs hh
  · rfl

/-- Behind a running cycle, with nothing queued, a move not of the host joins the queue (R20, R21, R22). -/
theorem offerMove_joins (hh : e.source ≠ .host) (ho : movesOpen s) (hs : s.changer.stage ≠ .idle)
    (hq : s.changer.queue = []) : offerMove e s = (none, { s with changer.queue := [joined e s] }) := by
  have alone : mergeSum e s = none := by simp [mergeSum, hq]
  have behind : startReady { s with changer.queue := s.changer.queue ++ [joined e s] }
      = { s with changer.queue := s.changer.queue ++ [joined e s] } := startReady_busy (by exact hs)
  rw [offerMove, offerRefusal_open ho hh, alone]
  dsimp only
  rw [behind, hq]
  rfl

/-- A cue's move that is dropped gives CUE LOST (R25). -/
theorem offerCueMove_lost {r : Reason} (i : Nat) (m : Move) (h : offerRefusal (plainMove .cue m) s = some r) :
    offerCueMove i m s = report (.cueLost i r) (.cueLost i r) s := by
  rw [offerCueMove, offerMove_refused h]

theorem offerCueMove_joins (i : Nat) (m : Move) (ho : movesOpen s) (hs : s.changer.stage ≠ .idle)
    (hq : s.changer.queue = []) :
    offerCueMove i m s = { s with changer.queue := [joined (plainMove .cue m) s] } := by
  rw [offerCueMove, offerMove_joins (by simp [plainMove]) ho hs hq]

/-! ### Actions (R147) -/

/-- A FADE to a dark lamp without AUTO_STRIKE sets its levels (R52). -/
theorem takeAction_fade (ha : s.items.autoStrike = false) (hl : s.lamp.state = .off ∨ s.lamp.state = .failed) :
    takeAction kind i (.fade level n) s = { s with lamp.show_ := level, lamp.preset := level } := by
  have faded : takeCueFade level n s = { s with lamp.show_ := level, lamp.preset := level } := by
    rcases hl with hl | hl <;> simp [takeCueFade, takeFade, ha, hl]
  rw [takeAction, withDarkTest_still _ _ (by rw [faded]) (by rw [faded]), faded]

/-- The effective period in milliseconds (R153). -/
theorem effectivePeriod_ms (p : Option Nat) (s : State) :
    effectivePeriod { s with program.period := p } * 100 = periodMs p s := by
  unfold effectivePeriod gateOverride periodMs
  cases s.changer.gate with
  | unknown => rfl
  | empty => rfl
  | loaded =>
    cases s.tray.position with
    | none => rfl
    | some q => cases q <;> rfl

theorem takeAction_timerStart_unpowered (h : s.heat.power ≠ .active) :
    takeAction kind i (.timerStart p) s = { s with program.period := some p } := if_neg h

theorem takeAction_timerStart (h : s.heat.power = .active) (ht : s.program.timer = .stopped)
    (hh : s.program.hold = none) : takeAction kind i (.timerStart p) s =
      { s with program.period := some p, program.remaining := periodMs (some p) s, program.timer := .running } := by
  rw [takeAction, startTimerAction, if_pos h, ← effectivePeriod_ms]
  simp only [startTimer, ht, hh]
  rfl

theorem stopTimer_runs (h : s.program.timer ≠ .stopped) : stopTimer s =
    { s with program.timer := .stopped, program.hold := s.program.hold.map (fun m => { m with timerHeld := false }) } :=
  if_neg h

theorem takeHold_on (h : s.program.hold ≠ none) : takeHold s = s := by
  obtain ⟨m, hm⟩ := Option.ne_none_iff_exists'.mp h
  rw [takeHold, hm]

/-- Out of PLAYING the show hold pauses the timer alone (R151). -/
theorem takeHold_still (h : s.program.hold = none) (hs : s.transport.state ≠ .playing) : takeHold s = { s with
    program.hold := some { tapeHeld := false, timerHeld := decide (s.program.timer = .running) }
    program.timer := if s.program.timer = .running then .paused else s.program.timer } := by
  by_cases ht : s.program.timer = .running <;> simp [takeHold, h, hs, holdTimer, ht, markTimerHeld]

end Sys2Proof.Machine
end

section
/-! ## The end sequence and the end of the audio fade (R139, R140) -/

namespace Sys2Proof.Machine

variable {l : Lamp} {d : PendingDest} {g0 n k : Nat} {s u w : State}

/-! ### The lamp's part (R51) -/

/-- The lamp led to keep-warm by its state, but for a lit one with FADE_OUT 0 (R51). -/
structure LampLed (l : Lamp) (s : State) : Prop where
  still : s.lamp.state = .off ∨ s.lamp.state = .failed ∨ s.lamp.state = .lit ∧ powerDownRuns s.lamp = true → l = s.lamp
  preheat : s.lamp.state = .preheat → l = { s.lamp with dest := .keepWarm, destRamp := .fadeOut }
  swapping : s.lamp.state = .swapping →
    l = { s.lamp with swap := s.lamp.swap.map (fun w => { w with resume := .keepWarm }) }
  lit : s.lamp.state = .lit → powerDownRuns s.lamp = false → 0 < s.items.fadeOut ∧ l = { s.lamp with
    fade := some { kind := .endFade, a := s.lamp.ramp, b := s.items.keepWarm, n := s.items.fadeOut, k := 0 }
    restriking := false }

theorem lampEndFade_lit (h : s.lamp.state = .lit) (hr : powerDownRuns s.lamp = false) :
    lampEndFade s = startFade .endFade s.items.keepWarm s.items.fadeOut s := by simp [lampEndFade, h, hr]

theorem lampEndFade_led (h : LampLed l s) :
    lampEndFade s = { s with lamp := l } ∧ l.darkWaiting = s.lamp.darkWaiting := by
  cases hs : s.lamp.state with
  | off =>
    obtain rfl := h.still (.inl hs)
    exact ⟨by simp [lampEndFade, hs], rfl⟩
  | failed =>
    obtain rfl := h.still (.inr (.inl hs))
    exact ⟨by simp [lampEndFade, hs], rfl⟩
  | preheat =>
    obtain rfl := h.preheat hs
    exact ⟨by simp [lampEndFade, hs], rfl⟩
  | swapping =>
    obtain rfl := h.swapping hs
    exact ⟨by simp [lampEndFade, hs, setResume], rfl⟩
  | lit =>
    by_cases runs : powerDownRuns s.lamp = true
    · obtain rfl := h.still (.inr (.inr ⟨hs, runs⟩))
      exact ⟨by simp [lampEndFade, hs, runs], rfl⟩
    · have burns : powerDownRuns s.lamp = false := by simpa using runs
      obtain ⟨slow, rfl⟩ := h.lit hs burns
      exact ⟨(lampEndFade_lit hs burns).trans (startFade_steps (k := .endFade) nofun (Nat.ne_of_gt slow) _ s), rfl⟩

/-! ### The sequence (R139) -/

theorem endSequence_ignored (h : s.cueLog.phase ≠ .idle) : endSequence s = s := if_neg h

theorem decideRestart_unarmed (h : s.cueLog.armed = false) : decideRestart s = s := by simp [decideRestart, h]

theorem decideRestart_again (h : s.cueLog.armed = true) (hl : s.program.loops ≠ 1) :
    decideRestart s = { s with cueLog.restart := true, program.loops := s.program.loops - 1 } := by
  rw [decideRestart, if_pos h, if_neg hl]

theorem decideRestart_complete (h : s.cueLog.armed = true) (hl : s.program.loops = 1) :
    decideRestart s = give (.loopEnded .complete none 1 s.transport.reel)
      { s with cueLog := { s.cueLog with armed := false, restart := false, phase := phaseAfterEnd s.cueLog.phase } } := by
  rw [decideRestart, if_pos h, if_pos hl, endLoop_armed _ _ _ h, hl]

/-- The sequence under way: phase ENDING, timer stopped, hold cleared (R139). -/
def ending (s : State) : State :=
  { s with cueLog.phase := .ending, program.hold := none, program.timer := .stopped }

theorem stopTimer_unheld (h : s.program.hold = none) : stopTimer s = { s with program.timer := .stopped } := by
  unfold stopTimer markTimerHeld
  split
  · next ht => rw [← ht]
  · simp [h]

theorem endSequence_eq (hp : s.cueLog.phase = .idle) (hw : decideRestart s = w) :
    endSequence s = requestEndFade (withDarkTest lampEndFade (ending w)) := by
  rw [endSequence, if_pos hp, hw]
  exact congrArg (fun v => requestEndFade (withDarkTest lampEndFade v)) (stopTimer_unheld rfl)

/-- With the lamp led and no dark request waiting, the sequence comes to its request for the audio fade (R139). -/
theorem endSequence_led (hp : s.cueLog.phase = .idle) (hd : s.lamp.darkWaiting = false) (hl : LampLed l s)
    (hw : decideRestart s = w) (lamp : w.lamp = s.lamp) (items : w.items = s.items) :
    endSequence s = requestEndFade { ending w with lamp := l } := by
  have led : LampLed l (ending w) := by
    obtain ⟨still, preheat, swapping, lit⟩ := hl
    rw [← lamp, ← items] at lit
    rw [← lamp] at still preheat swapping
    exact ⟨still, preheat, swapping, lit⟩
  obtain ⟨faded, waiting⟩ := lampEndFade_led led
  have dark : l.darkWaiting = false := by rw [waiting, ← hd, ← lamp]; rfl
  rw [endSequence_eq hp hw, withDarkTest_eq faded dark]

/-- A lit lamp with FADE_OUT 0 is at keep-warm at once (R51). -/
theorem endSequence_dims (hp : s.cueLog.phase = .idle) (hd : s.lamp.darkWaiting = false) (hl : s.lamp.state = .lit)
    (hr : powerDownRuns s.lamp = false) (h0 : s.items.fadeOut = 0)
    (hw : decideRestart s = w) (lamp : w.lamp = s.lamp) (heat : w.heat = s.heat) (items : w.items = s.items) :
    ∃ h, endSequence s = requestEndFade { ending w with
      heat := h
      lamp := driven { s with lamp := { s.lamp with ramp := s.items.keepWarm, fade := none, restriking := false } } } := by
  obtain ⟨h, dims⟩ := startFade_zero .endFade w.items.keepWarm (ending w)
  have faded : lampEndFade (ending w) = startFade .endFade w.items.keepWarm 0 (ending w) := by
    rw [← h0, ← items]
    exact lampEndFade_lit (by rw [← hl, ← lamp]; rfl) (by rw [← hr, ← lamp]; rfl)
  have drive : driven { ending w with lamp := { w.lamp with ramp := w.items.keepWarm, fade := none, restriking := false } }
      = driven { s with lamp := { s.lamp with ramp := s.items.keepWarm, fade := none, restriking := false } } := by
    rw [lamp, items]
    simp only [driven, ending, heat]
  have dimmed := (faded.trans dims)
  refine ⟨h, ?_⟩
  rw [endSequence_eq hp hw, withDarkTest_eq dimmed (by simpa [driven, ending, lamp] using hd)]
  exact congrArg (fun x => requestEndFade { ending w with heat := h, lamp := x }) drive

theorem requestEndFade_starts (hs : s.transport.state = .playing) (hf : s.transport.endFade = .idle)
    (h0 : 0 < s.items.endFade) :
    requestEndFade s = { s with transport.endFade := .running s.transport.gain s.items.endFade 0 } := by
  simp only [requestEndFade, hs, hf, if_neg (Nat.ne_of_gt h0)]

theorem requestEndFade_still (hs : s.transport.state ≠ .playing) : requestEndFade s = audioFadeEnd s := by
  unfold requestEndFade
  split
  · contradiction
  · contradiction
  · rfl

/-! ### The end of the audio fade (R140) -/

theorem fadeEndStop_still (hs : s.transport.state ≠ .playing) (hs' : s.transport.state ≠ .paused) : fadeEndStop s = s :=
  if_neg fun h => h.elim hs hs'

/-- Without a restart the end of the fade at rest or in a brake is the phase IDLE alone. -/
theorem audioFadeEnd_idles (hs : s.transport.state ≠ .playing) (hs' : s.transport.state ≠ .paused)
    (hr : s.cueLog.restart = false) :
    audioFadeEnd s = { s with cueLog.phase := if s.cueLog.phase = .ending then .idle else s.cueLog.phase } := by
  by_cases hp : s.cueLog.phase = .ending
  · have stops := fadeEndsWith_stops fadeEndStop (showMotion id .rewind) s hp (by rwa [fadeEndStop_still hs hs'])
    rw [fadeEndStop_still hs hs'] at stops
    rwa [if_pos hp]
  · rw [if_neg hp]
    exact fadeEndsWith_idle _ _ _ hp

/-- With a restart it is its STOP and what the REWIND leaves. -/
theorem audioFadeEnd_rewinds (hp : s.cueLog.phase = .ending) (hr : (fadeEndStop s).cueLog.restart = true)
    (hu : showMotion id .rewind { fadeEndStop s with cueLog.phase := .rewinding } = (none, u)) : audioFadeEnd s = u := by
  unfold audioFadeEnd fadeEndsWith
  rw [if_pos hp]
  dsimp only
  rw [if_pos hr, hu]

/-- The destination of the show's own request. -/
def showDest (x : Dest) : PendingDest := { dest := x, source := .show_, tag := none }

/-- During a brake a request of any source but SEEK replaces the destination (R92). -/
theorem moveTape_pends {enter : MotionReq → MotionSource → TapeEnds → State → State} {src : MotionSource} (req : MotionReq)
    (tag : Option Byte) (hs : s.transport.state = .stopping) (hq : src ≠ .seek) : moveTape enter req src tag s =
      (true, reportEnds (causeWith (cancelledSeek src s) src) (replacedEnds (cancelledSeek src s) s)
        (setPending { dest := pendingOf req, source := src, tag := tag } (unsought s))) := by
  have other : .stopping ≠ destState req := by cases req <;> nofun
  simp [moveTape, hs, hq, other, unsought]

/-- A brake with no tagged request takes the show's REWIND for its destination (R91, R92). -/
theorem showMotion_rewind_stopping (hs : s.transport.state = .stopping) (hd : pendingTag s = none)
    (hk : s.transport.seek = none) (hp : s.heat.power = .active) (hf : hasFault .tapeStall s = false) :
    showMotion id .rewind s = (none, clearSeekCue (setPending (showDest .rewinding) s)) := by
  have allowed := motionRefusal_none (req := .rewind) hp (by simp [hs]) hf nofun
  have ends : replacedEnds (cancelledSeek .show_ s) s = endsNothing := by
    simp [replacedEnds, cancelledSeek, hk, hs, hd, endsPending]
  have moved : moveTape enterShow .rewind .show_ none s = (true, setPending (showDest .rewinding) s) := by
    rw [moveTape_pends (src := .show_) _ _ hs nofun, ends, unsought_eq hk]
    rfl
  rw [showMotion, allowed]
  dsimp only
  rw [takeMotion_no_fade _ _ _ _ _ _ _ (fadeRuns_still (.inl (by simp [hs]))), moved]
  rfl

/-- The show's STOP in PLAYING, its fade over, brakes (R91, R92, R140). -/
theorem fadeEndStop_playing (hs : s.transport.state = .playing) (hk : s.transport.seek = none)
    (hf : hasFault .tapeStall s = false) :
    fadeEndStop s = clearSeekCue (reportTape .showCause endsNothing (brakeTo (showDest .stopped) s)) := by
  have allowed : motionRefusal .stop s = none := by simp [motionRefusal, hs, hf]
  have moved : moveTape enterShow .stop .show_ none s =
      (true, reportTape .showCause endsNothing (brakeTo (showDest .stopped) (unsought s))) := by
    simp [moveTape, destState, hs, pendingOf, showDest, cancelledSeek, hk, replacedEnds, causeWith, causeOf, unsought]
  rw [unsought_eq hk] at moved
  have taken : showMotion id .stop s = (none, handMotion .stop .show_ true (moveTape enterShow .stop .show_ none s).2) := by
    simp only [showMotion, allowed, takeMotion, id, ite_self]
  rw [fadeEndStop, if_pos (.inl hs), taken, moved]
  rfl

/-! ### What leaving a state leaves -/

/-- The hold after a state is left: PAUSED loses its tape-held mark (R151). -/
def leftHold (s : State) : Option HoldMarks :=
  if s.transport.state = .paused then s.program.hold.map (fun m => { m with tapeHeld := false }) else s.program.hold

/-- The state after a brake begins, but for reports and STUCK_TONE (R89, R93, R104, R109, R151). -/
def braked (d : PendingDest) (s : State) : State :=
  { s with
    transport := { leftBehind s.transport with
      state := .stopping, dest := some d, dir := brakeDir s.transport.state, brakeTimer := some 0, stallTimer := none }
    decoder := leftDecoder s
    program.hold := leftHold s }

theorem leaveTape_left (s : State) : Reports { s.link with faults := (leaveTape s).link.faults }
    { s with transport := leftBehind s.transport, decoder := leftDecoder s, program.hold := leftHold s } (leaveTape s) := by
  by_cases hs : s.transport.state = .playing
  · have left : leaveTape s = clearFault .stuckTone
        { s with transport := leftBehind s.transport, decoder := leftDecoder s, program.hold := leftHold s } := by
      simp [leaveTape, hs, exitPlaying, leftBehind, leftDecoder, leftHold]
    rw [left]
    exact clearFault_reports _ _
  · rw [leftBehind_still hs, leftDecoder, if_neg hs]
    by_cases hp : s.transport.state = .paused
    · have left : leaveTape s = { s with program.hold := leftHold s } := by
        simp [leaveTape, hp, unmarkTapeHeld, leftHold]
      rw [left]
      exact .refl { s with program.hold := leftHold s }
    · rw [leaveTape_still hs (absurd · hp), leftHold, if_neg hp]
      exact .refl s

theorem brakeTo_reports (d : PendingDest) (s : State) :
    Reports { s.link with faults := (leaveTape s).link.faults } (braked d s) (brakeTo d s) :=
  (leaveTape_left s).brakeTo d

/-- Of the faults only STUCK_TONE goes with a state left (R104). -/
theorem leaveTape_tapeStall (s : State) :
    (leaveTape s).link.faults.getLsbD (faultCode .tapeStall - 1) = s.link.faults.getLsbD (faultCode .tapeStall - 1) := by
  unfold leaveTape
  split
  · have kept : hasFault .tapeStall (exitPlaying s) = (hasFault .tapeStall s && !decide (FaultKind.tapeStall = .stuckTone)) :=
      hasFault_clear _ _ _
    exact kept.trans (by simp [hasFault])
  · rfl
  · rfl

/-- The audio faded out, its end not yet handed on (R105). -/
def fadedOut (s : State) : State := { s with transport.gain := 0, transport.endFade := .held }

/-- The last step of the end fade of an ending show: the STOP, and with a restart the REWIND behind it (R105, R140). -/
theorem endFadeAdvance_stops (hs : s.transport.state = .playing) (hf : s.transport.endFade = .running g0 n k)
    (hn : n ≤ k + 1) (hp : s.cueLog.phase = .ending) (ha : s.heat.power = .active)
    (hstall : hasFault .tapeStall s = false) (hk : s.transport.seek = none) :
    ∃ m c, endFadeAdvance s = { braked (showDest (if s.cueLog.restart then .rewinding else .stopped)) s with
      link := m, trace := c
      cueLog := { s.cueLog with seekCue := none, phase := if s.cueLog.restart then .rewinding else .idle } } := by
  have ended : endFadeAdvance s = audioFadeEnd (fadedOut s) := by
    simp [endFadeAdvance, hs, hf, Nat.not_lt.mpr hn, fadedOut]
  obtain ⟨m, c, stopped, hm⟩ :=
    ((brakeTo_reports (showDest .stopped) (fadedOut s)).reportTape .showCause endsNothing).clearSeekCue
  rw [← fadeEndStop_playing (s := fadedOut s) hs hk hstall] at stopped
  have left : braked (showDest .stopped) (fadedOut s) = braked (showDest .stopped) s := by
    simp [braked, leftBehind, leftDecoder, leftHold, hs, fadedOut]
  rw [left] at stopped
  have unstalled : m.faults.getLsbD (faultCode .tapeStall - 1) = false := by
    rw [hm.faults]
    exact (leaveTape_tapeStall _).trans hstall
  rw [ended]
  cases hr : s.cueLog.restart with
  | false =>
    have idles := fadeEndsWith_stops fadeEndStop (showMotion id .rewind) (fadedOut s) hp (by rw [stopped]; exact hr)
    rw [stopped] at idles
    exact ⟨m, c, idles⟩
  | true =>
    have rewound := showMotion_rewind_stopping
      (s := { clearSeekCue (braked (showDest .stopped) s) with link := m, trace := c, cueLog.phase := .rewinding })
      rfl rfl (by exact hk) ha unstalled
    exact ⟨m, c, audioFadeEnd_rewinds hp (by rw [stopped]; exact hr) (by rw [stopped]; exact rewound)⟩

end Sys2Proof.Machine
end

section
/-! ## The chase of a loop (R141, R155 to R157) -/

namespace Sys2Proof.Machine

variable {o : ChaseOwner} {i : Nat} {s u : State}

/-! ### What the simulated show reads (R156) -/

/-- The tray, the items and the cue table of `u` are those of `s`. -/
structure SimAlike (s u : State) : Prop where
  tray : u.tray = s.tray
  items : u.items = s.items
  table : u.program.table = s.program.table

/-- A chase reads the tray, the items, the cue table and the log, the map and the start map. -/
structure ChaseAlike (s u : State) : Prop extends SimAlike s u where
  map : u.program.activeMap = s.program.activeMap
  startMap : u.cueLog.startMap = s.cueLog.startMap
  entries : u.cueLog.entries = s.cueLog.entries

theorem traySize_alike (h : SimAlike s u) : traySize u = traySize s := by rw [traySize, traySize, h.tray]

theorem walk_alike (h : SimAlike s u) : walk u = walk s := by
  have size := traySize_alike h
  have member : eligible u = eligible s := by
    funext m slot
    simp only [eligible, inMap, knownAbsent, slotRec, size, h.tray, h.items]
  funext m c n
  simp only [walk, size, member, h.items]

theorem simStep_alike (h : SimAlike s u) : simStep u = simStep s := by
  funext n m
  simp only [simStep, walk_alike h]

theorem simAction_alike (h : SimAlike s u) : simAction u = simAction s := by
  funext a m
  simp only [simAction, simStep_alike h, traySize_alike h]

theorem simActions_alike (h : SimAlike s u) : simActions u = simActions s := by
  funext as
  induction as with
  | nil => rfl
  | cons a as ih =>
    funext m
    rw [simActions, simActions, ih, simAction_alike h]

theorem simCounted_alike (h : SimAlike s u) : simCounted u = simCounted s := by
  funext kind i m
  simp only [simCounted, simActions_alike h, simStep_alike h, h.table]

theorem simEntry_alike (h : SimAlike s u) : simEntry u = simEntry s := by
  funext e m
  simp only [simEntry, simCounted_alike h, simStep_alike h]

theorem simEntries_alike (h : SimAlike s u) : simEntries u = simEntries s := by
  funext es
  induction es with
  | nil => rfl
  | cons e es ih =>
    funext m
    rw [simEntries, simEntries, ih, simEntry_alike h]

theorem simTail_alike (h : SimAlike s u) : simTail u = simTail s := by
  funext is
  induction is with
  | nil => rfl
  | cons i is ih =>
    funext m
    rw [simTail, simTail, ih, simCounted_alike h]

theorem chaseResult_alike (h : ChaseAlike s u) (i : Nat) : chaseResult i u = chaseResult i s := by
  have start : simStart u = simStart s := by
    simp only [simStart, traySize_alike h.toSimAlike, h.items, h.map, h.startMap]
  simp only [chaseResult, simTail_alike h.toSimAlike, simEntries_alike h.toSimAlike, start, h.entries]

/-! ### The chase taken -/

/-- What a chase of the Cue Log leaves behind a running cycle with nothing queued: its GOTO, the map and the cue index. -/
def chased (o : ChaseOwner) (i : Nat) (r : Sim) (s : State) : State :=
  { s with
    changer.queue := [{ source := .chase, move := .goto r.slot, tags := [], owner := some o }]
    changer.cycle := s.changer.cycle.map (fun c => { c with entry := disown c.entry })
    program.activeMap := r.map
    program.cueIndex := i }

theorem logChase_chased (o : ChaseOwner) (i : Nat) (ho : movesOpen s) (hs : s.changer.stage ≠ .idle)
    (hq : s.changer.queue = []) : logChase o i s = chased o i (chaseResult i s) s := by
  have simulated : chaseResult i (disownAll s) = chaseResult i s :=
    chaseResult_alike (s := s) (u := disownAll s) ⟨⟨rfl, rfl, rfl⟩, rfl, rfl, rfl⟩ i
  have emptied := clearQueue_empty .aborted (s := { disownAll s with program.activeMap := (chaseResult i s).map })
    (by simp [disownAll, hq])
  have offered := offerMove_joins (e := { source := .chase, move := .goto (chaseResult i s).slot, tags := [], owner := some o })
    (s := { disownAll s with program.activeMap := (chaseResult i s).map }) nofun (by exact ho) (by exact hs)
    (by simp [disownAll, hq])
  rw [logChase, if_pos (by simp [traySeated, ho.2.1]), runChase, simulated, applyChase, emptied, offerChaseMove, offered]
  rfl

/-! ### Rest after the loop's rewind (R141) -/

theorem brakeEnds_rests {src : MotionSource} (hs : s.transport.state = .stopping)
    (hd : s.transport.dest = some { dest := .stopped, source := src, tag := none }) (hk : s.transport.seek = none) :
    brakeEnds s = sleepTest (reportTape (causeOf src) endsNothing (restEvent (stillIn .stopped s))) := by
  rw [brakeEnds_enters hs hd, enterPending]
  simp only [hk]
  rw [enterStopped, leaveTape_stopping hs]
  simp only [hk]
  rfl

/-- At rest after backward motion, the mark cleared and the cue index after a resync (R95, R135). -/
def restedStill (s : State) : State := resync { stillIn .stopped s with transport.backMark := false }

theorem restEvent_marked (hb : s.transport.backMark = true) : restEvent (stillIn .stopped s) = loopRest (restedStill s) :=
  if_pos hb

theorem loopRest_zero (hp : s.cueLog.phase = .rewinding) (hz : s.transport.reel = 0) (hk : s.transport.zeroKnown = true) :
    loopRest s = logChase .loop 0 { s with cueLog.phase := .chasing } := by
  rw [loopRest, if_pos hp, if_pos ⟨hz, hk⟩]

theorem loopRest_elsewhere (hp : s.cueLog.phase = .rewinding) (h : s.transport.reel ≠ 0 ∨ s.transport.zeroKnown = false) :
    loopRest s = endLoop .rewindStopped none s := by
  rw [loopRest, if_pos hp, if_neg]
  rintro ⟨hz, hk⟩
  rcases h with h | h
  · exact h hz
  · simp [hk] at h

/-- A rest at tape zero asks for the chase to 0. -/
theorem brakeEnds_chases {src : MotionSource} (hs : s.transport.state = .stopping)
    (hd : s.transport.dest = some { dest := .stopped, source := src, tag := none }) (hb : s.transport.backMark = true)
    (hk : s.transport.seek = none) (hp : s.cueLog.phase = .rewinding) (hq : s.heat.sleepPending = .clear)
    (hz : s.transport.reel = 0) (hzk : s.transport.zeroKnown = true) (ho : movesOpen s) (hst : s.changer.stage ≠ .idle)
    (he : s.changer.queue = []) :
    ∃ m c, brakeEnds s = { chased .loop 0 (chaseResult 0 s) { restedStill s with cueLog.phase := .chasing } with
      link := m, trace := c } := by
  have simulated : chaseResult 0 { restedStill s with cueLog.phase := .chasing } = chaseResult 0 s :=
    chaseResult_alike (s := s) (u := { restedStill s with cueLog.phase := .chasing }) ⟨⟨rfl, rfl, rfl⟩, rfl, rfl, rfl⟩ 0
  have asked := (loopRest_zero (s := restedStill s) hp hz hzk).trans
    (logChase_chased .loop 0 (s := { restedStill s with cueLog.phase := .chasing }) ho hst he)
  rw [simulated] at asked
  obtain ⟨m, c, e, -⟩ := (reportTape_reports (causeOf src) endsNothing
    (chased .loop 0 (chaseResult 0 s) { restedStill s with cueLog.phase := .chasing })).sleepTest hq
  exact ⟨m, c, by rw [brakeEnds_rests hs hd hk, restEvent_marked hb, asked, e]⟩

/-- The flags of the Cue Log after a loop's end (R142). -/
def loopOver (q : CueLog) : CueLog := { q with armed := false, restart := false, phase := phaseAfterEnd q.phase }

/-- A loop that ends gives LOOP ENDED and its flag (R142, R190). -/
theorem endLoop_over (r : Reason) (d : Option Reason) (ha : s.cueLog.armed = true) :
    Reports s.link { s with cueLog := loopOver s.cueLog } (endLoop r d s)
      ∧ (endLoop r d s).link.flags.getLsbD 16 = true := by
  rw [endLoop_armed _ _ _ ha]
  exact ⟨give_reports _ { s with cueLog := loopOver s.cueLog }, give_flag (i := 16) rfl (by decide) _⟩

/-- Another rest of an armed loop ends it. -/
theorem brakeEnds_endsLoop {src : MotionSource} (hs : s.transport.state = .stopping)
    (hd : s.transport.dest = some { dest := .stopped, source := src, tag := none }) (hb : s.transport.backMark = true)
    (hk : s.transport.seek = none) (hp : s.cueLog.phase = .rewinding) (hq : s.heat.sleepPending = .clear)
    (hz : s.transport.reel ≠ 0 ∨ s.transport.zeroKnown = false) (ha : s.cueLog.armed = true) :
    ∃ m c, brakeEnds s = { restedStill s with link := m, trace := c, cueLog := loopOver s.cueLog }
      ∧ m.flags.getLsbD 16 = true := by
  obtain ⟨⟨m, c, ended, hm⟩, flag⟩ := endLoop_over (s := restedStill s) .rewindStopped none ha
  rw [ended] at flag
  obtain ⟨m', c', e, hm'⟩ := (reportTape_reports (causeOf src) endsNothing
    { restedStill s with link := m, trace := c, cueLog := loopOver s.cueLog }).sleepTest hq
  refine ⟨m', c', ?_, hm'.flags 16 flag⟩
  rw [brakeEnds_rests hs hd hk, restEvent_marked hb, loopRest_elsewhere (s := restedStill s) hp hz, ended]
  exact e

/-! ### The chase done (R141) -/

/-- In OFF with no dark request waiting a light request finds nothing to do (R55). -/
theorem lightRequest_off (hl : s.lamp.state = .off) (hd : s.lamp.darkWaiting = false) : lightRequest s = s :=
  calc lightRequest s
    _ = { s with lamp.darkWaiting := false } := by simp [lightRequest, hl]
    _ = s := by rw [← hd]

/-- LIGHT but for the lamp: the shutter open and no claim before a LOADED gate (R34). -/
def inLight (s : State) : State :=
  { s with
    changer.stage := .light
    changer.shutterOpen := s.changer.shutterOpen || decide (s.changer.gate = .loaded)
    changer.claim := if s.changer.gate = .loaded then .clear else s.changer.claim }

theorem lightStage_off (hl : s.lamp.state = .off) (hd : s.lamp.darkWaiting = false) : lightStage s = inLight s := by
  have dark := lightRequest_off (s := { s with
    changer.stage := .light, changer.shutterOpen := true, changer.claim := .clear }) hl hd
  unfold lightStage inLight
  by_cases hg : s.changer.gate = .loaded
  · rw [if_pos hg]
    dsimp only at dark ⊢
    rw [dark, ite_self]
    simp [hg]
  · simp [hg]

/-- DONE is its notices and record, and at most a reload of the timer (R26, R35, R153). -/
theorem doneStage_reloads (s : State) : ∃ n, Reports s.link { s with program.remaining := n } (doneStage s) := by
  unfold doneStage
  split
  · next c _ =>
    obtain ⟨m, t, e, hm⟩ := (giveAll_reports (doneNotices c.entry s.tray.position (cycleOutcome c)) s).offer
      (.moveDone s.tray.position c.entry.source c.entry.move (cycleOutcome c))
    rw [e, timerMoveDone]
    split
    · exact ⟨s.program.remaining, m, t, rfl, hm⟩
    · exact ⟨_, m, t, rfl, hm⟩
  · exact ⟨s.program.remaining, .refl s⟩

theorem programLight_off (hl : s.lamp.state = .off) (hd : s.lamp.darkWaiting = false) : programLight s = s := by
  rw [programLight, lightRequest_off hl hd, ite_self]

/-- What the restart's PLAY from STOPPED leaves, but for its report (R89, R136, R141). -/
def restarted (s : State) : State :=
  clearSeekCue (playingHanded .restart (rested { s with transport := playTape s.items.volume s.transport }))

theorem ownPlay_restart (hp : s.heat.power = .active) (hs : s.transport.state = .stopped) (hk : s.transport.seek = none)
    (hf : hasFault .tapeStall s = false) (hl : s.lines.leader = false) (hq : s.cueLog.phase = .idle) :
    ∃ u, ownPlay .restart s = (none, u) ∧ Reports s.link (restarted s) u := by
  have allowed := motionRefusal_none (req := .play) hp (by simp [hs]) hf nofun
  have moved : moveTape enterNow .play .restart none s = (false, enterPlaying .restart .showCause endsNothing (unsought s)) := by
    simp [moveTape, destState, hs, enterNow, causeOf, cancelledSeek, hk, replacedEnds, unsought]
  have entered := enterPlaying_eq .restart .showCause endsNothing (leaveTape_stopped hs) (by simp [hq]) (.inl hl)
  have link : (playingHanded .restart (rested { s with transport := playTape s.items.volume s.transport })).link = s.link := by
    rw [playingHanded_eq]
    rfl
  refine ⟨clearSeekCue (enterPlaying .restart .showCause endsNothing s), ?_, ?_⟩
  · rw [unsought_eq hk] at moved
    rw [ownPlay, allowed]
    dsimp only
    rw [takeMotion_no_fade _ _ _ _ _ _ _ (fadeRuns_still (.inl (by simp [hs]))), moved]
    rfl
  · have reports := reportTape_reports .showCause endsNothing
      (playingHanded .restart (rested { s with transport := playTape s.items.volume s.transport }))
    rw [link, ← entered] at reports
    exact reports.clearSeekCue

/-- The state as the loop's chase is done, its restart due (R141). -/
def restartDue (s : State) : State := { s with cueLog.phase := .idle, cueLog.restart := false }

theorem chaseComplete_loop (hc : s.cueLog.phase = .chasing) (hl : s.lamp.state = .off) (hd : s.lamp.darkWaiting = false)
    (hp : s.heat.power = .active) (hs : s.transport.state = .stopped) (hk : s.transport.seek = none)
    (hf : hasFault .tapeStall s = false) (hlead : s.lines.leader = false) :
    Reports s.link (restarted (restartDue s)) (chaseComplete (some .loop) s) := by
  have lit : withDarkTest programLight (restartDue s) = restartDue s :=
    withDarkTest_eq (programLight_off (s := restartDue s) hl hd) hd
  obtain ⟨u, played, reports⟩ := ownPlay_restart (s := restartDue s) hp hs hk hf hlead rfl
  have completed : chaseComplete (some .loop) s = u := by
    unfold chaseComplete
    dsimp only
    rw [if_pos hc]
    rw [← restartDue, lit, played]
  rw [completed]
  exact reports

/-- The restart's PLAY loads no loops and arms no loop (R136). -/
theorem playingHanded_restart (s : State) : playingHanded .restart s = { s with
    cueLog.entries := setMetFlags s.transport.reel s.items.matchWindow s.cueLog.entries
    cueLog.startMap :=
      if s.transport.reel = 0 ∧ s.transport.zeroKnown then some s.program.activeMap else s.cueLog.startMap } := by
  rw [playingHanded_eq]
  simp

theorem restarted_eq (s : State) : ∃ log map index, restarted s = { s with
    transport := { playTape s.items.volume s.transport with backMark := false }
    cueLog := { s.cueLog with entries := log, startMap := map, seekCue := none }
    program.cueIndex := index } := by
  rw [restarted, playingHanded_restart]
  exact ⟨_, _, _, rfl⟩

/-- The end of SETTLE of a loop's chase, nothing queued and no sleep pending: IDLE, and the restart's PLAY (R35, R141). -/
theorem settleEnds_restarts {c : Cycle} (hst : s.changer.stage = .settle) (hcy : s.changer.cycle = some c)
    (ho : c.entry.owner = some .loop) (hab : c.aborted = false) (hq : s.changer.queue = [])
    (hc : s.cueLog.phase = .chasing) (hl : s.lamp.state = .off) (hd : s.lamp.darkWaiting = false)
    (hp : s.heat.power = .active) (hs : s.transport.state = .stopped) (hk : s.transport.seek = none)
    (hf : hasFault .tapeStall s = false) (hlead : s.lines.leader = false) (hsl : s.heat.sleepPending = .clear) :
    ∃ m t n log map index, settleEnds s = toIdle { inLight s with
      link := m, trace := t
      transport := { playTape s.items.volume s.transport with backMark := false }
      cueLog := { s.cueLog with
        entries := log, startMap := map, seekCue := none, phase := .idle, restart := false }
      program.remaining := n
      program.cueIndex := index } := by
  have event : settleEnds s = startReady (sleepTest (toIdle (chaseComplete (some .loop) (doneStage (lightStage s))))) := by
    simp [settleEnds, hst, hcy, ho, hab]
  obtain ⟨n, m, t, done, hm⟩ := doneStage_reloads (inLight s)
  have unstalled : m.faults.getLsbD (faultCode .tapeStall - 1) = false := hm.faults ▸ hf
  obtain ⟨m', t', completed, -⟩ := chaseComplete_loop
    (s := { inLight s with link := m, trace := t, program.remaining := n }) hc hl hd hp hs hk unstalled hlead
  obtain ⟨log, map, index, plays⟩ := restarted_eq
    (restartDue { inLight s with link := m, trace := t, program.remaining := n })
  refine ⟨m', t', n, log, map, index, ?_⟩
  rw [event, lightStage_off hl hd, done, completed, plays, sleepTest_clear (by exact hsl)]
  exact startReady_empty hq

end Sys2Proof.Machine
end

section
/-! ## STOP of the host ends the show loop (R91, R92, R105, R142) -/

namespace Sys2Proof.Machine

variable {b : Byte} {h : Hdr} {a : Answer} {s u w : State}

/-- The Cue Log after a STOP of the host: no loop, and the phase ENDING only of a sequence whose fade goes on unheard of. -/
def loopStopped (s : State) : CueLog :=
  { s.cueLog with
    armed := false, restart := false
    phase := if s.cueLog.phase = .ending ∧ fadeRuns s = false then .ending else .idle
    seekCue := if s.transport.state = .noTape then s.cueLog.seekCue else none }

theorem phaseAfterEnd_eq (p : LoopPhase) : phaseAfterEnd p = if p = .ending then .ending else .idle := by
  cases p <;> rfl

/-- `u` is `w` but for link and trace: LOOP ENDED stands among the pending flags, and the newest reply, not yet ready, is the
one of `l`. -/
def EndsLoop (l : Link) (w u : State) : Prop :=
  ∃ m c, u = { w with link := m, trace := c } ∧ m.flags.getLsbD 16 = true
    ∧ ∀ r, l.replies.getLast? = some r → r.ready = false → m.replies.getLast? = some r

/-- STOP handed to the Cue Log ends the armed loop, and a taken one the seek-cue record (R91, R138, R142). -/
theorem handMotion_stop (taken : Bool) (s : State) : handMotion .stop .host taken s =
    if taken then clearSeekCue (endLoop .host none s) else endLoop .host none s := by
  simp [handMotion]

theorem handMotion_refused {l : Link} (hu : Reports l w u) (ha : w.cueLog.armed = true) :
    EndsLoop l { w with cueLog := loopOver w.cueLog } (handMotion .stop .host false u) := by
  obtain ⟨m, c, rfl, hm⟩ := hu
  obtain ⟨⟨m', c', ended, hm'⟩, flag⟩ := endLoop_over (s := { w with link := m, trace := c }) .host none ha
  rw [ended] at flag
  rw [handMotion_stop, if_neg Bool.false_ne_true, ended]
  exact ⟨m', c', rfl, flag, fun r hr hn => hm'.newest r (hm.newest r hr hn) hn⟩

theorem handMotion_ends {l : Link} (hu : Reports l w u) (ha : w.cueLog.armed = true) :
    EndsLoop l { w with cueLog := { loopOver w.cueLog with seekCue := none } } (handMotion .stop .host true u) := by
  obtain ⟨m, c, ended, flag, newest⟩ := handMotion_refused hu ha
  have taken : handMotion .stop .host true u = clearSeekCue (handMotion .stop .host false u) := by
    rw [handMotion_stop, handMotion_stop]
    rfl
  rw [taken, ended]
  exact ⟨m, c, rfl, flag, newest⟩

/-! ### The request by tape state -/

/-- With a tape and no fade to cut short the Cue Log ends the loop and the seek-cue record. -/
theorem loopStopped_still (hs : s.transport.state ≠ .noTape) (hf : fadeRuns s = false) :
    loopStopped s = { loopOver s.cueLog with seekCue := none } := by
  simp [loopStopped, loopOver, phaseAfterEnd_eq, hf, hs]

theorem motionRefusal_stop (hs : s.transport.state ≠ .noTape) (hf : hasFault .tapeStall s = false) : motionRefusal .stop s = none := by
  simp [motionRefusal, hs, hf]

/-- The destination of the host's STOP. -/
def hostStop (b : Byte) : PendingDest := { dest := .stopped, source := .host, tag := some b }

section Taken

variable (ha : s.cueLog.armed = true)
include ha

/-- Without a tape STOP moves nothing (R91; log 42). -/
theorem hostMotion_stop_noTape (hs : s.transport.state = .noTape) :
    ∃ u, hostMotion .stop b s = (.done [], u) ∧ EndsLoop s.link { s with cueLog := loopStopped s } u := by
  have refused : motionRefusal .stop s = some .notPermitted := motionRefusal_noTape nofun hs
  have still : fadeRuns s = false := fadeRuns_still (.inl (by simp [hs]))
  have log : loopStopped s = loopOver s.cueLog := by simp [loopStopped, loopOver, phaseAfterEnd_eq, still, hs]
  refine ⟨handMotion .stop .host false s, by simp [hostMotion, refused], ?_⟩
  rw [log]
  exact handMotion_refused (.refl s) ha

variable (hk : s.transport.seek = none) (hf : hasFault .tapeStall s = false)
include hk hf

/-- In STOPPED it is DONE (R92). -/
theorem hostMotion_stop_stopped (hs : s.transport.state = .stopped) :
    ∃ u, hostMotion .stop b s = (.done [], u) ∧ EndsLoop s.link { s with cueLog := loopStopped s } u := by
  have still : fadeRuns s = false := fadeRuns_still (.inl (by simp [hs]))
  have moved : moveTape enterNow .stop .host (some b) s = (false, unsought s) := by
    simp [moveTape, destState, hs, cancelledSeek, hk, replacedEnds, reportEnds, unsought]
  rw [unsought_eq hk] at moved
  refine ⟨handMotion .stop .host true s, ?_, ?_⟩
  · rw [hostMotion_taken b (motionRefusal_stop (by simp [hs]) hf) still, moved]
    rfl
  · rw [loopStopped_still (by simp [hs]) still]
    exact handMotion_ends (.refl s) ha

/-- In STOPPING it takes the destination (R92). -/
theorem hostMotion_stop_stopping (hs : s.transport.state = .stopping) :
    ∃ u, hostMotion .stop b s = (.accepted [], u) ∧ EndsLoop s.link { s with
      transport.dest := some (hostStop b), cueLog := loopStopped s } u := by
  have still : fadeRuns s = false := fadeRuns_still (.inl (by simp [hs]))
  have moved := moveTape_pends (enter := enterNow) (src := .host) .stop (some b) hs nofun
  rw [unsought_eq hk] at moved
  refine ⟨handMotion .stop .host true (moveTape enterNow .stop .host (some b) s).2, ?_, ?_⟩
  · rw [hostMotion_taken b (motionRefusal_stop (by simp [hs]) hf) still, moved]
    rfl
  · rw [loopStopped_still (by simp [hs]) still, moved]
    exact handMotion_ends (reportEnds_reports _ _ (setPending (hostStop b) s)) ha

/-- Out of motion it brakes; a fade cut short ends the sequence behind it (R92, R105, R140). -/
theorem hostMotion_stop_moving (hm : inMotion s.transport.state = true) :
    ∃ u, hostMotion .stop b s = (.accepted [], u) ∧ EndsLoop s.link
      { braked (hostStop b) s with cueLog := loopStopped s } u := by
  have taped : s.transport.state ≠ .noTape := by rintro hn; simp [inMotion, hn] at hm
  have away : s.transport.state ≠ destState .stop := by rintro hn; simp [inMotion, hn, destState] at hm
  have moved : moveTape enterNow .stop .host (some b) s = (true, reportTape (causeWith (cancelledSeek .host s) .host)
      (replacedEnds (cancelledSeek .host s) s) (brakeTo (hostStop b) s)) := by
    rw [moveTape_brakes _ hm away (fun _ => nofun) (fun _ => nofun), unsought_eq hk]
    rfl
  obtain ⟨m, c, handed, flag, newest⟩ := handMotion_ends ((brakeTo_reports
    (hostStop b) s).reportTape (causeWith (cancelledSeek .host s) .host)
    (replacedEnds (cancelledSeek .host s) s)) ha
  have taken : takeRequest .stop .host (some b) s =
      (true, cutIf (fadeRuns s) (handMotion .stop .host true (moveTape enterNow .stop .host (some b) s).2)) := by
    unfold takeRequest takeMotion cutIf
    rw [moved]
    simp only [ne_eq, away, not_false_eq_true, and_true]
  have answered : hostMotion .stop b s = (.accepted [],
      cutIf (fadeRuns s) (handMotion .stop .host true (moveTape enterNow .stop .host (some b) s).2)) := by
    rw [hostMotion, motionRefusal_stop taped hf]
    dsimp only
    rw [taken]
    rfl
  refine ⟨_, answered, ?_⟩
  rw [moved]
  dsimp only
  rw [handed]
  cases runs : fadeRuns s with
  | false =>
    rw [loopStopped_still taped runs]
    exact ⟨m, c, rfl, flag, newest⟩
  | true =>
    have cut := audioFadeEnd_idles (s := { braked (hostStop b) s with
      link := m, trace := c, cueLog := { loopOver s.cueLog with seekCue := none } }) nofun nofun rfl
    have log : loopStopped s = { loopOver s.cueLog with
        seekCue := none
        phase := if phaseAfterEnd s.cueLog.phase = .ending then .idle else phaseAfterEnd s.cueLog.phase } := by
      simp [loopStopped, loopOver, phaseAfterEnd_eq, runs, taped]
    rw [log]
    exact ⟨m, c, cut, flag, newest⟩

end Taken

/-! ### The request as a command -/

/-- A STOP that ends a loop and leaves what THERMAL watches is answered, LOOP ENDED pending (R76, R185). -/
theorem stop_answered (hs : servable s) (hl : h.len = 0)
    (hb : ∃ u, hostMotion .stop h.tag (takePlace 0xA9 h.tag s) = (a, u) ∧ EndsLoop (takePlace 0xA9 h.tag s).link w u)
    (hh : w.heat = s.heat) :
    ∃ m c, exec (.stop h) s = .next { w with link := m, trace := c } ∧ m.flags.getLsbD 16 = true
      ∧ lastReply 0xA9 h.tag (answerPayload a) { w with link := m, trace := c } := by
  obtain ⟨u, body, m, c, rfl, flag, newest⟩ := hb
  have place := newest { kind := 0xA9, tag := h.tag, payload := [], ready := false } (by simp [takePlace]) rfl
  have fills := request_fills (k := 0x29) (n := 0) (u := { w with link := m, trace := c }) hs (by simp [hl]) body hh place
  exact ⟨_, _, next_congr fills, flag, by simp [lastReply]⟩

theorem braked_transport (d : PendingDest) (s : State) : (braked d s).transport = { s.transport with
    state := .stopping, dest := some d, dir := if s.transport.state = .rewinding then .backward else .forward
    brakeTimer := some 0, stallTimer := none
    gain := if s.transport.state = .playing then 0 else s.transport.gain
    endFade := if s.transport.state = .playing then .idle else s.transport.endFade } := by
  have dir : brakeDir s.transport.state = if s.transport.state = .rewinding then .backward else .forward := by
    cases s.transport.state <;> rfl
  rw [← dir]
  rfl

theorem inMotion_or (k : TapeState) : inMotion k = true ∨ k = .stopping ∨ k = .stopped ∨ k = .noTape := by
  cases k <;> simp [inMotion]

theorem leftHold_eq (s : State) : leftHold s =
    s.program.hold.map (fun m => { m with tapeHeld := m.tapeHeld && s.transport.state != .paused }) := by
  by_cases hs : s.transport.state = .paused
  · simp [leftHold, hs]
  · have moving : (s.transport.state != .paused) = true := by simpa using hs
    simp [leftHold, hs, moving]

end Sys2Proof.Machine
end

section
/-! ## The end sequence by the Transport's state (R139, R140) -/

namespace Sys2Proof.Machine

variable {l : Lamp} {s : State}

/-- The restart decision reaches no lamp, heat, item or tape (R139). -/
theorem decideRestart_frame (s : State) : (decideRestart s).lamp = s.lamp ∧ (decideRestart s).heat = s.heat
    ∧ (decideRestart s).items = s.items ∧ (decideRestart s).transport = s.transport := by
  unfold decideRestart
  split
  · split
    · obtain ⟨q, ⟨m, c, e, -⟩, -⟩ := endLoop_reports .complete none s
      rw [e]
      exact ⟨rfl, rfl, rfl, rfl⟩
    · exact ⟨rfl, rfl, rfl, rfl⟩
  · exact ⟨rfl, rfl, rfl, rfl⟩

/-- In PLAYING the sequence comes to its audio fade (R105, R139). -/
theorem endSequence_fades {w : State} (hp : s.cueLog.phase = .idle) (hd : s.lamp.darkWaiting = false) (hl : LampLed l s)
    (hs : s.transport.state = .playing) (hf : s.transport.endFade = .idle) (h0 : 0 < s.items.endFade)
    (hw : decideRestart s = w) : endSequence s = { ending w with
      lamp := l, transport.endFade := .running w.transport.gain w.items.endFade 0 } := by
  obtain ⟨lamp, -, items, transport⟩ := decideRestart_frame s
  rw [hw] at lamp items transport
  rw [endSequence_led hp hd hl hw lamp items]
  exact requestEndFade_starts (by rw [← hs, ← transport]; rfl) (by rw [← hf, ← transport]; rfl)
    (by rw [← items] at h0; exact h0)

/-- Out of PLAYING and PAUSED, with no loop, its end is handed on at once, the phase IDLE again (R140). -/
theorem endSequence_unheard (hp : s.cueLog.phase = .idle) (hd : s.lamp.darkWaiting = false) (hl : LampLed l s)
    (hs : s.transport.state ≠ .playing) (hs' : s.transport.state ≠ .paused) (ha : s.cueLog.armed = false)
    (hr : s.cueLog.restart = false) :
    endSequence s = { s with lamp := l, program.hold := none, program.timer := .stopped } := by
  have idles := audioFadeEnd_idles (s := { ending s with lamp := l }) hs hs' hr
  have kept : { s.cueLog with phase := .idle } = s.cueLog := by rw [← hp]
  rw [endSequence_led hp hd hl (decideRestart_unarmed ha) rfl rfl, requestEndFade_still (by exact hs), idles]
  exact congrArg (fun q => { s with lamp := l, cueLog := q, program.hold := none, program.timer := .stopped }) kept

/-- In a brake for no tagged request a restart takes its REWIND for the destination (R140, R141). -/
theorem endSequence_rewinds (hp : s.cueLog.phase = .idle) (hd : s.lamp.darkWaiting = false) (hl : LampLed l s)
    (hs : s.transport.state = .stopping) (ht : ∀ d, s.transport.dest = some d → d.tag = none)
    (hk : s.transport.seek = none) (hpow : s.heat.power = .active) (hf : hasFault .tapeStall s = false)
    (ha : s.cueLog.armed = true) (hn : s.program.loops ≠ 1) : endSequence s = { s with
      lamp := l, program.hold := none, program.timer := .stopped, program.loops := s.program.loops - 1
      cueLog.phase := .rewinding, cueLog.restart := true, cueLog.seekCue := none
      transport.dest := some (showDest .rewinding) } := by
  have untagged : pendingTag s = none := by
    rw [pendingTag]
    cases hdest : s.transport.dest with
    | none => rfl
    | some d => exact ht d hdest
  have moving : s.transport.state ≠ .playing ∧ s.transport.state ≠ .paused := by simp [hs]
  have again := decideRestart_again ha hn
  rw [endSequence_led hp hd hl again rfl rfl, requestEndFade_still (by exact moving.1)]
  refine audioFadeEnd_rewinds rfl ?_ ?_
  · rw [fadeEndStop_still (by exact moving.1) (by exact moving.2)]
    rfl
  · rw [fadeEndStop_still (by exact moving.1) (by exact moving.2)]
    exact showMotion_rewind_stopping hs untagged hk hpow hf

/-- A lit lamp led to keep-warm at once, behind the audio fade's start (R51). -/
theorem endSequence_lamp (hp : s.cueLog.phase = .idle) (hd : s.lamp.darkWaiting = false) (hs : s.transport.state = .playing)
    (hf : s.transport.endFade = .idle) (h0 : 0 < s.items.endFade) (hl : s.lamp.state = .lit)
    (hr : powerDownRuns s.lamp = false) (hn : s.items.fadeOut = 0) :
    (endSequence s).lamp =
      driven { s with lamp := { s.lamp with ramp := s.items.keepWarm, fade := none, restriking := false } } := by
  obtain ⟨lamp, heat, items, transport⟩ := decideRestart_frame s
  obtain ⟨h, dims⟩ := endSequence_dims hp hd hl hr hn rfl lamp heat items
  rw [dims, requestEndFade_starts (by rw [← hs, ← transport]; rfl) (by rw [← hf, ← transport]; rfl)
    (by rw [← items] at h0; exact h0)]

theorem driven_lit {k : Lamp} {n : Nat} (h : k.state = .lit) :
    driven { s with lamp := { k with ramp := n, fade := none, restriking := false } } = { k with
      ramp := n, drive := min n s.heat.ceiling, fade := none, restriking := false
      openCount := if min n s.heat.ceiling < 120 then 0 else k.openCount } := by
  simp [driven, driveOf, h]

end Sys2Proof.Machine

namespace Sys2Proof.Proofs

open Sys2Proof.Machine

/-- Settles O42: a cue is its report and its act (`takeCue_eq`), the end sequence its lamp and its audio fade
(`endSequence_led`), a rest its chase or the loop's end (`brakeEnds_rests`), and a STOP what its brake leaves, the loop ended
behind it (`handMotion_ends`). -/
theorem cuesActAndShowLoops : Obligations.CuesActAndShowLoops := by
  refine ⟨fun kind origin index reel i s s1 s2 hc hn h1 h2 => ?cue, fun s hp => endSequence_ignored hp,
    fun s l hp hd hstill hpre hswap hlit => ?sequence, fun s hp hd hs hf h0 hl hr hn => ?dims,
    fun s g0 n k hs hf hn hp ha hstall hk => ?fadeEnd, fun s hs hd hb hk hp hq => ⟨fun hz hzk ho hst he => ?chases,
      fun hz ha => ?endsLoop⟩,
    fun c s hst hcy ho hab hq hc hl hd hp hs hk hf hlead hsl => ?restarts,
    fun h s phase hv hl ha hk hf hphase => ?stop⟩
  case cue =>
    obtain rfl : s2 = cueReported kind i origin reel s := by rw [h2, h1]; rfl
    have taken := takeCue_eq (origin := origin) (reel := reel) hc hn
    refine ⟨fun e ht he hi hk => ?entry, fun hnone => ⟨?advance, ?mark⟩, ?reverse, ?hold, ?ending,
      fun f u => ⟨offerRelay_off f, offerRelay_conflict, fun hr hf => ⟨offerRelay_sends hr hf,
        fun hb => ⟨offerRelay_queues hr hf hb, offerRelay_full hr hf hb⟩⟩⟩,
      fun u => ⟨fun m hm => ⟨fun hp => ?lost, fun ho hs hq t ht => ?goto, fun ho hs hq n hn => ?step⟩, fun n => rfl,
        fun t => rfl, fun m => rfl, fun tag => rfl, fun level n hd ha hl => takeAction_fade ha hl,
        fun p hp => takeAction_timerStart_unpowered hp, fun p hp ht hh => takeAction_timerStart hp ht hh,
        fun ht => stopTimer_runs ht, fun hh hs => takeHold_still hh hs, fun hh => takeHold_on hh⟩⟩
    case entry =>
      subst hi
      rw [taken, actOnCue_entry hk (by rw [cueReported_table]; exact tableEntry_of_mem ht he)]
    case advance =>
      rintro rfl
      rw [taken, actOnCue_advance (by rw [cueReported_table]; exact tableEntry_eq_none hnone)]
    case mark =>
      rintro rfl
      rw [taken, actOnCue_mark (by rw [cueReported_table]; exact tableEntry_eq_none hnone)]
    case reverse => rintro rfl; exact taken
    case hold => rintro rfl; exact taken
    case ending => rintro rfl; exact taken
    case lost => exact offerCueMove_lost i m (offerRefusal_standby _ (by simp [hp]))
    case goto => subst ht; exact offerCueMove_joins i _ ho hs hq
    case step => subst hn; exact offerCueMove_joins i _ ho hs hq
  case sequence =>
    have led : LampLed l s := ⟨hstill, hpre, hswap, hlit⟩
    refine ⟨fun hs hf h0 => ⟨fun ha => ?_, fun ha hn => ?_, fun ha hn => ?_⟩, endSequence_unheard hp hd led,
      endSequence_rewinds hp hd led⟩
    · exact endSequence_fades hp hd led hs hf h0 (decideRestart_unarmed ha)
    · exact endSequence_fades hp hd led hs hf h0 (decideRestart_again ha hn)
    · exact endSequence_fades hp hd led hs hf h0 (decideRestart_complete ha hn)
  case dims => exact (endSequence_lamp hp hd hs hf h0 hl hr hn).trans (driven_lit hl)
  case fadeEnd =>
    obtain ⟨m, c, e⟩ := endFadeAdvance_stops hs hf hn hp ha hstall hk
    refine ⟨_, withThermal_next e rfl, ?_, rfl, ⟨rfl, rfl, rfl⟩, rfl, ?_, ⟨rfl, rfl, rfl, rfl, rfl⟩⟩
    · exact (braked_transport _ s).trans (by simp [hs, showDest])
    · simp [braked, leftHold, hs]
  case chases =>
    obtain ⟨m, c, e⟩ := brakeEnds_chases hs hd hb hk hp hq hz hzk ho hst he
    exact ⟨_, withThermal_next e rfl, rfl, rfl, rfl, rfl, rfl, rfl, rfl⟩
  case endsLoop =>
    obtain ⟨m, c, e, flag⟩ := brakeEnds_endsLoop hs hd hb hk hp hq hz ha
    exact ⟨_, withThermal_next e rfl, rfl, rfl, by simp [loopOver, phaseAfterEnd, hp], flag, rfl⟩
  case restarts =>
    obtain ⟨m, t, n, log, map, index, e⟩ := settleEnds_restarts hst hcy ho hab hq hc hl hd hp hs hk hf hlead hsl
    exact ⟨_, withThermal_next e rfl, rfl, rfl, rfl, rfl, rfl, rfl, rfl⟩
  case stop =>
    subst hphase
    rcases inMotion_or s.transport.state with hm | hs | hs | hs
    · obtain ⟨m, c, e, flag, reply⟩ := stop_answered hv hl
        (hostMotion_stop_moving (b := h.tag) (s := takePlace 0xA9 h.tag s) ha hk hf hm) rfl
      refine ⟨_, e, flag, rfl, ⟨rfl, rfl, rfl⟩, rfl, ⟨rfl, rfl, rfl, rfl, rfl⟩,
        fun _ => ⟨reply, braked_transport _ _, ?_⟩, fun hs => ?_, fun hs => ?_⟩
      · exact congrArg (fun hold => { s.program with hold := hold }) (leftHold_eq s)
      · simp [inMotion, hs] at hm
      · rcases hs with hs | hs <;> simp [inMotion, hs] at hm
    · obtain ⟨m, c, e, flag, reply⟩ := stop_answered hv hl
        (hostMotion_stop_stopping (b := h.tag) (s := takePlace 0xA9 h.tag s) ha hk hf hs) rfl
      exact ⟨_, e, flag, rfl, ⟨rfl, rfl, rfl⟩, rfl, ⟨rfl, rfl, rfl, rfl, rfl⟩, fun hm => by simp [hs] at hm,
        fun _ => ⟨reply, rfl, rfl⟩, fun hm => by simp [hs] at hm⟩
    · obtain ⟨m, c, e, flag, reply⟩ := stop_answered hv hl
        (hostMotion_stop_stopped (b := h.tag) (s := takePlace 0xA9 h.tag s) ha hk hf hs) rfl
      exact ⟨_, e, flag, rfl, ⟨rfl, rfl, rfl⟩, rfl, ⟨rfl, rfl, rfl, rfl, rfl⟩, fun hm => by simp [hs] at hm,
        fun hm => by simp [hs] at hm, fun _ => ⟨reply, rfl, rfl⟩⟩
    · obtain ⟨m, c, e, flag, reply⟩ := stop_answered hv hl
        (hostMotion_stop_noTape (b := h.tag) (s := takePlace 0xA9 h.tag s) ha hs) rfl
      exact ⟨_, e, flag, rfl, ⟨rfl, rfl, rfl⟩, rfl, ⟨rfl, rfl, rfl, rfl, rfl⟩, fun hm => by simp [hs] at hm,
        fun hm => by simp [hs] at hm, fun _ => ⟨reply, rfl, rfl⟩⟩

end Sys2Proof.Proofs
end
